-- ==== Sys2Proof/Word.lean ====
section
/-! DEFINITION. The two word types of the part: a byte of a frame and a reading of the time base. -/

namespace Sys2Proof

/-- One byte of a frame (R165). -/
abbrev Byte := BitVec 8

/-- A reading of the time base: a 32-bit count of milliseconds that wraps (R2). -/
abbrev Time := BitVec 32

end Sys2Proof
end

