-- ==== Sys2Proof/Syntax.lean ====
section
/-! DEFINITION. The names of the shaft and of the links, and Instr: the commands of spec/opcode_table.json, one constructor a row. Fields of a request's body stand as the raw numbers received, so that values no code assigns can be sent and refused. -/

namespace Sys2Proof

/-- The two winders (R3). -/
inductive Winder where
  | service | rock
  deriving DecidableEq, Repr

/-- The four conveyances, each named by its compartment (R3). -/
inductive Conveyance where
  | cage | counterweight | skip0 | skip1
  deriving DecidableEq, Repr

/-- The three drums (R17). -/
inductive Drum where
  | service | drum0 | drum1
  deriving DecidableEq, Repr

/-- The five links (R164). -/
inductive Link where
  | console | signal | ore | rockDrive | serviceDrive
  deriving DecidableEq, Repr

/-- The request kinds of the catalogue, in its order (section 11.5): the n-th is kind n. -/
inductive Kind where
  | call | openCall | addDeck | closeCall | cancelCall | queryCall | ready | stop | barStation | queryBar
  | addWorkZone | tripStatus | cycle | loaded | tipped | querySkip
  | release | hold | clearHeld | winderReset | setMode | acknowledgeTrip | releaseLockout | readWinder
  | manualTrip | inspectTrip | readQueue | clearBars | removeWorkZone
  | writeZone | removeZone | readZone | readCap | writeGeometry | readGeometry | writeStation | readStation
  | writeRockPoint | readRockPoint | writeClass | readClass | writeTracking | readTracking
  | writeDrumScale | setReference | restartTracking | writeMarker | removeMarker | readMarker
  | readPosition | writeOfferLimit | writeReportInterval | writeSettle | readSettle
  | rePair | setSkipContents | writePayload | readPayload
  | writeEnvelope | readEnvelope | clearIndications | setEnvelopeLock | setTripLock | stopMonitor | startMonitor
  | readFaults | clearFaults | readCounters | clearCounters | commit | identify
  | grant | grantVoid | slow | resume | stopNotice | brake | clutchOpen | clutchClose
  | positionReport | legComplete | driveFault
  deriving DecidableEq, Repr

/-- The four notices of the Winder Controller to a drive (section 6.8). -/
inductive Notice where
  | slow | resume | stop | brake
  deriving DecidableEq, Repr

/-- The two requests of the Rock Coordinator to the rock drive (R138, R140). -/
inductive ClutchOrder where
  | openClutch | closeClutch
  deriving DecidableEq, Repr

/-- A field that a presence byte precedes, as received: 0 for absent, 1 and the field for present, and a byte that no code
assigns, after which no field is taken to follow (R174; log 46). -/
inductive Presence (α : Type) where
  | absent
  | present (a : α)
  | unassigned (code : Nat)
  deriving DecidableEq, Repr

/-- What a request frame carries beside its kind and the fields of its body: the link it arrives on, its tag and
the length L of its body (R165, R166). -/
structure Head where
  link : Link
  tag : Nat
  length : Nat
  deriving DecidableEq, Repr

/-- One byte received, and whether more than 1 ms passed since the byte before it (R165). -/
structure RxByte where
  late : Bool
  byte : Byte
  deriving DecidableEq, Repr

/-- One drum's part of a POSITION REPORT (section 11.6). -/
structure DrumReading where
  count : Int
  speed : Int
  load : Nat
  deriving DecidableEq, Repr

/-- The body of a POSITION REPORT with its codes as received; `second` is drum 1, in a rock report (section 11.6). -/
structure ReportBody where
  driveState : Nat
  faultCode : Nat
  brakeState : Nat
  clutchState : Nat
  first : DrumReading
  second : Option DrumReading
  deriving DecidableEq, Repr

/-- The nine tracking settings (R33). -/
structure Tracking where
  growth : Nat
  coldBand : Nat
  creepThreshold : Nat
  ambiguity : Nat
  warn : Nat
  trip : Nat
  standstill : Nat
  unpermitted : Nat
  pair : Nat
  deriving DecidableEq, Repr

/-- The body of MANUAL TRIP, which its winder field decides (R93); `other` is a winder code that names none. -/
inductive ManualBody where
  | service (station : Nat) (decks : List Nat) (cls : Nat) (riders : Presence (List Nat)) (payload : Presence Nat)
  | rock (rising : Nat)
  | other (winder : Nat)
  deriving DecidableEq, Repr

/-- The commands of the part, one constructor a row of spec/opcode_table.json, in the table's order. -/
inductive Instr where
  | powerOn
  | emergencyStopAsserted (w : Winder)
  | emergencyStopCleared (w : Winder)
  | maintenanceKeyChange (active : Bool)
  | commissioningInputChange (active : Bool)
  | markerPass (reader : Conveyance) (code : Nat)
  | damagedFrame (link : Link) (bytes : List RxByte)
  | strayReplyFrame (link : Link) (kind tag : Nat)
  | unlistedKindRequest (link : Link) (kind tag : Nat)
  | call (h : Head) (station cls : Nat) (decks : List Nat) (riders : Presence (List Nat)) (payload : Presence Nat)
    (priority : Nat)
  | openCall (h : Head) (station cls : Nat)
  | addDeck (h : Head) (deck : Nat)
  | closeCall (h : Head) (riders : Presence (List Nat)) (payload : Presence Nat)
  | assemblyTimeout
  | cancelCall (h : Head) (winder id : Nat)
  | queryCall (h : Head) (winder id : Nat)
  | endedCallExpiry (w : Winder) (id : Nat)
  | ready (h : Head) (trip leg : Nat)
  | grantReply (w : Winder) (tag code : Nat)
  | grantReplyTimeout (w : Winder) (tag : Nat)
  | backoffEnd (w : Winder)
  | grantVoidReply (w : Winder) (tag code : Nat)
  | noticeReply (w : Winder) (notice : Notice) (tag code : Nat)
  | clutchReply (w : Winder) (order : ClutchOrder) (tag code : Nat)
  | requestReplyTimeout (w : Winder) (kind : Kind) (tag : Nat)
  | stop (h : Head) (winder : Nat)
  | stopNotAchieved (w : Winder)
  | barStation (h : Head) (station : Nat)
  | shaftWorkRecordWriteEnd (checkHolds : Bool)
  | queryBar (h : Head) (station : Nat)
  | clearBars (h : Head)
  | addWorkZone (h : Head) (mask : Nat) (upper lower : Int) (label : List Nat)
  | removeWorkZone (h : Head) (number : Nat)
  | tripStatus (h : Head) (winder : Nat)
  | cycle (h : Head) (rising : Nat)
  | loaded (h : Head) (skip mass : Nat)
  | tipped (h : Head) (skip : Nat)
  | querySkip (h : Head) (skip : Nat)
  | release (h : Head) (winder : Nat)
  | hold (h : Head) (winder : Nat)
  | clearHeld (h : Head) (winder : Nat)
  | winderReset (h : Head) (winder : Nat)
  | setMode (h : Head) (winder mode : Nat)
  | acknowledgeTrip (h : Head) (winder : Nat)
  | releaseLockout (h : Head) (winder : Nat)
  | readWinder (h : Head) (winder : Nat)
  | manualTrip (h : Head) (body : ManualBody)
  | inspectTrip (h : Head) (conveyance : Nat) (target : Int)
  | readQueue (h : Head) (winder first : Nat)
  | snapshotExpiry
  | writeZone (h : Head) (number : Presence Nat) (kind mask : Nat) (upper lower : Int) (cap : Presence Nat)
    (label : List Nat)
  | removeZone (h : Head) (number : Nat)
  | readZone (h : Head) (number : Nat)
  | readCap (h : Head) (winder : Nat)
  | writeGeometry (h : Head) (pitch span : Presence Nat)
  | readGeometry (h : Head)
  | writeStation (h : Head) (station : Nat) (depth : Presence Int) (window decks inService : Nat)
  | readStation (h : Head) (station : Nat)
  | writeRockPoint (h : Head) (point : Nat) (depth : Presence Int) (window : Presence Nat)
  | readRockPoint (h : Head) (point : Nat)
  | writeClass (h : Head) (cls speed decel limit : Nat)
  | readClass (h : Head) (cls : Nat)
  | writeTracking (h : Head) (settings : Tracking)
  | readTracking (h : Head)
  | writeDrumScale (h : Head) (drum scale : Nat)
  | setReference (h : Head) (drum : Nat) (depth : Int)
  | restartTracking (h : Head) (winder : Nat)
  | writeMarker (h : Head) (id compartment : Nat) (depth : Int) (accuracy : Nat)
  | removeMarker (h : Head) (id : Nat)
  | readMarker (h : Head) (id : Nat)
  | readPosition (h : Head) (first : Nat)
  | writeOfferLimit (h : Head) (winder limit : Nat)
  | writeReportInterval (h : Head) (winder interval : Nat)
  | writeSettle (h : Head) (winder base cap : Nat)
  | readSettle (h : Head) (winder : Nat)
  | rePair (h : Head) (pocket free : Nat)
  | setSkipContents (h : Head) (skip contents : Nat) (mass : Presence Nat)
  | writePayload (h : Head) (tolerance action : Nat)
  | readPayload (h : Head)
  | writeEnvelope (h : Head) (winder hysteresis mode under margin : Nat)
  | readEnvelope (h : Head) (winder : Nat)
  | clearIndications (h : Head) (winder : Nat)
  | setEnvelopeLock (h : Head) (winder : Nat)
  | setTripLock (h : Head) (winder : Nat)
  | stopMonitor (h : Head) (winder : Nat)
  | startMonitor (h : Head) (winder : Nat)
  | readFaults (h : Head) (first : Nat)
  | clearFaults (h : Head)
  | readCounters (h : Head)
  | clearCounters (h : Head)
  | commit (h : Head)
  | commitWriteEnd (checkHolds : Bool)
  | identify (h : Head)
  | positionReport (h : Head) (body : ReportBody)
  | driveReportTimeout (w : Winder)
  | legComplete (h : Head) (trip leg : Nat)
  | driveFault (h : Head) (code : Nat)
  | settleExpiry (w : Winder)
  | clutchTimerExpiry
  | underTimerExpiry (w : Winder)
  | tripOvertime (w : Winder)
  deriving DecidableEq, Repr

end Sys2Proof
end

