-- ==== Sys2Proof/Decode.lean ====
section
/-! DEFINITION. The command that a word spells by the opcode table's bits: no row of spec/opcode_table.json gives bits, so no word spells one. -/

namespace Sys2Proof

/-- The command a word of the opcode table spells: none, since no row of the table gives bits. -/
def decodeTableWord (_nbits _w : Nat) : Option Instr := none

end Sys2Proof
end

