-- ==== Sys2Proof/Config.lean ====
section
/-! DEFINITION. What one unit fixes and the free values: constants with no body, which no proof can evaluate. -/

namespace Sys2Proof

/-- The n-th random draw of a back-off (R85); the model takes it modulo 2^K (log 7). -/
opaque Config.backoffDraw : Nat → Nat

/-- Whether the n-th store write that ends at its deadline reads back sound (R177, R178; log 6). -/
opaque Config.storeCheck : Nat → Bool

/-- What fixes the hardware revision of the unit (R172; log 8). -/
opaque Config.revisionSeed : Nat

/-- The trip number a GRANT VOID names where the late reply's tag was never a GRANT's (R86; log 9). -/
opaque Config.voidTrip : Nat → Nat

/-- The leg index such a GRANT VOID names (R86; log 9). -/
opaque Config.voidLeg : Nat → Nat

/-- Whether the leg of the trip of this number descends where its target equals its origin (log 10). -/
opaque Config.tieDescends : Nat → Bool

/-- The origin planned from for a conveyance without an estimate, at a reading of the time base (R78; log 10). -/
opaque Config.absentOrigin : Nat → Int

/-- The hardware revision, from 1 to 255, fixed when the unit is built (R172). -/
def Config.hardwareRevision : Nat := 1 + Config.revisionSeed % 255

/-- The rating of a skip, kg (R13). -/
def Config.skipRating : Nat := 20000

/-- The rating of a cage deck, riders (R13). -/
def Config.deckRating : Nat := 60

/-- The rating of the cage, kg of material (R13). -/
def Config.cageRating : Nat := 12000

end Sys2Proof
end

