-- ==== Sys2Proof/Machine/Catalogue.lean ====
section
/-! DEFINITION. The catalogue of request kinds: their numbers and the links that carry them (section 11.5). -/

namespace Sys2Proof.Machine

/-- The number of a kind: its place in the catalogue, counting from 1 (R166). -/
def kindNumber (k : Kind) : Nat := k.ctorIdx + 1

/-- Whether the catalogue lists a kind for a link's role as a request the partner may send; the kinds the part itself
sends are listed for none (section 11.5, R167). -/
def kindListed (k : Kind) (l : Link) : Bool :=
  match k with
  | .call | .barStation | .queryBar | .addWorkZone => l == .signal || l == .console
  | .openCall | .addDeck | .closeCall | .ready => l == .signal
  | .cancelCall | .queryCall | .stop | .tripStatus => l == .signal || l == .ore || l == .console
  | .cycle | .loaded | .tipped | .querySkip => l == .ore
  | .grant | .grantVoid | .slow | .resume | .stopNotice | .brake | .clutchOpen | .clutchClose => false
  | .positionReport | .legComplete | .driveFault => l == .rockDrive || l == .serviceDrive
  | .release | .hold | .clearHeld | .winderReset | .setMode | .acknowledgeTrip | .releaseLockout | .readWinder
  | .manualTrip | .inspectTrip | .readQueue | .clearBars | .removeWorkZone
  | .writeZone | .removeZone | .readZone | .readCap | .writeGeometry | .readGeometry | .writeStation | .readStation
  | .writeRockPoint | .readRockPoint | .writeClass | .readClass | .writeTracking | .readTracking
  | .writeDrumScale | .setReference | .restartTracking | .writeMarker | .removeMarker | .readMarker
  | .readPosition | .writeOfferLimit | .writeReportInterval | .writeSettle | .readSettle
  | .rePair | .setSkipContents | .writePayload | .readPayload
  | .writeEnvelope | .readEnvelope | .clearIndications | .setEnvelopeLock | .setTripLock | .stopMonitor | .startMonitor
  | .readFaults | .clearFaults | .readCounters | .clearCounters | .commit | .identify => l == .console

/-- Every kind, in the order of the catalogue. -/
def allKinds : List Kind :=
  List.flatten (α := Kind)
    [[.call, .openCall, .addDeck, .closeCall, .cancelCall, .queryCall, .ready, .stop, .barStation, .queryBar,
      .addWorkZone, .tripStatus, .cycle, .loaded, .tipped, .querySkip],
     [.release, .hold, .clearHeld, .winderReset, .setMode, .acknowledgeTrip, .releaseLockout, .readWinder,
      .manualTrip, .inspectTrip, .readQueue, .clearBars, .removeWorkZone],
     [.writeZone, .removeZone, .readZone, .readCap, .writeGeometry, .readGeometry, .writeStation, .readStation,
      .writeRockPoint, .readRockPoint, .writeClass, .readClass, .writeTracking, .readTracking],
     [.writeDrumScale, .setReference, .restartTracking, .writeMarker, .removeMarker, .readMarker,
      .readPosition, .writeOfferLimit, .writeReportInterval, .writeSettle, .readSettle],
     [.rePair, .setSkipContents, .writePayload, .readPayload,
      .writeEnvelope, .readEnvelope, .clearIndications, .setEnvelopeLock, .setTripLock, .stopMonitor, .startMonitor],
     [.readFaults, .clearFaults, .readCounters, .clearCounters, .commit, .identify,
      .grant, .grantVoid, .slow, .resume, .stopNotice, .brake, .clutchOpen, .clutchClose,
      .positionReport, .legComplete, .driveFault]]

/-- Whether the catalogue lists the kind of this number for a link's role (R166, R167). -/
def kindNumberListed (number : Nat) (l : Link) : Bool :=
  allKinds.any (fun k => kindNumber k == number && kindListed k l)

/-- Whether a kind byte is a reply's: the kind number of a request plus 128 (R166). -/
def isReplyKind (number : Nat) : Bool := decide (129 ≤ number ∧ number ≤ 210)

end Sys2Proof.Machine
end

