-- ==== Sys2Proof/Machine/State.lean ====
section
/-! DEFINITION. The state of the part: every structure the spec gives its ten blocks, as plain data, and State.reset. -/

namespace Sys2Proof.Machine

/-! ## Families of like things -/

/-- One thing for each winder. -/
structure PerWinder (α : Type) where
  service : α
  rock : α
  deriving DecidableEq, Repr

/-- One thing for each conveyance; of Bool, a class mask (section 3.1). -/
structure PerConveyance (α : Type) where
  cage : α
  counterweight : α
  skip0 : α
  skip1 : α
  deriving DecidableEq, Repr

/-- One thing for each drum. -/
structure PerDrum (α : Type) where
  service : α
  drum0 : α
  drum1 : α
  deriving DecidableEq, Repr

/-- One thing for each link. -/
structure PerLink (α : Type) where
  console : α
  signal : α
  ore : α
  rockDrive : α
  serviceDrive : α
  deriving DecidableEq, Repr

/-- The three decks of the cage (R4). -/
inductive Deck where
  | upper | middle | lower
  deriving DecidableEq, Repr

/-- A set of decks (section 1.6). -/
structure DeckSet where
  upper : Bool
  middle : Bool
  lower : Bool
  deriving DecidableEq, Repr

/-- The two skips. -/
inductive Skip where
  | skip0 | skip1
  deriving DecidableEq, Repr

/-- One thing for each skip. -/
structure PerSkip (α : Type) where
  skip0 : α
  skip1 : α
  deriving DecidableEq, Repr

/-! ## Shaft, stations and classes (chapter 1) -/

/-- The profile classes (section 1.8). -/
inductive Class where
  | men | material | rock | inspection | creep | rePair
  deriving DecidableEq, Repr

/-- The three settings of a class (R11): mm/s, mm/s², s. -/
structure ClassSettings where
  maxSpeed : Nat
  decel : Nat
  limit : Nat
  deriving DecidableEq, Repr

/-- The settings of the six classes. -/
structure PerClass where
  men : ClassSettings
  material : ClassSettings
  rock : ClassSettings
  inspection : ClassSettings
  creep : ClassSettings
  rePair : ClassSettings
  deriving DecidableEq, Repr

/-- A station entry (section 1.6). -/
structure Station where
  depth : Option Int
  window : Nat
  decks : DeckSet
  inService : Bool
  deriving DecidableEq, Repr

/-- The three rock points (section 1.7). -/
inductive RockPoint where
  | tip | pocketA | pocketB
  deriving DecidableEq, Repr

/-- A rock point entry (R10). -/
structure RockPointEntry where
  depth : Int
  window : Nat
  deriving DecidableEq, Repr

/-- The rock point table. -/
structure RockPoints where
  tip : RockPointEntry
  pocketA : RockPointEntry
  pocketB : RockPointEntry
  deriving DecidableEq, Repr

/-- The two loading pockets. -/
inductive Pocket where
  | a | b
  deriving DecidableEq, Repr

/-- The pairing (section 8.4). -/
inductive Pairing where
  | paired (pocket : Pocket)
  | unpaired
  deriving DecidableEq, Repr

/-! ## Position Tracker (chapter 2) -/

/-- A direction of motion (section 2.1). -/
inductive Direction where
  | descending | ascending | stationary
  deriving DecidableEq, Repr

/-- The state of a position record (section 2.1). -/
inductive RecordState where
  | cold | valid | lost
  deriving DecidableEq, Repr

/-- A position record (section 2.1), with the suppression list that the Zone Table keeps for its conveyance (R52).
`reportEstimate` is the estimate as the latest report left it, from which a marker pass extrapolates (R25). -/
structure Position where
  estimate : Option Int
  reportEstimate : Option Int
  band : Nat
  base : Nat
  travel : Nat
  lastMarker : Option Nat
  correction : Int
  speed : Int
  direction : Direction
  rest : Bool
  state : RecordState
  motionRef : Option Int
  armed : Bool
  zoneSet : List Nat
  suppressed : List Nat
  deriving DecidableEq, Repr

/-- The reference pair of a drum (section 2.3). -/
structure Reference where
  depth : Int
  count : Int
  deriving DecidableEq, Repr

/-- A marker table entry (section 2.5). -/
structure Marker where
  id : Nat
  compartment : Conveyance
  depth : Int
  accuracy : Nat
  deriving DecidableEq, Repr

/-- The drive state of a report (section 2.2). -/
inductive DriveState where
  | ready | notReady | fault
  deriving DecidableEq, Repr

/-- The brake state of a report. -/
inductive Brake where
  | applied | lifted
  deriving DecidableEq, Repr

/-- The clutch state of a rock report. -/
inductive Clutch where
  | opened | closed | moving
  deriving DecidableEq, Repr

/-- The latest position report of a winder, whole, with its reading of the time base (R16).
`clutch` is absent in a service report; `second` is drum 1's part of a rock report. -/
structure Report where
  at_ : Time
  drive : DriveState
  faultCode : Nat
  brake : Brake
  clutch : Option Clutch
  first : DrumReading
  second : DrumReading
  deriving DecidableEq, Repr

/-! ## Zone Table (chapter 3) -/

/-- The five kinds of zone (section 3.2). -/
inductive ZoneKind where
  | slow | passing | work | overwind | inspect
  deriving DecidableEq, Repr

/-- A zone entry (section 3.1); its number is its place in the table. -/
structure Zone where
  kind : ZoneKind
  mask : PerConveyance Bool
  upper : Int
  lower : Int
  cap : Option Nat
  label : List Nat
  deriving DecidableEq, Repr

/-- The term that gives a cap its least value (R47). -/
inductive CapTerm where
  | cls
  | slow (zone : Nat)
  | passing (zone : Nat)
  | creepBand
  | approach
  | inspection
  deriving DecidableEq, Repr

/-- A winder's cap with its limiting term; a cap of 0 outside RUNNING and STOPPING has none (R47, R49). -/
structure Cap where
  speed : Nat
  term : Option CapTerm
  deriving DecidableEq, Repr

/-! ## Call Manager (chapter 4) -/

/-- What a call asks for (section 4.1). -/
inductive CallWork where
  | cage (station : Fin 16) (cls : Class) (decks : List Deck) (riders : Option (List Nat)) (payload : Option Nat)
  | cycle (rising : Skip)
  deriving DecidableEq, Repr

/-- The state of a queued call (R55). -/
inductive CallState where
  | waiting | heldBar | heldWork | heldPairing
  deriving DecidableEq, Repr

/-- A call record (section 4.1). -/
structure Call where
  id : Nat
  origin : Link
  work : CallWork
  priority : Bool
  state : CallState
  arrival : Time
  deriving DecidableEq, Repr

/-- The ten outcomes of a trip (section 5.5). -/
inductive TripOutcome where
  | completed | completedRelevelled | heldPartial | stopped | stoppedBar | aborted | landingFailed
  | driveRefused | payloadRefused | withdrawn
  deriving DecidableEq, Repr

/-- Why a call ended, and what that reason carries (R64). -/
inductive EndReason where
  | cancelled
  | refusedZone (zone : Nat)
  | refusedLoad
  | absorbed (into : Nat)
  | tripEnded (trip : Nat) (outcome : TripOutcome)
  deriving DecidableEq, Repr

/-- An entry of an ended-call list (R64). -/
structure Ended where
  id : Nat
  at_ : Time
  reason : EndReason
  deriving DecidableEq, Repr

/-- An open call assembly (section 4.5). -/
structure Assembly where
  station : Fin 16
  cls : Class
  decks : List Deck
  openedAt : Time
  deriving DecidableEq, Repr

/-! ## Trip Pipeline (chapters 5 and 7) -/

/-- The kinds of trip, in the order R174 codes them. -/
inductive TripKind where
  | cage | rockCycle | inspection | manual | rePair
  deriving DecidableEq, Repr

/-- The state of a leg (R75). -/
inductive LegState where
  | pending | offered | moving | settling | landed | failed
  deriving DecidableEq, Repr

/-- One moving conveyance of a leg, with its target and window (R75). -/
structure LegMotion where
  conveyance : Conveyance
  target : Int
  window : Option Nat
  deriving DecidableEq, Repr

/-- A leg record (section 5.1). -/
structure Leg where
  motions : List LegMotion
  leading : Conveyance
  deck : Option Deck
  cls : Class
  direction : Direction
  relevels : Nat
  state : LegState
  deriving DecidableEq, Repr

/-- A trip record (section 5.1). The source call is kept whole, since a withdrawal returns it (R62); `station` is the one
its legs land at (R91, R119); `granted` says that the first GRANT of the trip has been sent (R82, R132, R134). -/
structure Trip where
  number : Nat
  kind : TripKind
  cls : Class
  source : Option Call
  station : Option (Fin 16)
  legs : List Leg
  current : Nat
  ready : Bool
  granted : Bool
  offerCount : Nat
  motionTime : Nat
  recovery : Bool
  deriving DecidableEq, Repr

/-- An offer in progress: its GRANT's reply is awaited, or a back-off runs (R83, R85). -/
inductive Offer where
  | awaiting (tag : Nat) (expiry : Time)
  | backoff (expiry : Time)
  deriving DecidableEq, Repr

/-- A running settle timer (section 7.1). -/
structure SettleTimer where
  expiry : Time
  trip : Nat
  leg : Nat
  deriving DecidableEq, Repr

/-- An outcome record (R88). -/
structure OutcomeRecord where
  trip : Nat
  outcome : TripOutcome
  deriving DecidableEq, Repr

/-- The Trip Pipeline of one winder. -/
structure Pipe where
  staged : Option Trip
  active : Option Trip
  offer : Option Offer
  latest : Option OutcomeRecord
  prior : Option OutcomeRecord
  lastTrip : Nat
  settle : Option SettleTimer
  deriving DecidableEq, Repr

/-! ## Winder Controller (chapter 6) -/

/-- The nine states of a winder (section 6.2), in the order R174 codes them. -/
inductive WinderState where
  | parked | idle | running | settling | dwelling | stopping | clutching | tripped | lockout
  deriving DecidableEq, Repr

/-- The modes of a winder. -/
inductive Mode where
  | automatic | manual | inspection
  deriving DecidableEq, Repr

/-- Why a winder is in STOPPING (section 6.1). -/
inductive StopCause where
  | request | bar
  deriving DecidableEq, Repr

/-- The silent condition (R111). -/
inductive Silent where
  | clear | noteStanding | tripRaised
  deriving DecidableEq, Repr

/-- The winder record (section 6.1), its two outputs (R97), the reading at which its state was entered (R111), and
whether a report has been taken since then (R105, R106). -/
structure WinderRecord where
  state : WinderState
  mode : Mode
  holdPending : Bool
  held : Bool
  recovery : Bool
  stopPending : Bool
  stopCause : Option StopCause
  stopStarted : Option Time
  silent : Silent
  driveFaultLatch : Bool
  slowCap : Option Nat
  permit : Bool
  brakeDemand : Bool
  enteredAt : Time
  reportInState : Bool
  deriving DecidableEq, Repr

/-! ## Rock Coordinator (chapter 8) -/

/-- What a skip holds; the mass is present only while Loaded (R128). -/
inductive Contents where
  | empty
  | loaded (mass : Nat)
  | suspect
  | unknown
  deriving DecidableEq, Repr

/-- A contents record (section 8.1). -/
structure SkipRecord where
  contents : Contents
  changedAt : Time
  deriving DecidableEq, Repr

/-- The phases of a re-pair (section 8.4). -/
inductive RePairPhase where
  | opening | freeMove | closing
  deriving DecidableEq, Repr

/-- A re-pair in hand: its phase, target pocket and free skip, and the outcome that an offer ended without an
acceptance leaves for the confirmation that ends the re-pair (R139). -/
structure RePair where
  phase : RePairPhase
  pocket : Pocket
  free : Skip
  offerEnd : Option TripOutcome
  deriving DecidableEq, Repr

/-- The payload action (R134). -/
inductive PayloadAction where
  | refuse | flag
  deriving DecidableEq, Repr

/-! ## Envelope Monitor (chapter 9) -/

/-- The indication mode (section 9.1). -/
inductive IndicationMode where
  | follow | latched
  deriving DecidableEq, Repr

/-- The four envelope settings (R149). -/
structure EnvelopeSettings where
  hysteresis : Nat
  mode : IndicationMode
  under : Nat
  margin : Nat
  deriving DecidableEq, Repr

/-- The monitor's record but for its settings, which are part of the working configuration (section 9.1). -/
structure Monitor where
  running : Bool
  envelopeLock : Bool
  tripLock : Bool
  speed : Nat
  cap : Cap
  overCondition : Bool
  overIndication : Bool
  underCondition : Bool
  underIndication : Bool
  underTimer : Option Time
  critical : Bool
  deriving DecidableEq, Repr

/-! ## Fault Recorder (chapter 10) -/

/-- The fault kinds (section 10.1), in the order of its table. -/
inductive FaultKind where
  | emergencyStop | overspeed | overwind | workZoneEntry | inspectZoneEntry | positionLost | markerDisagreement
  | pairDisagreement | unpermittedMotion | driveSilent | driveFault | tripOvertime | stopNotAchieved | clutchFault
  | landingNotAchieved | overFault | underFault | payloadMismatch | driveRefused | unknownMarker | storeInvalid
  deriving DecidableEq, Repr

/-- The severities (section 10.1). -/
inductive Severity where
  | trip | stop | note
  deriving DecidableEq, Repr

/-- A fault entry (section 10.2). `cap` is the cap that OVERSPEED carries with its other items, absent for every other
kind (R145, log 32). -/
structure FaultEntry where
  kind : FaultKind
  severity : Severity
  winder : Option Winder
  conveyance : Option Conveyance
  depth : Option Int
  band : Nat
  speed : Int
  trip : Option Nat
  zone : Option Nat
  detail : Option Int
  time : Time
  cap : Option Nat
  deriving DecidableEq, Repr

/-- The counters of one winder (section 10.7). -/
structure Counters where
  completed : Nat
  aborted : Nat
  relevels : Nat
  landingFailures : Nat
  driveRefusals : Nat
  deriving DecidableEq, Repr

/-! ## Configuration Store (chapter 12) -/

/-- The settle settings of a winder (section 7.1). -/
structure SettleSettings where
  base : Nat
  cap : Nat
  deriving DecidableEq, Repr

/-- The working configuration, but for the items that stand with the block that changes them: the stretch
corrections (in the position records), the zone table and the pairing (R175). -/
structure Settings where
  pitch : Nat
  span : Nat
  stations : Vector Station 16
  rockPoints : RockPoints
  classes : PerClass
  scales : PerDrum Nat
  references : PerDrum Reference
  markers : List Marker
  tracking : Tracking
  offerLimit : PerWinder Nat
  reportInterval : PerWinder Nat
  settle : PerWinder SettleSettings
  payloadTolerance : Nat
  payloadAction : PayloadAction
  envelope : PerWinder EnvelopeSettings
  deriving DecidableEq, Repr

/-- One copy of the stored configuration, with its check and its generation (R175). -/
structure StoredConfig where
  settings : Settings
  corrections : PerConveyance Int
  zones : List (Nat × Zone)
  pairing : Pairing
  generation : BitVec 32
  sound : Bool
  deriving DecidableEq, Repr

/-- One copy of the shaft work record, with its check (R178). -/
structure ShaftRecord where
  bars : Vector Bool 16
  work : List (Nat × Zone)
  sound : Bool
  deriving DecidableEq, Repr

/-- A commit in progress: the copy being written to the spare, and the reading by which it ends (R176). -/
structure CommitWrite where
  copy : StoredConfig
  deadline : Time
  deriving DecidableEq, Repr

/-- A shaft work record write in progress (R178). -/
structure RecordWrite where
  copy : ShaftRecord
  deadline : Time
  deriving DecidableEq, Repr

/-! ## Link Interface (chapter 11) -/

/-- The reception state of a port; In frame holds the bytes collected after the start byte (R164, R165). -/
inductive Reception where
  | hunting
  | inFrame (bytes : List Byte)
  deriving DecidableEq, Repr

/-- A port's reception (R164). -/
structure Port where
  reception : Reception
  lastByteAt : Time
  deriving DecidableEq, Repr

/-- An awaited reply of a drive link (R170). -/
structure Awaited where
  kind : Kind
  tag : Nat
  expiry : Time
  deriving DecidableEq, Repr

/-- The trip and leg a GRANT of this tag named (R86). -/
structure GrantSent where
  tag : Nat
  trip : Nat
  leg : Nat
  deriving DecidableEq, Repr

/-- The sending side of a drive link (R164, R170). -/
structure DriveLink where
  tagCount : Nat
  awaited : List Awaited
  grants : List GrantSent
  deriving DecidableEq, Repr

/-- The refusal reasons, in the order of their numbers 1 to 52 (R169). -/
inductive Reason where
  | outOfRange | notForThisLink | malformed | notParked | notCommissioning | winderState | notAtRest | stationInUse
  | noLandingDepth | notInService | deckNotServed | deckRepeated | queueFull | inProgress | noSuchCall | noAssembly
  | noDecks | assemblyFull | wrongLeg | noSuchTrip | notManualMode | notInspectionMode | holdPending | stagedBusy
  | stationBarred | unpaired | workZone | inspectZone | overRating | clutchMoving | recoveryDirection | recovery
  | commissioning | unconfigured | monitorStopped | monitorRunning | emergencyStop | driveSilent | positionLost | held
  | keyNotActive | skipState | skipInUse | samePairing | locked | tableFull | noSuchMarker | noSuchZone | notAWorkZone
  | wrongKind | zoneOccupied | noSnapshot
  deriving DecidableEq, Repr

/-- A reply code with its reason (R169). -/
inductive Code where
  | done | merged | refused (reason : Reason) | busy
  deriving DecidableEq, Repr

/-- Where a call is (R64). -/
inductive Whereabouts where
  | queued (state : CallState) (position : Nat)
  | staged (trip : Nat) (ready : Bool)
  | active (trip : Nat) (leg : Nat)
  | ended (reason : EndReason)
  deriving DecidableEq, Repr

/-- One item of a paged answer (R171). -/
inductive PageItem where
  | call (position : Nat) (call : Call)
  | primary (entry : Option FaultEntry)
  | fault (position : Nat) (entry : FaultEntry)
  | position (conveyance : Conveyance) (record : Position)
  deriving DecidableEq, Repr

/-- The part of a paged answer repeated in every page (R171). -/
inductive PageCommon where
  | queue (stagedOccupied : Bool) (admission : Nat)
  | faults (overflow : Nat)
  | positions (reports : PerWinder (Option Time)) (passes : PerConveyance (Option Time))
  deriving DecidableEq, Repr

/-- The paged reads of the console link; READ QUEUE names a winder (R171). -/
inductive ReadKind where
  | queue (winder : Winder)
  | faults
  | positions
  deriving DecidableEq, Repr

/-- The page snapshot: the whole answer of a read and the reading at which it was formed (R171). -/
structure Snapshot where
  kind : ReadKind
  common : PageCommon
  items : List PageItem
  formedAt : Time
  deriving DecidableEq, Repr

/-- The trip part of TRIP STATUS for the active slot (R89). -/
structure ActiveStatus where
  trip : Nat
  kind : TripKind
  leg : Nat
  legs : Nat
  deriving DecidableEq, Repr

/-- The trip part of TRIP STATUS for the staged slot (R89). -/
structure StagedStatus where
  trip : Nat
  call : Option Nat
  ready : Bool
  deriving DecidableEq, Repr

/-- What a Done or Merged reply carries after its header (R169). -/
inductive Answer where
  | nothing
  | callId (id : Nat)
  | tripNumber (trip : Nat)
  | zoneNumber (number : Nat)
  | indications (overSet underSet : Bool)
  | whereabouts (w : Whereabouts)
  | bar (barred : Bool)
  | tripStatus (state : WinderState) (active : Option ActiveStatus) (staged : Option StagedStatus)
      (latest prior : Option OutcomeRecord)
  | skip (record : SkipRecord) (atTip atPocketA atPocketB : Bool) (pairing : Pairing) (clutch : Option Clutch)
      (phase : Option RePairPhase)
  | winder (record : WinderRecord) (brake : Option Brake) (drive : Option DriveState)
  | page (total first : Nat) (items : List PageItem) (common : PageCommon)
  | zone (entry : Option (Nat × Zone))
  | cap (cap : Cap) (approach : Option (Nat × Nat))
  | geometry (pitch span : Nat)
  | station (entry : Station)
  | rockPoint (entry : RockPointEntry)
  | cls (settings : ClassSettings)
  | tracking (settings : Tracking)
  | marker (entry : Marker)
  | settle (settings : SettleSettings)
  | payload (tolerance : Nat) (action : PayloadAction)
  | envelope (settings : EnvelopeSettings) (monitor : Monitor) (timeLeft : Option Nat)
  | counters (winders : PerWinder Counters) (metres : PerConveyance Nat) (frames : PerLink Nat)
  | identity (vendor part : List Nat) (revision : Nat) (generation : BitVec 32) (commissioning unconfigured : Bool)
  deriving DecidableEq, Repr

/-- A reply: its code, whether its request abandoned an assembly (the flags byte), and its contents (R169). -/
structure Reply where
  code : Code
  abandoned : Bool
  answer : Answer
  deriving DecidableEq, Repr

/-- One drum's part of a GRANT (section 11.6). -/
structure GrantDrum where
  drum : Drum
  target : Int
  count : Int
  deriving DecidableEq, Repr

/-- A request of the part to a drive (section 11.5, kinds 72 to 79). -/
inductive Order where
  | grant (trip leg : Nat) (speed decel : Nat) (drums : List GrantDrum)
  | grantVoid (trip leg : Nat)
  | slow (cap : Nat)
  | resume
  | stop (trip : Nat)
  | brake
  | clutchOpen
  | clutchClose
  deriving DecidableEq, Repr

/-- A frame the part sends: a reply to the request of this kind byte and tag on a link, or a request to a drive. -/
inductive Sent where
  | reply (link : Link) (kind tag : Nat) (reply : Reply)
  | order (w : Winder) (tag : Nat) (order : Order)
  deriving DecidableEq, Repr

/-! ## The whole state -/

/-- The state of the part. `sent` holds the frames sent in the latest event (log 3), `draws` counts the free values
used (log 7), `pending` is the queue of commands, first in, first out (log 1). -/
@[ext]
structure State where
  now : Time
  emergencyLine : PerWinder Bool
  maintenanceKey : Bool
  commissioningLine : Bool
  commissioning : Bool
  unconfigured : Bool
  generation : BitVec 32
  work : Settings
  storedCurrent : StoredConfig
  storedSpare : StoredConfig
  commit : Option CommitWrite
  recordCurrent : ShaftRecord
  recordSpare : ShaftRecord
  recordWrite : Option RecordWrite
  ports : PerLink Port
  drives : PerWinder DriveLink
  snapshot : Option Snapshot
  sent : List Sent
  positions : PerConveyance Position
  reports : PerWinder (Option Report)
  drumDepth : PerDrum (Option Int)
  metresFrom : PerDrum (Option Int)
  lastPass : PerConveyance (Option Time)
  startupCheck : Bool
  pairBeyond : Bool
  zones : List (Nat × Zone)
  caps : PerWinder Cap
  restricted : PerWinder Bool
  queues : PerWinder (List Call)
  lastCallId : PerWinder Nat
  ended : PerWinder (List Ended)
  assembly : Option Assembly
  bars : Vector Bool 16
  pipes : PerWinder Pipe
  winders : PerWinder WinderRecord
  skips : PerSkip SkipRecord
  pairing : Pairing
  clutch : Option Clutch
  repair : Option RePair
  clutchTimer : Option Time
  monitors : PerWinder Monitor
  primary : Option FaultEntry
  faults : List FaultEntry
  overflow : Nat
  counters : PerWinder Counters
  metres : PerConveyance Nat
  remainders : PerConveyance Nat
  frameErrors : PerLink Nat
  draws : Nat
  pending : List Instr
  deriving DecidableEq, Repr

/-- Why a command could stop the part with a fault: the spec gives every command of the table an effect in every
state, so no command does, and the type is empty. -/
inductive Fault where
  deriving DecidableEq, Repr

/-- Why a command could be refused by the model. -/
inductive Refusal where
  /-- Raised by an arm of Dispatch.lean whose command has no meaning yet; safe. -/
  | notModelled (mnemonic : String)
  deriving DecidableEq, Repr

/-! ## The values of the spec's defaults and power-on tables -/

/-- All three decks (section 1.6). -/
def DeckSet.all : DeckSet := ⟨true, true, true⟩

/-- S0 where the stored configuration fails its check (R14). -/
def Station.bank : Station := ⟨some 0, 40, DeckSet.all, true⟩

/-- S1 to S15 where the stored configuration fails its check (R14). -/
def Station.blank : Station := ⟨none, 40, DeckSet.all, false⟩

/-- The defaults of the profile classes (section 1.8). -/
def PerClass.defaults : PerClass where
  men := ⟨12000, 750, 480⟩
  material := ⟨14000, 900, 480⟩
  rock := ⟨16000, 1000, 360⟩
  inspection := ⟨1000, 500, 7200⟩
  creep := ⟨500, 500, 120⟩
  rePair := ⟨4000, 750, 600⟩

/-- The default rock points (section 1.7). -/
def RockPoints.defaults : RockPoints where
  tip := ⟨-28000, 60⟩
  pocketA := ⟨2960000, 60⟩
  pocketB := ⟨3040000, 60⟩

/-- The default tracking settings (section 2.9). -/
def trackingDefaults : Tracking := ⟨20, 600, 250, 1000, 100, 400, 50, 100, 2500⟩

/-- The default envelope settings (R152). -/
def EnvelopeSettings.defaults : EnvelopeSettings := ⟨100, .follow, 25, 10⟩

/-- The working configuration where the stored configuration fails its check (R14, R35, R95, R115, R116, R134, R152). -/
def Settings.defaults : Settings where
  pitch := 4600
  span := 3110000
  stations := (Vector.replicate 16 Station.blank).set 0 Station.bank
  rockPoints := RockPoints.defaults
  classes := PerClass.defaults
  scales := ⟨10000, 10000, 10000⟩
  references := ⟨⟨0, 0⟩, ⟨0, 0⟩, ⟨0, 0⟩⟩
  markers := []
  tracking := trackingDefaults
  offerLimit := ⟨4, 4⟩
  reportInterval := ⟨100, 100⟩
  settle := ⟨⟨1500, 2⟩, ⟨1500, 2⟩⟩
  payloadTolerance := 1000
  payloadAction := .refuse
  envelope := ⟨EnvelopeSettings.defaults, EnvelopeSettings.defaults⟩

/-- A copy of the stored configuration that nothing was ever written to (DESIGN CHOICE, log 4). -/
def StoredConfig.blank : StoredConfig := ⟨Settings.defaults, ⟨0, 0, 0, 0⟩, [], .unpaired, 0, false⟩

/-- A copy of the shaft work record that nothing was ever written to (DESIGN CHOICE, log 4). -/
def ShaftRecord.blank : ShaftRecord := ⟨Vector.replicate 16 false, [], false⟩

/-- A position record at power-on, with its cold band and its stored stretch correction (R35). -/
def Position.atPowerOn (coldBand : Nat) (correction : Int) : Position where
  estimate := none
  reportEstimate := none
  band := coldBand
  base := coldBand
  travel := 0
  lastMarker := none
  correction := correction
  speed := 0
  direction := .stationary
  rest := true
  state := .cold
  motionRef := none
  armed := true
  zoneSet := []
  suppressed := []

/-- A Trip Pipeline at power-on (R95, R127). -/
def Pipe.atPowerOn : Pipe := ⟨none, none, none, none, none, 65535, none⟩

/-- A winder record at power-on (R115). -/
def WinderRecord.atPowerOn : WinderRecord where
  state := .parked
  mode := .automatic
  holdPending := false
  held := false
  recovery := false
  stopPending := false
  stopCause := none
  stopStarted := none
  silent := .clear
  driveFaultLatch := false
  slowCap := none
  permit := false
  brakeDemand := false
  enteredAt := 0
  reportInState := false

/-- An Envelope Monitor at power-on (R152). -/
def Monitor.atPowerOn : Monitor := ⟨true, false, false, 0, ⟨0, none⟩, false, false, false, false, none, false⟩

/-- A port at power-on (R164). -/
def Port.atPowerOn : Port := ⟨.hunting, 0⟩

/-- The sending side of a drive link at power-on (R164). -/
def DriveLink.atPowerOn : DriveLink := ⟨0, [], []⟩

/-- Counters at power-on (R163). -/
def Counters.zero : Counters := ⟨0, 0, 0, 0, 0⟩

/-- The entry of a STORE INVALID of the start-up sequence (R153, R179). -/
def FaultEntry.startupStoreInvalid : FaultEntry :=
  ⟨.storeInvalid, .note, none, none, none, 0, 0, none, none, none, 0, none⟩

/-- The part right after the power-on of a unit whose stored configuration and shaft work record both fail their checks
and whose input lines are inactive: every other value is the one R179 and the rules it names give (DESIGN CHOICE,
logs 4 and 5). -/
def State.reset : State where
  now := 0
  emergencyLine := ⟨false, false⟩
  maintenanceKey := false
  commissioningLine := false
  commissioning := false
  unconfigured := true
  generation := 0
  work := Settings.defaults
  storedCurrent := StoredConfig.blank
  storedSpare := StoredConfig.blank
  commit := none
  recordCurrent := ShaftRecord.blank
  recordSpare := ShaftRecord.blank
  recordWrite := none
  ports := ⟨Port.atPowerOn, Port.atPowerOn, Port.atPowerOn, Port.atPowerOn, Port.atPowerOn⟩
  drives := ⟨DriveLink.atPowerOn, DriveLink.atPowerOn⟩
  snapshot := none
  sent := []
  positions := ⟨Position.atPowerOn 600 0, Position.atPowerOn 600 0, Position.atPowerOn 600 0, Position.atPowerOn 600 0⟩
  reports := ⟨none, none⟩
  drumDepth := ⟨none, none, none⟩
  metresFrom := ⟨none, none, none⟩
  lastPass := ⟨none, none, none, none⟩
  startupCheck := true
  pairBeyond := false
  zones := []
  caps := ⟨⟨0, none⟩, ⟨0, none⟩⟩
  restricted := ⟨false, false⟩
  queues := ⟨[], []⟩
  lastCallId := ⟨250, 250⟩
  ended := ⟨[], []⟩
  assembly := none
  bars := Vector.replicate 16 true
  pipes := ⟨Pipe.atPowerOn, Pipe.atPowerOn⟩
  winders := ⟨WinderRecord.atPowerOn, WinderRecord.atPowerOn⟩
  skips := ⟨⟨.unknown, 0⟩, ⟨.unknown, 0⟩⟩
  pairing := .unpaired
  clutch := none
  repair := none
  clutchTimer := none
  monitors := ⟨Monitor.atPowerOn, Monitor.atPowerOn⟩
  primary := none
  faults := [FaultEntry.startupStoreInvalid, FaultEntry.startupStoreInvalid]
  overflow := 0
  counters := ⟨Counters.zero, Counters.zero⟩
  metres := ⟨0, 0, 0, 0⟩
  remainders := ⟨0, 0, 0, 0⟩
  frameErrors := ⟨0, 0, 0, 0, 0⟩
  draws := 0
  pending := []

end Sys2Proof.Machine
end

