-- ==== Sys2Proof/Machine/Ops.lean ====
section
/-! DEFINITION. The named operations over the state that every block uses: families of like things, the time base, exact arithmetic, who owns what, and the queries of a winder. -/

namespace Sys2Proof.Machine

/-! ## Families of like things -/

/-- The thing of one winder. -/
def PerWinder.get {α : Type} (p : PerWinder α) : Winder → α
  | .service => p.service
  | .rock => p.rock

/-- The family with one winder's thing replaced. -/
def PerWinder.set {α : Type} (p : PerWinder α) (w : Winder) (a : α) : PerWinder α :=
  match w with
  | .service => { p with service := a }
  | .rock => { p with rock := a }

/-- The thing of one conveyance. -/
def PerConveyance.get {α : Type} (p : PerConveyance α) : Conveyance → α
  | .cage => p.cage
  | .counterweight => p.counterweight
  | .skip0 => p.skip0
  | .skip1 => p.skip1

/-- The family with one conveyance's thing replaced. -/
def PerConveyance.set {α : Type} (p : PerConveyance α) (c : Conveyance) (a : α) : PerConveyance α :=
  match c with
  | .cage => { p with cage := a }
  | .counterweight => { p with counterweight := a }
  | .skip0 => { p with skip0 := a }
  | .skip1 => { p with skip1 := a }

/-- The thing of one drum. -/
def PerDrum.get {α : Type} (p : PerDrum α) : Drum → α
  | .service => p.service
  | .drum0 => p.drum0
  | .drum1 => p.drum1

/-- The family with one drum's thing replaced. -/
def PerDrum.set {α : Type} (p : PerDrum α) (d : Drum) (a : α) : PerDrum α :=
  match d with
  | .service => { p with service := a }
  | .drum0 => { p with drum0 := a }
  | .drum1 => { p with drum1 := a }

/-- The thing of one link. -/
def PerLink.get {α : Type} (p : PerLink α) : Link → α
  | .console => p.console
  | .signal => p.signal
  | .ore => p.ore
  | .rockDrive => p.rockDrive
  | .serviceDrive => p.serviceDrive

/-- The family with one link's thing replaced. -/
def PerLink.set {α : Type} (p : PerLink α) (l : Link) (a : α) : PerLink α :=
  match l with
  | .console => { p with console := a }
  | .signal => { p with signal := a }
  | .ore => { p with ore := a }
  | .rockDrive => { p with rockDrive := a }
  | .serviceDrive => { p with serviceDrive := a }

/-- The thing of one skip. -/
def PerSkip.get {α : Type} (p : PerSkip α) : Skip → α
  | .skip0 => p.skip0
  | .skip1 => p.skip1

/-- The family with one skip's thing replaced. -/
def PerSkip.set {α : Type} (p : PerSkip α) (k : Skip) (a : α) : PerSkip α :=
  match k with
  | .skip0 => { p with skip0 := a }
  | .skip1 => { p with skip1 := a }

/-- The settings of one class. -/
def PerClass.get (p : PerClass) : Class → ClassSettings
  | .men => p.men
  | .material => p.material
  | .rock => p.rock
  | .inspection => p.inspection
  | .creep => p.creep
  | .rePair => p.rePair

/-- The classes with the settings of one replaced. -/
def PerClass.set (p : PerClass) (c : Class) (a : ClassSettings) : PerClass :=
  match c with
  | .men => { p with men := a }
  | .material => { p with material := a }
  | .rock => { p with rock := a }
  | .inspection => { p with inspection := a }
  | .creep => { p with creep := a }
  | .rePair => { p with rePair := a }

/-- The entry of one rock point. -/
def RockPoints.get (p : RockPoints) : RockPoint → RockPointEntry
  | .tip => p.tip
  | .pocketA => p.pocketA
  | .pocketB => p.pocketB

/-- The rock point table with one entry replaced. -/
def RockPoints.set (p : RockPoints) (r : RockPoint) (a : RockPointEntry) : RockPoints :=
  match r with
  | .tip => { p with tip := a }
  | .pocketA => { p with pocketA := a }
  | .pocketB => { p with pocketB := a }

/-- Whether a deck is in a set. -/
def DeckSet.has (s : DeckSet) : Deck → Bool
  | .upper => s.upper
  | .middle => s.middle
  | .lower => s.lower

/-! ## Numbered tables: lists with strictly rising numbers -/

/-- The entry at a number of a table. -/
def tableGet {α : Type} (t : List (Nat × α)) (n : Nat) : Option α :=
  (t.find? (fun e => e.1 == n)).map (·.2)

/-- The table with an entry placed at a number, replacing any entry there. -/
def tablePut {α : Type} (t : List (Nat × α)) (n : Nat) (a : α) : List (Nat × α) :=
  match t with
  | [] => [(n, a)]
  | e :: rest =>
    if e.1 < n then e :: tablePut rest n a
    else if e.1 = n then (n, a) :: rest
    else (n, a) :: e :: rest

/-- The table with a number freed. -/
def tableDrop {α : Type} (t : List (Nat × α)) (n : Nat) : List (Nat × α) :=
  t.filter (fun e => e.1 != n)

/-- The lowest number from `from_`, of `count` numbers, that the table does not hold. -/
def lowestFree {α : Type} (t : List (Nat × α)) (from_ : Nat) : Nat → Option Nat
  | 0 => none
  | count + 1 => if (tableGet t from_).isNone then some from_ else lowestFree t (from_ + 1) count

/-- The lowest free number of the ordinary partition, 16 to 63 (R36). -/
def lowestFreeOrdinary (t : List (Nat × Zone)) : Option Nat := lowestFree t 16 48

/-! ## The time base (R2) -/

/-- The duration from an earlier reading to a later one: their difference modulo 2^32. -/
def elapsed (earlier later : Time) : Nat := (later - earlier).toNat

/-- The reading so many milliseconds ahead. -/
def ahead (t : Time) (ms : Nat) : Time := t + BitVec.ofNat 32 ms

/-- Whether an expiry reading has been reached: no measured duration comes near half a turn of the time base. -/
def reached (now expiry : Time) : Bool := decide ((now - expiry).toNat < 2147483648)

/-! ## Exact arithmetic -/

/-- n / d to the nearest whole number, a half away from zero (R17, R83). -/
def roundDiv (n : Int) (d : Nat) : Int :=
  if 0 ≤ n then (2 * n + d) / (2 * d) else -((2 * (-n) + d) / (2 * d))

/-- n / d rounded up (R20, R48). -/
def ceilDiv (n d : Nat) : Nat := (n + d - 1) / d

/-- The bits of a whole square root from bit k - 1 down, r holding the bits above. -/
def sqrtFrom (n : Nat) : Nat → Nat → Nat
  | 0, r => r
  | k + 1, r => if (r + 2 ^ k) * (r + 2 ^ k) ≤ n then sqrtFrom n k (r + 2 ^ k) else sqrtFrom n k r

/-- The whole square root of n, rounded down, for n below 2^64 (R48). -/
def wholeSqrt (n : Nat) : Nat := sqrtFrom n 32 0

/-- A counter that rises to 4,294,967,295 and stays there (R161, R162). -/
def saturate (n : Nat) : Nat := min n 4294967295

/-- The representable depths (R1). -/
def depthInRange (d : Int) : Bool := decide (-60000 ≤ d ∧ d ≤ 3200000)

/-- Whether n lies from lo to hi. -/
def between (lo hi n : Nat) : Bool := decide (lo ≤ n ∧ n ≤ hi)

/-! ## Who owns what (R3) -/

/-- The winder that owns a conveyance. -/
def ownerOf : Conveyance → Winder
  | .cage | .counterweight => .service
  | .skip0 | .skip1 => .rock

/-- The first conveyance of a winder (R153). -/
def firstConveyance : Winder → Conveyance
  | .service => .cage
  | .rock => .skip0

/-- The other conveyance of a winder. -/
def secondConveyance : Winder → Conveyance
  | .service => .counterweight
  | .rock => .skip1

/-- The conveyances of a winder, in the order in which they are taken (R50). -/
def conveyancesOf (w : Winder) : List Conveyance := [firstConveyance w, secondConveyance w]

/-- The drum a conveyance hangs from. -/
def drumOf : Conveyance → Drum
  | .cage | .counterweight => .service
  | .skip0 => .drum0
  | .skip1 => .drum1

/-- The conveyance that owns a drum. -/
def drumOwner : Drum → Conveyance
  | .service => .cage
  | .drum0 => .skip0
  | .drum1 => .skip1

/-- The winder a drum belongs to. -/
def drumWinder (d : Drum) : Winder := ownerOf (drumOwner d)

/-- The drums of a winder. -/
def drumsOf : Winder → List Drum
  | .service => [.service]
  | .rock => [.drum0, .drum1]

/-- The conveyances hung from a drum. -/
def hungFrom : Drum → List Conveyance
  | .service => [.cage, .counterweight]
  | .drum0 => [.skip0]
  | .drum1 => [.skip1]

/-- The conveyance of a skip. -/
def Skip.conveyance : Skip → Conveyance
  | .skip0 => .skip0
  | .skip1 => .skip1

/-- The other skip. -/
def Skip.other : Skip → Skip
  | .skip0 => .skip1
  | .skip1 => .skip0

/-- The skip that a conveyance is, if it is one. -/
def skipOf : Conveyance → Option Skip
  | .skip0 => some .skip0
  | .skip1 => some .skip1
  | .cage | .counterweight => none

/-- The drive link of a winder (R164). -/
def driveLink : Winder → Link
  | .service => .serviceDrive
  | .rock => .rockDrive

/-- The winder whose drive a link is of (R164). -/
def driveWinder : Link → Option Winder
  | .serviceDrive => some .service
  | .rockDrive => some .rock
  | .console | .signal | .ore => none

/-- The rock point of a pocket. -/
def Pocket.point : Pocket → RockPoint
  | .a => .pocketA
  | .b => .pocketB

/-- The part of a report that gives a drum's count, speed and load (section 11.6). -/
def Report.reading (r : Report) : Drum → DrumReading
  | .service | .drum0 => r.first
  | .drum1 => r.second

/-! ## The state by winder and by conveyance -/

/-- The Trip Pipeline of a winder. -/
def State.pipe (s : State) (w : Winder) : Pipe := s.pipes.get w

/-- The winder record of a winder. -/
def State.winder (s : State) (w : Winder) : WinderRecord := s.winders.get w

/-- The Envelope Monitor of a winder. -/
def State.monitor (s : State) (w : Winder) : Monitor := s.monitors.get w

/-- The position record of a conveyance. -/
def State.position (s : State) (c : Conveyance) : Position := s.positions.get c

/-- The state with a winder's pipeline changed. -/
def State.withPipe (s : State) (w : Winder) (f : Pipe → Pipe) : State :=
  { s with pipes := s.pipes.set w (f (s.pipes.get w)) }

/-- The state with a winder's record changed. -/
def State.withWinder (s : State) (w : Winder) (f : WinderRecord → WinderRecord) : State :=
  { s with winders := s.winders.set w (f (s.winders.get w)) }

/-- The state with a winder's monitor changed. -/
def State.withMonitor (s : State) (w : Winder) (f : Monitor → Monitor) : State :=
  { s with monitors := s.monitors.set w (f (s.monitors.get w)) }

/-- The state with a conveyance's position record changed. -/
def State.withPosition (s : State) (c : Conveyance) (f : Position → Position) : State :=
  { s with positions := s.positions.set c (f (s.positions.get c)) }

/-- The state with a winder's call queue changed. -/
def State.withQueue (s : State) (w : Winder) (f : List Call → List Call) : State :=
  { s with queues := s.queues.set w (f (s.queues.get w)) }

/-- The state with a winder's drive link changed. -/
def State.withDrive (s : State) (w : Winder) (f : DriveLink → DriveLink) : State :=
  { s with drives := s.drives.set w (f (s.drives.get w)) }

/-- The state with a winder's counters changed. -/
def State.withCounters (s : State) (w : Winder) (f : Counters → Counters) : State :=
  { s with counters := s.counters.set w (f (s.counters.get w)) }

/-- Whether a winder is in a state. -/
def State.isIn (s : State) (w : Winder) (st : WinderState) : Bool := (s.winder w).state == st

/-- Whether both winders are PARKED. -/
def State.bothParked (s : State) : Bool := s.isIn .service .parked && s.isIn .rock .parked

/-- The motion states (R111). -/
def WinderState.isMotion (st : WinderState) : Bool := st == .running || st == .stopping

/-- Whether a winder is in RUNNING or STOPPING. -/
def State.inMotion (s : State) (w : Winder) : Bool := (s.winder w).state.isMotion

/-- Whether the latest report exists and left its winder at rest (R15). -/
def State.latestAtRest (s : State) (w : Winder) : Bool :=
  (s.reports.get w).isSome && (conveyancesOf w).all (fun c => (s.position c).rest)

/-! ## Trips and legs -/

/-- The current leg of a trip: the leg its current leg index names, counting from 1 (section 5.1). -/
def Trip.leg (t : Trip) : Option Leg := t.legs[t.current - 1]?

/-- The trip with its current leg changed. -/
def Trip.withLeg (t : Trip) (f : Leg → Leg) : Trip :=
  { t with legs := t.legs.modify (t.current - 1) f }

/-- Whether every rule on rock cycles acts on a trip: a rock cycle, or a manual trip of class Rock (R74). -/
def Trip.isRockCycle (t : Trip) : Bool := t.kind == .rockCycle || (t.kind == .manual && t.cls == .rock)

/-- The conveyances a leg moves. -/
def Leg.conveyances (l : Leg) : List Conveyance := l.motions.map (·.conveyance)

/-- Whether a leg moves both skips. -/
def Leg.isCoupled (l : Leg) : Bool := l.conveyances.contains .skip0 && l.conveyances.contains .skip1

/-- The target of a conveyance in a leg, where the leg moves it. -/
def Leg.target (l : Leg) (c : Conveyance) : Option Int :=
  (l.motions.find? (fun m => m.conveyance == c)).map (·.target)

/-- The current leg of a winder's active trip. -/
def State.activeLeg (s : State) (w : Winder) : Option Leg := (s.pipe w).active.bind Trip.leg

/-- The number of a winder's active trip. -/
def State.activeNumber (s : State) (w : Winder) : Option Nat := (s.pipe w).active.map (·.number)

/-- The conveyances that a winder's active leg moves. -/
def State.moved (s : State) (w : Winder) : List Conveyance := ((s.activeLeg w).map Leg.conveyances).getD []

/-- The leading conveyance of a winder's active leg. -/
def State.leading (s : State) (w : Winder) : Option Conveyance := (s.activeLeg w).map (·.leading)

end Sys2Proof.Machine
end

