-- ==== Sys2Proof/Machine/Calls.lean ====
section
/-! DEFINITION. The Call Manager: call ids, the queues, the ended-call lists, merging, admission, the return of a call, holds and their release (chapter 4). -/

namespace Sys2Proof.Machine

/-! ## Call ids (R56) -/

/-- The source call of a slot, where it has one. -/
def sourceId (slot : Option Trip) : Option Nat := (slot.bind (·.source)).map (·.id)

/-- The live ids of a winder: in the queue, staged, active or in the ended-call list (R56). -/
def State.liveIds (s : State) (w : Winder) : List Nat :=
  (s.queues.get w).map (·.id) ++ (sourceId (s.pipe w).staged).toList ++ (sourceId (s.pipe w).active).toList ++
  (s.ended.get w).map (·.id)

/-- The id after an id, wrapping from 250 to 1. -/
def idAfter (n : Nat) : Nat := if 250 ≤ n then 1 else n + 1

/-- The first id from n, of so many, that is not live. -/
def freeIdFrom (live : List Nat) (n : Nat) : Nat → Nat
  | 0 => n
  | count + 1 => if live.contains n then freeIdFrom live (idAfter n) count else n

/-- The id that the next admitted call of a winder takes (R56). -/
def State.nextCallId (s : State) (w : Winder) : Nat :=
  freeIdFrom (s.liveIds w) (idAfter (s.lastCallId.get w)) 250

/-! ## The ended-call lists (R64) -/

/-- A list of at most 16 with one more entry, the oldest leaving first. -/
def addEnded (l : List Ended) (e : Ended) : List Ended := l.drop (l.length - 15) ++ [e]

/-- A call recorded in its winder's ended-call list. -/
def State.recordEnded (s : State) (w : Winder) (id : Nat) (reason : EndReason) : State :=
  { s with ended := s.ended.set w (addEnded (s.ended.get w) ⟨id, s.now, reason⟩) }

/-! ## Merging and admission (R57 to R61) -/

/-- Decks in the order U, M, L, each once (R55). -/
def orderedDecks (decks : List Deck) : List Deck := [Deck.upper, .middle, .lower].filter decks.contains

/-- The rider counts of decks, put in the order U, M, L with their decks (R55). -/
def orderedRiders (decks : List Deck) (riders : List Nat) : List Nat :=
  (orderedDecks decks).filterMap (fun d => ((decks.zip riders).find? (fun p => p.1 == d)).map (·.2))

/-- Whether two calls ask for the same: the same station, set of decks and class, or the same rising skip (R59, R60). -/
def CallWork.merges : CallWork → CallWork → Bool
  | .cage st cls decks _ _, .cage st' cls' decks' _ _ =>
    st == st' && cls == cls' && orderedDecks decks == orderedDecks decks'
  | .cycle k, .cycle k' => k == k'
  | .cage .., .cycle _ => false
  | .cycle _, .cage .. => false

/-- The entry of a queue that a request merges with, where there is one. -/
def mergingEntry (queue : List Call) (work : CallWork) : Option Call := queue.find? (fun c => c.work.merges work)

/-- The admission count of a winder (R59). -/
def State.admissionCount (s : State) (w : Winder) : Nat :=
  (s.queues.get w).length + (if (s.pipe w).staged.isSome then 1 else 0)

/-- The greatest admission count of a winder (R59). -/
def admissionLimit : Winder → Nat
  | .service => 24
  | .rock => 4

/-- A queue with the entry of an id moved to the head, its priority flag set (R59). -/
def moveToHead (queue : List Call) (id : Nat) : List Call :=
  ((queue.find? (fun c => c.id == id)).map (fun c => { c with priority := true })).toList ++
  queue.filter (fun c => c.id != id)

/-- The state in which a call is admitted: Held-bar to a barred station (R58), Held-pairing for a cycle while Unpaired
(R60), and Waiting otherwise. -/
def State.admittedState (s : State) : CallWork → CallState
  | .cage st _ _ _ _ => if s.bars[st] then .heldBar else .waiting
  | .cycle _ => if s.pairing = .unpaired then .heldPairing else .waiting

/-- The merge and admission tests, and the admission (R56, R59, R60, R61). -/
def State.mergeOrAdmit (s : State) (w : Winder) (link : Link) (work : CallWork) (priority : Bool) :
    State × (Code × Answer) :=
  match mergingEntry (s.queues.get w) work with
  | some c =>
    (if priority then s.withQueue w (fun q => moveToHead q c.id) else s, (.merged, .callId c.id))
  | none =>
    if s.admissionCount w < admissionLimit w then
      let id := s.nextCallId w
      let c : Call := ⟨id, link, work, priority, s.admittedState work, s.now⟩
      ({ s.withQueue w (fun q => if priority then c :: q else q ++ [c]) with lastCallId := s.lastCallId.set w id },
        doneCall id)
    else (s, (.refused .queueFull, .nothing))
where
  doneCall (id : Nat) : Code × Answer := (.done, .callId id)

/-! ## The tests of a cage call (R58) -/

/-- The rules of R58 on counts and payload. -/
def countsOk (cls : Class) (decks : List Deck) (riders : Option (List Nat)) (payload : Option Nat) : Bool :=
  match cls with
  | .men => payload.isNone && riders.all (fun l => l.length == decks.length)
  | .material => riders.isNone
  | .rock | .inspection | .creep | .rePair => false

/-- Each rider count from 0 to 255 and a payload from 0 to 65,535 (R58). -/
def countsInRange (riders : Option (List Nat)) (payload : Option Nat) : Bool :=
  riders.all (fun l => l.all (between 0 255)) && payload.all (between 0 65535)

/-- A station as an index of the station table. -/
def State.stationAt (s : State) (st : Fin 16) : Station := s.work.stations[st]

/-- The tests of R58 after the fields are known to be in range, in their order; none where all pass. -/
def State.cageCallTests (s : State) (st : Fin 16) (cls : Class) (decks : List Deck) (riders : Option (List Nat))
    (payload : Option Nat) : Option Reason :=
  if !countsOk cls decks riders payload then some .outOfRange
  else if !decide decks.Nodup then some .deckRepeated
  else if !(s.stationAt st).inService then some .notInService
  else if !decks.all (s.stationAt st).decks.has then some .deckNotServed
  else none

/-- A cage call tested as R58 states and then merged or admitted as R59 states. -/
def State.admitCageCall (s : State) (link : Link) (st : Fin 16) (cls : Class) (decks : List Deck)
    (riders : Option (List Nat)) (payload : Option Nat) (priority : Bool) : State × (Code × Answer) :=
  match s.cageCallTests st cls decks riders payload with
  | some r => (s, (.refused r, .nothing))
  | none =>
    s.mergeOrAdmit .service link
      (.cage st cls (orderedDecks decks) (riders.map (orderedRiders decks)) payload) priority

/-! ## Leaving and coming back (R57, R62) -/

/-- A queue without the entry of an id. -/
def dropCall (queue : List Call) (id : Nat) : List Call := queue.filter (fun c => c.id != id)

/-- A queue with the entry of an id put in a state. -/
def holdCall (queue : List Call) (id : Nat) (st : CallState) : List Call :=
  queue.map (fun c => if c.id = id then { c with state := st } else c)

/-- The state in which a returned call is placed: a cycle returned as Waiting while Unpaired is Held-pairing (R62). -/
def State.returnedState (s : State) (work : CallWork) (st : CallState) : CallState :=
  match work with
  | .cycle _ => if st = .waiting ∧ s.pairing = .unpaired then .heldPairing else st
  | .cage .. => st

/-- A call returned from the staged slot to the head of its queue, absorbing an entry that would merge with it (R62). -/
def State.returnCall (s : State) (w : Winder) (c : Call) (st : CallState) : State :=
  let back := { c with state := s.returnedState c.work st }
  match mergingEntry (s.queues.get w) c.work with
  | none => s.withQueue w (fun q => back :: q)
  | some e =>
    (s.withQueue w (fun q => { back with priority := c.priority || e.priority } :: dropCall q e.id)).recordEnded w e.id
      (.absorbed c.id)

/-! ## Holds (R43, R69, R70, R71) -/

/-- Every entry of a queue in one state put in another, its place kept. -/
def releaseCalls (queue : List Call) (held : CallState) : List Call :=
  queue.map (fun c => if c.state = held then { c with state := .waiting } else c)

/-- Whether a call names a station. -/
def CallWork.names (work : CallWork) (st : Fin 16) : Bool :=
  match work with
  | .cage station _ _ _ _ => station == st
  | .cycle _ => false

/-- Every Waiting entry that names a station made Held-bar (R70). -/
def holdForBar (queue : List Call) (st : Fin 16) : List Call :=
  queue.map (fun c => if c.state = .waiting ∧ c.work.names st then { c with state := .heldBar } else c)

/-- Every Held-work entry of both queues made Waiting (R43). -/
def State.releaseHeldWork (s : State) : State :=
  (s.withQueue .service (fun q => releaseCalls q .heldWork)).withQueue .rock (fun q => releaseCalls q .heldWork)

end Sys2Proof.Machine
end

