-- ==== Sys2Proof/Machine/Operands.lean ====
section
/-! DEFINITION. The coded fields of request bodies and what each code names (R174); a code that names nothing is out of range (R167). -/

namespace Sys2Proof

/-- A field sent as its value or its absence, its presence byte 1 or 0 (R174). -/
def Presence.of {α : Type} : Option α → Presence α
  | none => .absent
  | some a => .present a

/-- What a presence byte and its field say; none where the byte is one that no code assigns (R174). -/
def Presence.read {α : Type} : Presence α → Option (Option α)
  | .absent => some none
  | .present a => some (some a)
  | .unassigned _ => none

end Sys2Proof

namespace Sys2Proof.Machine

/-- A winder field: 0 service, 1 rock. -/
def winderCode : Nat → Option Winder
  | 0 => some .service
  | 1 => some .rock
  | _ => none

/-- A station field: Sn is n. -/
def stationCode (n : Nat) : Option (Fin 16) := if h : n < 16 then some ⟨n, h⟩ else none

/-- A deck field: its index (R4). -/
def deckCode : Nat → Option Deck
  | 0 => some .upper
  | 1 => some .middle
  | 2 => some .lower
  | _ => none

/-- A class field: its place in the table of section 1.8. -/
def classCode : Nat → Option Class
  | 0 => some .men
  | 1 => some .material
  | 2 => some .rock
  | 3 => some .inspection
  | 4 => some .creep
  | 5 => some .rePair
  | _ => none

/-- The class of a cage call: Men or Material (R58). -/
def cageClassCode : Nat → Option Class
  | 0 => some .men
  | 1 => some .material
  | _ => none

/-- A skip field: its number. -/
def skipCode : Nat → Option Skip
  | 0 => some .skip0
  | 1 => some .skip1
  | _ => none

/-- A conveyance field: 0 to 3 in the order cage, counterweight, skip 0, skip 1. -/
def conveyanceCode : Nat → Option Conveyance
  | 0 => some .cage
  | 1 => some .counterweight
  | 2 => some .skip0
  | 3 => some .skip1
  | _ => none

/-- A drum field: 0 service drum, 1 drum 0, 2 drum 1 (the GRANT body). -/
def drumCode : Nat → Option Drum
  | 0 => some .service
  | 1 => some .drum0
  | 2 => some .drum1
  | _ => none

/-- A rock point field: its place in the table of section 1.7. -/
def rockPointCode : Nat → Option RockPoint
  | 0 => some .tip
  | 1 => some .pocketA
  | 2 => some .pocketB
  | _ => none

/-- A target pocket field: 0 for A, 1 for B, as the pairing field first lists them (section 8.4; log 20). -/
def pocketCode : Nat → Option Pocket
  | 0 => some .a
  | 1 => some .b
  | _ => none

/-- A mode field: its place in the table of section 6.1. -/
def modeCode : Nat → Option Mode
  | 0 => some .automatic
  | 1 => some .manual
  | 2 => some .inspection
  | _ => none

/-- A zone kind field: its place in the table of section 3.1. -/
def zoneKindCode : Nat → Option ZoneKind
  | 0 => some .slow
  | 1 => some .passing
  | 2 => some .work
  | 3 => some .overwind
  | 4 => some .inspect
  | _ => none

/-- A flag: 0 clear, 1 set, as TRIP STATUS codes its flags (log 20). -/
def flagCode : Nat → Option Bool
  | 0 => some false
  | 1 => some true
  | _ => none

/-- A payload action field: 0 Refuse, 1 Flag (R134; log 20). -/
def payloadActionCode : Nat → Option PayloadAction
  | 0 => some .refuse
  | 1 => some .flag
  | _ => none

/-- An indication mode field: 0 Follow, 1 Latched (section 9.1). -/
def indicationModeCode : Nat → Option IndicationMode
  | 0 => some .follow
  | 1 => some .latched
  | _ => none

/-- A class mask: one byte, bit i for the conveyance coded i; R174 gives a set no form (DESIGN CHOICE, log 58). -/
def maskCode (n : Nat) : Option (PerConveyance Bool) :=
  if n < 16 then some ⟨n.testBit 0, n.testBit 1, n.testBit 2, n.testBit 3⟩ else none

/-- A deck set: one byte, bit j for the deck of index j; R174 gives a set no form (DESIGN CHOICE, log 58). -/
def deckSetCode (n : Nat) : Option DeckSet :=
  if n < 8 then some ⟨n.testBit 0, n.testBit 1, n.testBit 2⟩ else none

/-- A drive state code of a POSITION REPORT (section 11.6). -/
def driveStateCode : Nat → Option DriveState
  | 0 => some .ready
  | 1 => some .notReady
  | 2 => some .fault
  | _ => none

/-- A brake state code of a POSITION REPORT. -/
def brakeCode : Nat → Option Brake
  | 0 => some .applied
  | 1 => some .lifted
  | _ => none

/-- A clutch state code of a rock POSITION REPORT. -/
def clutchCode : Nat → Option Clutch
  | 0 => some .opened
  | 1 => some .closed
  | 2 => some .moving
  | _ => none

/-- A contents field of SET SKIP CONTENTS with its mass, which only Loaded takes (R128, R132). -/
def contentsCode (code : Nat) (mass : Option Nat) : Option Contents :=
  match code with
  | 0 => some .empty
  | 1 => mass.bind (fun m => if m ≤ 65535 then some (.loaded m) else none)
  | 2 => some .suspect
  | 3 => some .unknown
  | _ => none

/-- The codes of a list, or none where one names nothing. -/
def codes {α : Type} (f : Nat → Option α) : List Nat → Option (List α)
  | [] => some []
  | n :: rest =>
    match f n, codes f rest with
    | some a, some as => some (a :: as)
    | _, _ => none

/-- A label: 0 to 12 printable characters, taken as the codes 32 to 126 (section 3.1; log 28). -/
def labelOk (label : List Nat) : Bool := decide (label.length ≤ 12) && label.all (between 32 126)

/-! ## Body lengths (R167, R174; logs 20 and 46) -/

/-- The size of a field that a presence byte precedes. -/
def optionalSize {α : Type} (size : Nat) : Presence α → Nat
  | .present _ => 1 + size
  | .absent | .unassigned _ => 1

/-- The size of a list of one-byte items, or of a text. -/
def listSize (l : List Nat) : Nat := 1 + l.length

/-- The size of rider counts that may be absent. -/
def ridersSize : Presence (List Nat) → Nat
  | .present l => 1 + listSize l
  | .absent | .unassigned _ => 1

/-- The length that the body of MANUAL TRIP permits, its winder byte first; a winder code that names none leaves the
rest of the body unknown, and any length is passed on to be refused "Out of range". -/
def manualSize (h : Head) : ManualBody → Nat
  | .service _ decks _ riders payload => 3 + listSize decks + ridersSize riders + optionalSize 2 payload
  | .rock _ => 2
  | .other _ => h.length

end Sys2Proof.Machine
end

