-- ==== Sys2Proof/Machine/Links.lean ====
section
/-! DEFINITION. The Link Interface: reception of frames, the requests sent to the drives and their awaited replies, replies, and the screen that every request passes (chapter 11). -/

namespace Sys2Proof.Machine

/-! ## Reception (R165) -/

/-- One bit of the CRC register's advance, for x^16 + x^12 + x^5 + 1, taking the data bit `d`. -/
def crcBit (r : BitVec 16) (d : Bool) : BitVec 16 :=
  if (r.msb != d) then (r <<< 1) ^^^ 0x1021#16 else r <<< 1

/-- The CRC register after one byte, most significant bit first. -/
def crcByte (r : BitVec 16) (b : Byte) : BitVec 16 :=
  [7, 6, 5, 4, 3, 2, 1, 0].foldl (fun r i => crcBit r (b.getLsbD i)) r

/-- The CRC of a frame's length, kind, tag and body bytes, the register preset to all ones (R165). -/
def crcOf (bytes : List Byte) : BitVec 16 := bytes.foldl crcByte 0xFFFF#16

/-- What a byte brings about at a port. -/
inductive Received where
  | nothing
  | damaged
  | frame (bytes : List Byte)
  deriving DecidableEq, Repr

/-- A byte received in Hunting: only the start byte 0xA5 is not ignored. -/
def huntByte (b : Byte) : Reception := if b = 0xA5#8 then .inFrame [] else .hunting

/-- Whether the CRC bytes that end a frame are those of the bytes before them, high byte first. -/
def crcHolds (bytes : List Byte) : Bool :=
  let n := bytes.length - 2
  bytes.drop n == [(crcOf (bytes.take n)).extractLsb' 8 8, (crcOf (bytes.take n)).extractLsb' 0 8]

/-- A port's reception of one byte (R165): the next reception state and what the byte brought about. -/
def receiveByte (r : Reception) (rx : RxByte) : Reception × Received :=
  match r with
  | .hunting => (huntByte rx.byte, .nothing)
  | .inFrame bytes =>
    if rx.late then (huntByte rx.byte, .damaged)
    else
      let got := bytes ++ [rx.byte]
      let bodyLength := (got.headD 0#8).toNat
      if 96 < bodyLength then (.hunting, .damaged)
      else if got.length < 3 + bodyLength + 2 then (.inFrame got, .nothing)
      else if crcHolds got then (.hunting, .frame got)
      else (.hunting, .damaged)

/-- The reception state after a run of bytes, and the frames, damaged or whole, that the run brought, in order. -/
def receiveBytes (r : Reception) : List RxByte → Reception × List Received
  | [] => (r, [])
  | rx :: rest =>
    let one := receiveByte r rx
    let more := receiveBytes one.1 rest
    (more.1, if one.2 = .nothing then more.2 else one.2 :: more.2)

/-- Whether more than 1 ms has passed since a port's last byte, as its reading and the present one show it: readings that differ
by 1 may be less than 1 ms apart (R165; log 26). -/
def Port.gapPassed (p : Port) (now : Time) : Bool := decide (1 < elapsed p.lastByteAt now)

/-- Bytes as they come to a port: the first is late too where the port's reading of its last byte shows a gap (R164, R165). -/
def Port.hear (p : Port) (now : Time) : List RxByte → List RxByte
  | [] => []
  | rx :: rest => { rx with late := rx.late || p.gapPassed now } :: rest

/-- The reading of a port's last byte once a run of bytes has come to it (R164). -/
def Port.lastAfter (p : Port) (now : Time) (bytes : List RxByte) : Time := if bytes.isEmpty then p.lastByteAt else now

/-- The frame errors of a link raised by so many damaged frames (R162, R165). -/
def State.countFrameErrors (s : State) (l : Link) (n : Nat) : State :=
  { s with frameErrors := s.frameErrors.set l (saturate (s.frameErrors.get l + n)) }

/-- The reception of a whole good frame, completed now. Bytes of an earlier frame that still stand at the port can only
have been followed by a gap, which discards them as damaged (R165; log 26). -/
def State.frameArrives (s : State) (l : Link) : State :=
  let damaged := match (s.ports.get l).reception with
    | .hunting => 0
    | .inFrame _ => 1
  { (s.countFrameErrors l damaged) with ports := s.ports.set l ⟨.hunting, s.now⟩ }

/-! ## Sending -/

/-- The state at the start of an event: nothing sent yet (log 3). -/
def State.begin (s : State) : State := { s with sent := [] }

/-- The state with one more frame sent. -/
def State.emit (s : State) (m : Sent) : State := { s with sent := s.sent ++ [m] }

/-- The kind of a request the part sends to a drive (section 11.5). -/
def Order.kind : Order → Kind
  | .grant .. => .grant
  | .grantVoid .. => .grantVoid
  | .slow _ => .slow
  | .resume => .resume
  | .stop _ => .stopNotice
  | .brake => .brake
  | .clutchOpen => .clutchOpen
  | .clutchClose => .clutchClose

/-- A drive link once a request has been sent on it: the request takes the tag count as its tag, the count rises by
one, wrapping, and the request's reply is awaited for 500 ms (R170). A GRANT's trip and leg are kept by its tag (R86). -/
def DriveLink.send (d : DriveLink) (now : Time) (o : Order) : DriveLink where
  tagCount := (d.tagCount + 1) % 256
  awaited := d.awaited ++ [⟨o.kind, d.tagCount, ahead now 500⟩]
  grants := match o with
    | .grant trip leg _ _ _ => d.grants.filter (fun g => g.tag != d.tagCount) ++ [⟨d.tagCount, trip, leg⟩]
    | _ => d.grants

/-- The tag that the next request on a winder's drive link takes (R170). -/
def State.nextTag (s : State) (w : Winder) : Nat := (s.drives.get w).tagCount

/-- A request sent on a winder's drive link (R170). -/
def State.sendOrder (s : State) (w : Winder) (o : Order) : State :=
  (s.withDrive w (fun d => d.send s.now o)).emit (.order w (s.nextTag w) o)

/-- Whether a reply of this kind and tag is awaited on a winder's drive link (R170). -/
def State.isAwaited (s : State) (w : Winder) (k : Kind) (tag : Nat) : Bool :=
  (s.drives.get w).awaited.any (fun a => a.kind == k && a.tag == tag)

/-- The awaited list without the entry of this kind and tag (R170). -/
def State.dropAwaited (s : State) (w : Winder) (k : Kind) (tag : Nat) : State :=
  s.withDrive w (fun d => { d with awaited := d.awaited.filter (fun a => !(a.kind == k && a.tag == tag)) })

/-- Whether the entry of this kind and tag has reached its expiry (R170). -/
def State.awaitedExpired (s : State) (w : Winder) (k : Kind) (tag : Nat) : Bool :=
  (s.drives.get w).awaited.any (fun a => a.kind == k && a.tag == tag && reached s.now a.expiry)

/-! ## Replies (R169) -/

/-- A Done with nothing after the header. -/
def done : Code × Answer := (.done, .nothing)

/-- A Done with contents. -/
def doneWith (a : Answer) : Code × Answer := (.done, a)

/-- A refusal. -/
def refuse (r : Reason) : Code × Answer := (.refused r, .nothing)

/-- The reply to a request: it goes out on the request's link with its tag; its kind byte is the request's number plus
128 (R166). -/
def State.reply (s : State) (h : Head) (kind : Nat) (abandoned : Bool) (r : Code × Answer) : State :=
  s.emit (.reply h.link (kind + 128) h.tag ⟨r.1, abandoned, r.2⟩)

/-- The first test of a table that fails, each row saying whether its test fails and the refusal it gives. -/
def firstFailing : List (Bool × Reason) → Option Reason
  | [] => none
  | (fails, r) :: rest => if fails then some r else firstFailing rest

/-- A request refused by the first failing test of its table, and otherwise taken. -/
def State.tested (s : State) (tests : List (Bool × Reason)) (act : State → State × (Code × Answer)) :
    State × (Code × Answer) :=
  match firstFailing tests with
  | some r => (s, refuse r)
  | none => act s

/-! ## The screen (R167) -/

/-- The tests of R167 in their order; none where the request is handed to its block. `length` is the one its kind
permits on the link, `winder` its winder field where it has one. -/
def screen (s : State) (h : Head) (k : Kind) (length : Nat) (winder : Option Nat) : Option Code :=
  if !kindListed k h.link then some (.refused .notForThisLink)
  else if h.length ≠ length then some (.refused .malformed)
  else if (h.link = .signal ∧ winder = some 1) ∨ (h.link = .ore ∧ winder = some 0) then
    some (.refused .notForThisLink)
  else if s.commit.isSome && h.link == .console && !([Kind.identify, .tripStatus, .readPosition].contains k) then
    some .busy
  else if s.recordWrite.isSome && [Kind.addWorkZone, .removeWorkZone, .barStation, .clearBars].contains k then
    some .busy
  else none

/-- Whether a request, whatever the screen answers, abandons an open assembly: any on the signal link but ADD DECK and
CLOSE CALL (R68, R167). -/
def abandons (s : State) (l : Link) (isAddOrClose : Bool) : Bool :=
  l == .signal && !isAddOrClose && s.assembly.isSome

/-- The state with an open assembly abandoned where `b` says so (R68). -/
def State.abandonIf (s : State) (b : Bool) : State := if b then { s with assembly := none } else s

/-- The state with the page snapshot dropped by a request on the console link (R171). -/
def State.dropSnapshot (s : State) (l : Link) : State := if l = .console then { s with snapshot := none } else s

/-- A request taken up to its screen: its frame has arrived, and an open assembly is abandoned where R68 says so. -/
def State.takeRequest (s : State) (h : Head) (k : Kind) : State :=
  (s.begin.frameArrives h.link).abandonIf (abandons s h.link (k == .addDeck || k == .closeCall))

/-- Whether the block that took a request abandoned an open assembly, as WINDER RESET of the service winder does
(R68, R73, R169). -/
def blockAbandons (k : Kind) (before after : State) : Bool :=
  k == .winderReset && before.assembly.isSome && after.assembly.isNone

/-- A request on the console, signal or ore link: taken, screened, and where it passes the screen handed to its block,
whose answer is its reply in the same event (R167, R168). -/
def request (s : State) (h : Head) (k : Kind) (length : Nat) (winder : Option Nat)
    (act : State → State × (Code × Answer)) : State :=
  let flag := abandons s h.link (k == .addDeck || k == .closeCall)
  let taken := (s.takeRequest h k).dropSnapshot h.link
  match screen taken h k length winder with
  | some code => taken.reply h (kindNumber k) flag (code, .nothing)
  | none => let r := act taken; r.1.reply h (kindNumber k) (flag || blockAbandons k s r.1) r.2

/-- A request of a drive: as `request`, but the reply goes out before any frame that its work causes on the same link,
since the request is answered when it is taken (R168, R173; log 11). The answer is formed from the state the request
finds. -/
def driveRequest (s : State) (h : Head) (k : Kind) (length : Nat) (answer : State → Code × Answer)
    (act : State → State) : State :=
  let flag := abandons s h.link (k == .addDeck || k == .closeCall)
  let taken := (s.takeRequest h k).dropSnapshot h.link
  match screen taken h k length none with
  | some code => taken.reply h (kindNumber k) flag (code, .nothing)
  | none => act (taken.reply h (kindNumber k) flag (answer taken))

/-- A request that only reads: the state is as the request found it, and the answer is formed from it. -/
def readRequest (s : State) (h : Head) (k : Kind) (length : Nat) (winder : Option Nat)
    (answer : State → Code × Answer) : State :=
  request s h k length winder (fun t => (t, answer t))

/-- A request with a field that a presence byte precedes: a byte that no code assigns is out of range, and is refused before
the tests of the request's rule (R167, R174; DESIGN CHOICE, log 46). CLOSE CALL, whose refusal closes the assembly, takes such
a byte into its own tests (R67). -/
def withRead {α : Type} (o : Presence α) (act : Option α → State → State × (Code × Answer)) :
    State → State × (Code × Answer) :=
  match o.read with
  | some a => act a
  | none => fun s => (s, refuse .outOfRange)

/-- A request whose first field names a winder: a code that names none is out of range (R167, R174). -/
def winderRequest (s : State) (h : Head) (k : Kind) (length : Nat) (code : Nat)
    (act : Winder → State → State × (Code × Answer)) : State :=
  request s h k length (some code) (fun t =>
    match winderCode code with
    | some w => act w t
    | none => (t, refuse .outOfRange))

end Sys2Proof.Machine
end

