-- ==== Sys2Proof/Machine/Tracker.lean ====
section
/-! DEFINITION. The Position Tracker's operations on its records: depth, travel and band, Cold, the motion references (chapter 2). They deliver no fault: Report.lean delivers what they find. -/

namespace Sys2Proof.Machine

/-! ## Depth (R17, R18) -/

/-- The uncorrected drum depth of a drum at a count (R17). -/
def State.uncorrected (s : State) (d : Drum) (count : Int) : Int :=
  let r := s.work.references.get d
  r.depth + roundDiv ((count - r.count) * 1000) (s.work.scales.get d)

/-- The depth of a conveyance whose drum stands at an uncorrected drum depth (R5, R17, R18). -/
def State.depthOf (s : State) (c : Conveyance) (drum : Int) : Int :=
  match c with
  | .counterweight => (s.work.span : Int) - drum + (s.position .counterweight).correction
  | .cage | .skip0 | .skip1 => drum + (s.position c).correction

/-- The speed of a conveyance whose drum turns at a speed (R3, R19). -/
def conveyanceSpeed (c : Conveyance) (drum : Int) : Int :=
  match c with
  | .counterweight => -drum
  | .cage | .skip0 | .skip1 => drum

/-- The pair span of a pocket: the depth of TIP plus the depth of the pocket (R6). -/
def State.pairSpan (s : State) (p : Pocket) : Int :=
  s.work.rockPoints.tip.depth + (s.work.rockPoints.get p.point).depth

/-! ## A record at a report (R19, R20, R21) -/

/-- The band of a record (R20). -/
def bandOf (growth base travel : Nat) : Nat := base + ceilDiv (growth * travel) 10000

/-- A record at rest, or in the direction of its speed (R19). -/
def directionOf (rest : Bool) (speed : Int) : Direction :=
  if rest then .stationary else if 0 < speed then .descending else .ascending

/-- The record of a conveyance brought up to date by a report: depth, speed, travel and band (R17 to R20). -/
def Position.takeReport (p : Position) (t : Tracking) (depth speed : Int) : Position :=
  let estimate := if depthInRange depth then some depth else p.estimate
  let travel := match p.estimate, estimate with
    | some old, some new => min 10000000 (p.travel + (new - old).natAbs)
    | _, _ => p.travel
  let rest := decide (speed.natAbs ≤ t.standstill)
  { p with
    estimate := estimate
    reportEstimate := estimate
    travel := travel
    band := bandOf t.growth p.base travel
    speed := speed
    rest := rest
    direction := directionOf rest speed }

/-- Whether a record becomes Lost at a report: not Lost before, its band past the ambiguity maximum or its computed depth
out of range (R21). -/
def Position.becomesLost (p : Position) (t : Tracking) (depth : Int) : Bool :=
  p.state != .lost && (decide (t.ambiguity < p.band) || !depthInRange depth)

/-! ## Cold (R27) -/

/-- A record that enters Cold, its correction kept. -/
def Position.enterCold (p : Position) (coldBand : Nat) : Position :=
  { p with base := coldBand, band := coldBand, travel := 0, lastMarker := none, state := .cold }

/-- The estimate of a record recomputed from its drum's uncorrected drum depth; a depth out of range is not held (R1). -/
def State.reestimate (s : State) (c : Conveyance) : State :=
  match s.drumDepth.get (drumOf c) with
  | none => s
  | some drum =>
    let depth := s.depthOf c drum
    if depthInRange depth then
      s.withPosition c (fun p => { p with estimate := some depth, reportEstimate := some depth })
    else s

/-- A record put into Cold, its estimate recomputed at once (R5, R23, R27, R28). RESTART TRACKING before any report gives the
cold band now in force even where WRITE TRACKING has changed it, R23 saying both "as R27 states" and "Cold as they were"
(DESIGN CHOICE, log 55). -/
def State.makeCold (s : State) (c : Conveyance) : State :=
  (s.reestimate c).withPosition c (fun p => p.enterCold s.work.tracking.coldBand)

/-! ## The unpermitted motion check (R29, R30) -/

/-- The motion reference of a conveyance taken, or left absent before the first report, and its check armed. -/
def State.armMotion (s : State) (c : Conveyance) : State :=
  s.withPosition c (fun p => { p with motionRef := s.drumDepth.get (drumOf c), armed := true })

/-- The check of a conveyance disarmed. -/
def State.disarmMotion (s : State) (c : Conveyance) : State :=
  s.withPosition c (fun p => { p with armed := false })

/-- The check of every conveyance of a winder disarmed. -/
def State.disarmWinder (s : State) (w : Winder) : State :=
  (s.disarmMotion (firstConveyance w)).disarmMotion (secondConveyance w)

/-- The check of every conveyance of a winder armed with a new reference. -/
def State.armWinder (s : State) (w : Winder) : State :=
  (s.armMotion (firstConveyance w)).armMotion (secondConveyance w)

/-- A conveyance's check as its winder enters RUNNING: disarmed where the active leg moves it, armed otherwise (R30). -/
def State.armAtRunning (s : State) (w : Winder) (c : Conveyance) : State :=
  if (s.moved w).contains c then s.disarmMotion c else s.armMotion c

/-- The checks of a winder's conveyances as the winder enters a state (R29, R30). -/
def State.motionAtEntry (s : State) (w : Winder) (st : WinderState) : State :=
  match st with
  | .parked | .idle | .settling | .dwelling | .clutching => s.armWinder w
  | .running => (s.armAtRunning w (firstConveyance w)).armAtRunning w (secondConveyance w)
  | .tripped => s.disarmWinder w
  | .stopping | .lockout => s

/-! ## Windows -/

/-- A closed interval of depths. -/
structure Interval where
  lo : Int
  hi : Int
  deriving DecidableEq, Repr

/-- Two closed intervals meet when they share at least one depth (R37). -/
def Interval.meets (a b : Interval) : Bool := decide (a.lo ≤ b.hi ∧ b.lo ≤ a.hi)

/-- One interval lies wholly inside another, bounds included (R119, R129). -/
def Interval.within (a b : Interval) : Bool := decide (b.lo ≤ a.lo ∧ a.hi ≤ b.hi)

/-- An interval about a depth. -/
def around (d : Int) (half : Nat) : Interval := ⟨d - half, d + half⟩

/-- The interval of a record, from estimate less band to estimate plus band (R37). -/
def Position.interval (p : Position) : Option Interval := p.estimate.map (fun e => around e p.band)

/-- Whether a record's whole interval lies within the window about a target (R119, R129). A record that holds no estimate has no
interval, of which R119 says nothing: it lies within no window (DESIGN CHOICE, log 59). -/
def Position.inWindow (p : Position) (target : Int) (window : Nat) : Bool :=
  match p.interval with
  | none => false
  | some i => i.within (around target window)

/-- Whether a skip stands within the window of a rock point: an estimate, Valid, and the whole interval inside (R129). -/
def State.standsAt (s : State) (k : Skip) (point : RockPoint) : Bool :=
  let p := s.position k.conveyance
  let e := s.work.rockPoints.get point
  p.state == .valid && p.inWindow e.depth e.window

end Sys2Proof.Machine
end

