-- ==== Sys2Proof/Machine/Zones.lean ====
section
/-! DEFINITION. The Zone Table: zone sets, the restricted touch condition, paths and path checks, caps (chapter 3). -/

namespace Sys2Proof.Machine

/-! ## Touching (R37) -/

/-- The depths of a zone, both bounds included (R36). -/
def Zone.interval (z : Zone) : Interval := ⟨z.upper, z.lower⟩

/-- Whether a conveyance with this record touches a zone (R37). -/
def touches (c : Conveyance) (p : Position) (z : Zone) : Bool :=
  z.mask.get c &&
  match p.interval with
  | none => false
  | some i => i.meets z.interval

/-- The numbers of the zones a conveyance touches, ascending as the table is (R37). -/
def State.touched (s : State) (c : Conveyance) : List Nat :=
  (s.zones.filter (fun e => touches c (s.position c) e.2)).map (·.1)

/-- A record with its zone set rebuilt; a number leaves the suppression list when the new set does not hold it (R38, R52). -/
def Position.withSet (p : Position) (set : List Nat) : Position :=
  { p with zoneSet := set, suppressed := p.suppressed.filter set.contains }

/-- A conveyance's zone set rebuilt (R38). -/
def State.rebuildSet (s : State) (c : Conveyance) : State :=
  s.withPosition c (fun p => p.withSet (s.touched c))

/-- The kinds that forbid entry (section 3.6). -/
def ZoneKind.isRestricted : ZoneKind → Bool
  | .overwind | .work | .inspect => true
  | .slow | .passing => false

/-- The kind of the zone at a number, where it holds an entry. -/
def State.zoneKind (s : State) (n : Nat) : Option ZoneKind := (tableGet s.zones n).map (·.kind)

/-- Whether a number holds an OVERWIND, WORK or INSPECT zone. -/
def State.isRestrictedZone (s : State) (n : Nat) : Bool := ((s.zoneKind n).map ZoneKind.isRestricted).getD false

/-- The restricted touch condition of a winder (R53). -/
def State.restrictedTouch (s : State) (w : Winder) : Bool :=
  (conveyancesOf w).any (fun c => (s.position c).zoneSet.any s.isRestrictedZone)

/-- The restricted touch condition handed to the Winder Controller, which clears the Recovery flag when it is false
(R53, R110). -/
def State.handTouch (s : State) (w : Winder) : State :=
  let touch := s.restrictedTouch w
  let t := { s with restricted := s.restricted.set w touch }
  if touch then t else t.withWinder w (fun r => { r with recovery := false })

/-- Whether a target lies within a restricted zone now in a conveyance's zone set (R53, R109). -/
def State.targetRestricted (s : State) (c : Conveyance) (target : Int) : Bool :=
  s.zones.any (fun e => (s.position c).zoneSet.contains e.1 && e.2.kind.isRestricted &&
    (Interval.mk target target).meets e.2.interval)

/-! ## Paths (R45, R46) -/

/-- The path of one conveyance. -/
structure Path where
  conveyance : Conveyance
  interval : Interval
  deriving DecidableEq, Repr

/-- The path of a conveyance from an origin over its targets, widened by its band; every representable depth where its
record holds no estimate (R45). -/
def State.path (s : State) (c : Conveyance) (origin : Int) (targets : List Int) : Path :=
  let p := s.position c
  match p.estimate with
  | none => ⟨c, ⟨-60000, 3200000⟩⟩
  | some _ => ⟨c, ⟨targets.foldl min origin - p.band, targets.foldl max origin + p.band⟩⟩

/-- The targets of a conveyance in a list of legs. -/
def targetsIn (legs : List Leg) (c : Conveyance) : List Int := legs.filterMap (fun l => l.target c)

/-- The estimate of a conveyance as the origin of a path or plan; the free value of log 10 where it has none. -/
def State.estimateOrigin (s : State) (c : Conveyance) : Int :=
  ((s.position c).estimate).getD (Config.absentOrigin s.now.toNat)

/-- The target of a conveyance in the last leg of its winder's active trip, where that trip moves it (R45, R78). -/
def State.activeTarget (s : State) (c : Conveyance) : Option Int :=
  ((s.pipe (ownerOf c)).active.bind (fun t => t.legs.getLast?)).bind (fun l => l.target c)

/-- The origin of a conveyance for a call being planned or a staged trip (R45, R78). -/
def State.planOrigin (s : State) (c : Conveyance) : Int := (s.activeTarget c).getD (s.estimateOrigin c)

/-- The conveyances that a list of legs moves. -/
def movedBy (legs : List Leg) : List Conveyance := (legs.flatMap Leg.conveyances).dedup

/-- The paths of a proposed or staged trip: all its legs, from the origins of R45. -/
def State.stagedPaths (s : State) (legs : List Leg) : List Path :=
  (movedBy legs).map (fun c => s.path c (s.planOrigin c) (targetsIn legs c))

/-- The paths of a trip's current leg and every leg after it, from the estimates (R45). -/
def State.activePaths (s : State) (t : Trip) : List Path :=
  let legs := t.legs.drop (t.current - 1)
  (movedBy legs).map (fun c => s.path c (s.estimateOrigin c) (targetsIn legs c))

/-- The paths of a single leg at its offer, from the estimates (R45). -/
def State.legPaths (s : State) (l : Leg) : List Path :=
  l.conveyances.map (fun c => s.path c (s.estimateOrigin c) (targetsIn [l] c))

/-- Whether a zone meets a path of a conveyance in its mask (R45). -/
def Zone.meetsPath (z : Zone) (p : Path) : Bool := z.mask.get p.conveyance && p.interval.meets z.interval

/-- The lowest-numbered zone of a kind that meets one of the paths, passing over the zones that `skips` names for the
conveyance whose path they meet (R46). -/
def State.pathCheck (s : State) (kind : ZoneKind) (paths : List Path) (skips : Conveyance → Nat → Bool) : Option Nat :=
  (s.zones.find? (fun e => e.2.kind == kind &&
    paths.any (fun p => e.2.meetsPath p && !skips p.conveyance e.1))).map (·.1)

/-- No zone is passed over. -/
def overNone : Conveyance → Nat → Bool := fun _ _ => false

/-- On a recovery trip the check passes over the zones in the conveyance's own zone set (R83, R94). -/
def State.overOwn (s : State) (recovery : Bool) : Conveyance → Nat → Bool :=
  fun c n => recovery && (s.position c).zoneSet.contains n

/-! ## Caps (R47, R48, R49) -/

/-- The settings of a class, read when a rule acts (R11). -/
def State.classOf (s : State) (c : Class) : ClassSettings := s.work.classes.get c

/-- The distance to go of a leg's leading conveyance; 0 where it has passed its target (R48), and 0 where its record holds no
estimate, for which R48 gives no distance (DESIGN CHOICE, log 49). -/
def State.toGo (s : State) (l : Leg) : Nat :=
  match (s.position l.leading).estimate, l.target l.leading with
  | some e, some t => (if l.direction = .descending then t - e else e - t).toNat
  | _, _ => 0

/-- The approach limit of a leg (R48). -/
def State.approachLimit (s : State) (l : Leg) : Nat :=
  max (s.classOf .creep).maxSpeed (wholeSqrt (2 * (s.classOf l.cls).decel * s.toGo l))

/-- The approach distance of a class (R48). -/
def ClassSettings.approachDistance (c : ClassSettings) : Nat := ceilDiv (c.maxSpeed * c.maxSpeed) (2 * c.decel)

/-- The SLOW terms of a winder's cap: each SLOW zone in the set of any of its conveyances (R47). -/
def State.slowTerms (s : State) (w : Winder) : List Cap :=
  s.zones.filterMap (fun e =>
    if e.2.kind == .slow && (conveyancesOf w).any (fun c => (s.position c).zoneSet.contains e.1) then
      e.2.cap.map (fun v => ⟨v, some (.slow e.1)⟩)
    else none)

/-- The PASSING terms of a winder's cap: each PASSING zone in the sets of both its conveyances (R47). -/
def State.passingTerms (s : State) (w : Winder) : List Cap :=
  s.zones.filterMap (fun e =>
    if e.2.kind == .passing && (conveyancesOf w).all (fun c => (s.position c).zoneSet.contains e.1) then
      e.2.cap.map (fun v => ⟨v, some (.passing e.1)⟩)
    else none)

/-- A term that is present under a condition. -/
def termIf (b : Bool) (speed : Nat) (t : CapTerm) : List Cap := if b then [⟨speed, some t⟩] else []

/-- Whether any record of a winder has a band greater than the creep threshold (R21, R47). -/
def State.wideBand (s : State) (w : Winder) : Bool :=
  (conveyancesOf w).any (fun c => decide (s.work.tracking.creepThreshold < (s.position c).band))

/-- The terms of a winder's cap with a leg active, in the order of R47's table. -/
def State.capTerms (s : State) (w : Winder) (l : Leg) : List Cap :=
  [⟨(s.classOf l.cls).maxSpeed, some .cls⟩] ++ s.slowTerms w ++ s.passingTerms w ++
  termIf (s.wideBand w) (s.classOf .creep).maxSpeed .creepBand ++
  termIf (s.isIn w .running) (s.approachLimit l) .approach ++
  termIf ((s.winder w).mode == .inspection) (s.classOf .inspection).maxSpeed .inspection

/-- The least of the terms, the first of equals (R47). The terms of two SLOW zones, or of two PASSING zones, stand in the
order of their numbers, so that of two zones with one cap the lower number is named; R47 orders only the rows of its
table (DESIGN CHOICE, log 50). -/
def leastCap : Cap → List Cap → Cap
  | c, [] => c
  | c, d :: rest => leastCap (if d.speed < c.speed then d else c) rest

/-- The cap of a winder: the least of its terms in RUNNING and STOPPING, 0 with no term in every other state (R47). -/
def State.capOf (s : State) (w : Winder) : Cap :=
  if s.inMotion w then
    match s.activeLeg w with
    | none => ⟨0, none⟩
    | some l =>
      match s.capTerms w l with
      | [] => ⟨0, none⟩
      | c :: rest => leastCap c rest
  else ⟨0, none⟩

/-- A winder's cap recomputed and handed on (R49). -/
def State.handCap (s : State) (w : Winder) : State := { s with caps := s.caps.set w (s.capOf w) }

/-- The Winder Controller given a new cap: while OVER stands, a cap below the slow cap sent sends a further SLOW (R113). -/
def State.followCap (s : State) (w : Winder) : State :=
  match (s.winder w).slowCap with
  | none => s
  | some sent =>
    let cap := (s.caps.get w).speed
    if (s.monitor w).overIndication && decide (cap < sent) then
      (s.withWinder w (fun r => { r with slowCap := some cap })).sendOrder w (.slow cap)
    else s

/-- After a rebuild that makes no comparison, the cap and the restricted touch condition handed on (R38, R113). -/
def State.handOn (s : State) (w : Winder) : State := ((s.handCap w).followCap w).handTouch w

/-! ## Rebuilds without entry tests (R38) -/

/-- One conveyance's set rebuilt where it is in a mask. -/
def State.rebuildMasked (s : State) (mask : PerConveyance Bool) (c : Conveyance) : State :=
  if mask.get c then s.rebuildSet c else s

/-- The rebuild after an edit of the table: every conveyance in the mask, then both winders are handed the results. -/
def State.rebuildForEdit (s : State) (mask : PerConveyance Bool) : State :=
  ((((((s.rebuildMasked mask .cage).rebuildMasked mask .counterweight).rebuildMasked mask .skip0).rebuildMasked
    mask .skip1).handOn .service).handOn .rock)

/-- The rebuild of both conveyances of a winder after a request of the Position Tracker. -/
def State.rebuildWinder (s : State) (w : Winder) : State :=
  ((s.rebuildSet (firstConveyance w)).rebuildSet (secondConveyance w)).handOn w

/-- The union of two masks (R38). -/
def maskUnion (a b : PerConveyance Bool) : PerConveyance Bool :=
  ⟨a.cage || b.cage, a.counterweight || b.counterweight, a.skip0 || b.skip0, a.skip1 || b.skip1⟩

/-- A mask that holds at least one conveyance. -/
def maskNonEmpty (m : PerConveyance Bool) : Bool := m.cage || m.counterweight || m.skip0 || m.skip1

/-- A mask that holds both conveyances of at least one winder (R39). -/
def maskHoldsPair (m : PerConveyance Bool) : Bool := (m.cage && m.counterweight) || (m.skip0 && m.skip1)

/-! ## Suppression lists (R52) -/

/-- The suppression lists of a winder's conveyances emptied. -/
def State.emptySuppression (s : State) (w : Winder) : State :=
  (s.withPosition (firstConveyance w) (fun p => { p with suppressed := [] })).withPosition (secondConveyance w)
    (fun p => { p with suppressed := [] })

/-- One conveyance's restricted zones copied into its suppression list, which stays ascending. -/
def State.suppress (s : State) (c : Conveyance) : State :=
  s.withPosition c (fun p =>
    { p with suppressed :=
        (s.zones.filter (fun e => p.suppressed.contains e.1 ||
          (p.zoneSet.contains e.1 && e.2.kind.isRestricted))).map (·.1) })

/-- The suppression lists of a winder's conveyances filled as a recovery leg becomes Moving (R52). -/
def State.suppressWinder (s : State) (w : Winder) : State :=
  (s.suppress (firstConveyance w)).suppress (secondConveyance w)

end Sys2Proof.Machine
end

