-- ==== Sys2Proof/Machine/Trips.lean ====
section
/-! DEFINITION. The Trip Pipeline's records: the legs of a trip (R79, R80, R94, R137), its number (R74), its ending (R87, R88) and its withdrawal from the staged slot (R90). -/

namespace Sys2Proof.Machine

/-! ## Legs of cage trips (R4, R5, R79, R80) -/

/-- The cage target that lands a deck at a landing depth (R4). -/
def State.cageTarget (s : State) (depth : Int) (d : Deck) : Int := depth - d.ctorIdx * (s.work.pitch : Int)

/-- The target of the other conveyance of the service winder: span less target, with both stretch corrections as they
stand (R5). -/
def State.otherServiceTarget (s : State) (target : Int) : Int :=
  (s.work.span : Int) - target + (s.position .cage).correction + (s.position .counterweight).correction

/-- Whether the approach to the decks of a call is downward, from an origin; decks stand in the order U, M, L, so the
greatest target is the first's and the least the last's (R79). -/
def approachDownward (origin least greatest : Int) : Bool :=
  if origin < least then true
  else if greatest < origin then false
  else decide (origin - least ≤ greatest - origin)

/-- The direction of a motion from an origin to a target, where they differ; otherwise the direction given. -/
def directionTo (origin target : Int) (tie : Direction) : Direction :=
  if origin < target then .descending else if target < origin then .ascending else tie

/-- The landing depth that a leg to a station aims at; a station that takes calls has one (R7). -/
def Station.landing (st : Station) : Int := st.depth.getD 0

/-- One leg of a cage trip, its direction and class given. -/
def State.cageLeg (s : State) (st : Station) (d : Deck) (cls : Class) (dir : Direction) : Leg :=
  let target := s.cageTarget st.landing d
  { motions := [⟨.cage, target, some st.window⟩, ⟨.counterweight, s.otherServiceTarget target, some st.window⟩]
    leading := .cage
    deck := some d
    cls := cls
    direction := dir
    relevels := 0
    state := .pending }

/-- Whether a first leg is zero length: the cage's interval within the window where the origin is its estimate, the
origin within the window where it is the last target of the active trip (R80). A record that holds no estimate is within no window
(DESIGN CHOICE, log 59). -/
def State.zeroLength (s : State) (target : Int) (window : Nat) : Bool :=
  match s.activeTarget .cage with
  | some origin => decide ((origin - target).natAbs ≤ window)
  | none => (s.position .cage).inWindow target window

/-- The legs of a cage trip to a station, its decks in the order U, M, L (R79, R80). -/
def State.cageLegs (s : State) (st : Station) (decks : List Deck) (cls : Class) : List Leg :=
  let origin := s.planOrigin .cage
  let targets := decks.map (s.cageTarget st.landing)
  let down := approachDownward origin (targets.getLastD 0) (targets.headD 0)
  let approach := if down then Direction.descending else .ascending
  match if down then decks.reverse else decks with
  | [] => []
  | first :: later =>
    let target := s.cageTarget st.landing first
    let head :=
      if s.zeroLength target st.window then s.cageLeg st first .creep approach
      else s.cageLeg st first cls (directionTo origin target approach)
    head :: later.map (fun d => s.cageLeg st d cls approach)

/-! ## Legs of the rock winder (R6, R80, R94, R137) -/

/-- The pocket of a pairing. -/
def Pairing.pocket : Pairing → Option Pocket
  | .paired p => some p
  | .unpaired => none

/-- The one leg of a rock cycle under a pairing (R80). -/
def State.cycleLeg (s : State) (rising : Skip) (pocket : Pocket) : Leg :=
  let tip := s.work.rockPoints.tip
  let low := s.work.rockPoints.get pocket.point
  { motions := [⟨rising.conveyance, tip.depth, some tip.window⟩,
                ⟨rising.other.conveyance, s.pairSpan pocket - tip.depth, some low.window⟩]
    leading := rising.conveyance
    deck := none
    cls := .rock
    direction := .ascending
    relevels := 0
    state := .pending }

/-- The legs of a rock cycle; a cycle is built only while the pairing is A or B (R77, R93). -/
def State.cycleLegs (s : State) (rising : Skip) : List Leg :=
  match s.pairing.pocket with
  | some p => [s.cycleLeg rising p]
  | none => []

/-- The free value for the direction of a leg whose target equals its origin, by the number of its trip (log 10). -/
def tieDirection (number : Nat) : Direction := if Config.tieDescends number then .descending else .ascending

/-- The one leg of an inspection trip, from the origins of R78 (R94). -/
def State.inspectionLeg (s : State) (c : Conveyance) (target : Int) (number : Nat) : Leg :=
  let single : List LegMotion := [⟨c, target, none⟩]
  let motions := match c with
    | .cage => single ++ [⟨.counterweight, s.otherServiceTarget target, none⟩]
    | .counterweight => single ++ [⟨.cage, s.otherServiceTarget target, none⟩]
    | .skip0 | .skip1 =>
      match s.clutch, s.pairing.pocket, skipOf c with
      | some .closed, some p, some k => single ++ [⟨k.other.conveyance, s.pairSpan p - target, none⟩]
      | _, _, _ => single
  { motions := motions
    leading := c
    deck := none
    cls := .inspection
    direction := directionTo (s.planOrigin c) target (tieDirection number)
    relevels := 0
    state := .pending }

/-- The one leg of a re-pair (R137). -/
def State.freeLeg (s : State) (free : Skip) (pocket : Pocket) (number : Nat) : Leg :=
  let e := s.work.rockPoints.get pocket.point
  { motions := [⟨free.conveyance, e.depth, some e.window⟩]
    leading := free.conveyance
    deck := none
    cls := .rePair
    direction := directionTo (s.estimateOrigin free.conveyance) e.depth (tieDirection number)
    relevels := 0
    state := .pending }

/-! ## Trips (R74) -/

/-- The trip number after a number, wrapping from 65,535 to 1. -/
def tripAfter (n : Nat) : Nat := if 65535 ≤ n then 1 else n + 1

/-- The number that the next trip built takes (R74). -/
def State.nextTrip (s : State) (w : Winder) : Nat := tripAfter (s.pipe w).lastTrip

/-- A trip as it is built: current leg 1, offer count 0, motion time 0 (R78). -/
def Trip.built (number : Nat) (kind : TripKind) (cls : Class) (legs : List Leg) : Trip where
  number := number
  kind := kind
  cls := cls
  source := none
  station := none
  legs := legs
  current := 1
  ready := false
  granted := false
  offerCount := 0
  motionTime := 0
  recovery := false

/-- A trip just built placed in the staged slot; its number becomes the last assigned (R74). -/
def State.stage (s : State) (w : Winder) (t : Trip) : State :=
  s.withPipe w (fun p => { p with staged := some t, lastTrip := t.number })

/-- A trip just built placed in the active slot, as a re-pair is (R137). -/
def State.activate (s : State) (w : Winder) (t : Trip) : State :=
  s.withPipe w (fun p => { p with active := some t, lastTrip := t.number })

/-! ## Endings (R87, R88, R161) -/

/-- The counters told of a trip's outcome (R161). -/
def Counters.tripEnded (c : Counters) : TripOutcome → Counters
  | .completed | .completedRelevelled => { c with completed := saturate (c.completed + 1) }
  | .aborted => { c with aborted := saturate (c.aborted + 1) }
  | .landingFailed => { c with landingFailures := saturate (c.landingFailures + 1) }
  | .heldPartial | .stopped | .stoppedBar | .driveRefused | .payloadRefused | .withdrawn => c

/-- The ended-call list told of the source call of a trip that ended (R88). -/
def State.endSource (s : State) (w : Winder) (t : Trip) (o : TripOutcome) : State :=
  match t.source with
  | none => s
  | some c => s.recordEnded w c.id (.tripEnded t.number o)

/-- The records of a trip's end: the outcome records, the ended-call list and the counters (R88). -/
def State.endTripRecord (s : State) (w : Winder) (t : Trip) (o : TripOutcome) : State :=
  let s1 := s.withPipe w (fun p => { p with prior := p.latest, latest := some ⟨t.number, o⟩ })
  (s1.endSource w t o).withCounters w (fun c => c.tripEnded o)

/-- A re-pair in hand is over when its trip leaves the active slot: the phase absent, the clutch timer idle (R139 to
R141). -/
def State.endRePair (s : State) (t : Trip) : State :=
  if t.kind = .rePair then { s with repair := none, clutchTimer := none } else s

/-- The active trip, where there is one, ends with an outcome; any offer and settle wait of it are abandoned
(R86, R87). -/
def State.endActive (s : State) (w : Winder) (o : TripOutcome) : State :=
  match (s.pipe w).active with
  | none => s
  | some t =>
    ((s.withPipe w (fun p => { p with active := none, offer := none, settle := none })).endRePair t).endTripRecord w t o

/-- A pipeline whose staged slot empties: an offer of that slot's trip ends with it (R86, R90). -/
def Pipe.unstage (p : Pipe) : Pipe :=
  { p with staged := none, offer := if p.active.isNone then none else p.offer }

/-- The staged trip, where there is one, discarded with an outcome (R87). -/
def State.discardStaged (s : State) (w : Winder) (o : TripOutcome) : State :=
  match (s.pipe w).staged with
  | none => s
  | some t => (s.withPipe w Pipe.unstage).endTripRecord w t o

/-- The staged trip, where there is one, withdrawn: its call returned in a state, or, without one, discarded WITHDRAWN
(R90). -/
def State.withdrawStaged (s : State) (w : Winder) (st : CallState) : State :=
  match (s.pipe w).staged.bind (·.source) with
  | some c => (s.withPipe w Pipe.unstage).returnCall w c st
  | none => s.discardStaged w .withdrawn

end Sys2Proof.Machine
end

