-- ==== Sys2Proof/Machine/Flags.lean ====
section
/-! DEFINITION. The conditions, indications and outputs: when each is raised and cleared (R97, R144 to R147). -/

namespace Sys2Proof.Machine

/-- The states in which the brake demand is asserted; the permit is asserted in the motion states (R97). -/
def WinderState.demandsBrake (st : WinderState) : Bool := st == .tripped || st == .lockout

/-- The indications of a monitor in Follow mode clear with their conditions (R147). -/
def Monitor.followConditions (m : Monitor) (mode : IndicationMode) : Monitor :=
  match mode with
  | .follow =>
    { m with
      overIndication := m.overIndication && m.overCondition
      underIndication := m.underIndication && m.underCondition }
  | .latched => m

/-- A monitor handed its winder's new state: outside RUNNING and STOPPING both conditions clear, UNDER clears outside
RUNNING, and an entry to RUNNING starts afresh (R145, R146, R147). Critical raised is cleared by the entry to RUNNING (R145), and it
is clear in PARKED (R152); that the entry to PARKED is what clears it is the model's (DESIGN CHOICE, log 56). -/
def Monitor.entered (m : Monitor) (mode : IndicationMode) (st : WinderState) : Monitor :=
  match st with
  | .running => { m with overCondition := false, underCondition := false, underTimer := none, critical := false }
  | .stopping => { m with underCondition := false, underTimer := none }.followConditions mode
  | .parked =>
    { m with overCondition := false, underCondition := false, underTimer := none, critical := false }.followConditions mode
  | .idle | .settling | .dwelling | .clutching | .tripped | .lockout =>
    { m with overCondition := false, underCondition := false, underTimer := none }.followConditions mode

/-- Whether a set OVER condition clears: at or below the cap less the hysteresis, and only at rest where that is 0 or
less (R144). -/
def overClears (speed cap hysteresis : Nat) : Bool :=
  if cap ≤ hysteresis then speed == 0 else decide (speed + hysteresis ≤ cap)

/-- The OVER condition after a comparison (R144). -/
def overAfter (condition : Bool) (speed cap hysteresis : Nat) : Bool :=
  if condition then !overClears speed cap hysteresis else decide (cap < speed)

/-- Whether the CRITICAL condition holds (R145). -/
def criticalHolds (speed cap margin : Nat) : Bool := decide (cap * (100 + margin) < speed * 100)

/-- The under speed of a class (R146). -/
def underSpeed (threshold maxSpeed : Nat) : Nat := threshold * maxSpeed / 100

/-- The UNDER condition after a comparison: u is the under speed, d the distance to go, a the approach distance (R146). -/
def underAfter (condition : Bool) (speed cap hysteresis u d a : Nat) : Bool :=
  if condition then !(decide (u + hysteresis ≤ speed) || decide (d ≤ a) || decide (cap < u + hysteresis))
  else decide (speed < u) && decide (a < d) && decide (u + hysteresis ≤ cap)

end Sys2Proof.Machine
end

