-- ==== Sys2Proof/Machine/Winder.lean ====
section
/-! DEFINITION. The Winder Controller's change of state (R96, R97, R98): the outputs, the fields that a state gives meaning to, and what each block does when it is handed the new state. Comparisons of the Envelope Monitor at a change of state are made by those who cause it (Envelope.lean). -/

namespace Sys2Proof.Machine

/-- A winder record as it enters another state: the outputs take the levels of R97, and each field that the state left
gave meaning to is cleared (R96, R113). -/
def WinderRecord.entered (r : WinderRecord) (st : WinderState) (now : Time) : WinderRecord :=
  { r with
    state := st
    permit := st.isMotion
    brakeDemand := st.demandsBrake
    enteredAt := now
    reportInState := false
    stopPending := false
    stopCause := none
    stopStarted := none
    slowCap := if st.isMotion then r.slowCap else none }

/-- A winder enters a state: no change from the state itself; otherwise the work of R96 in its order. The settle timer
does not outlive the state (R116). -/
def State.changeState (s : State) (w : Winder) (st : WinderState) : State :=
  if (s.winder w).state = st then s
  else
    let t := s.withWinder w (fun r => r.entered st s.now)
    let t := (t.motionAtEntry w st).handCap w
    let t := t.withMonitor w (fun m => m.entered (t.work.envelope.get w).mode st)
    t.withPipe w (fun p => { p with settle := none })

/-- "IDLE or PARKED": PARKED with the Held indication set where a hold is pending, IDLE otherwise; the hold is no longer
pending (R98). -/
def State.park (s : State) (w : Winder) : State :=
  if (s.winder w).holdPending then
    (s.changeState w .parked).withWinder w (fun r => { r with held := true, holdPending := false })
  else s.changeState w .idle

end Sys2Proof.Machine
end

