-- ==== Sys2Proof/Machine/Faults.lean ====
section
/-! DEFINITION. The Fault Recorder: the fault entry, the primary record and the list, and what a fault does to its winder — the entry to TRIPPED and the escalation to LOCKOUT (R108, R153 to R158). -/

namespace Sys2Proof.Machine

/-- A fault as its detecting block delivers it; `conveyance`, `trip` and `zone` are those the raising rule names, and
`trip` absent leaves the active trip's number to be taken (R153). -/
structure FaultReport where
  kind : FaultKind
  severity : Severity
  winder : Winder
  conveyance : Option Conveyance
  trip : Option Nat
  zone : Option Nat
  detail : Option Int
  deriving DecidableEq, Repr

/-- The cap that an entry carries: that of the comparison that raised OVERSPEED, which the Envelope Monitor keeps (R145,
log 32). -/
def State.entryCap (s : State) (f : FaultReport) : Option Nat :=
  if f.kind = .overspeed then some (s.monitor f.winder).cap.speed else none

/-- The entry of a fault, with the record of the conveyance that the raising rule names, or else of the winder's first
(R153). -/
def State.entryOf (s : State) (f : FaultReport) : FaultEntry :=
  let p := s.position (f.conveyance.getD (firstConveyance f.winder))
  { kind := f.kind
    severity := f.severity
    winder := some f.winder
    conveyance := f.conveyance
    depth := p.estimate
    band := p.band
    speed := if p.estimate.isSome then p.speed else 0
    trip := f.trip.orElse (fun _ => s.activeNumber f.winder)
    zone := f.zone
    detail := f.detail
    time := s.now
    cap := s.entryCap f }

/-- The entry of STORE INVALID, which concerns no winder (R153). -/
def State.storeInvalidEntry (s : State) : FaultEntry :=
  ⟨.storeInvalid, .note, none, none, none, 0, 0, none, none, none, s.now, none⟩

/-- An entry offered to the primary record, which only the first Trip fault fills (R154). -/
def primaryAfter (primary : Option FaultEntry) (e : FaultEntry) : Option FaultEntry :=
  match primary with
  | some p => some p
  | none => if e.severity = .trip then some e else none

/-- An entry recorded: the primary record, and the list of 16 or else the overflow count (R154, R155). -/
def State.record (s : State) (e : FaultEntry) : State :=
  let t := { s with primary := primaryAfter s.primary e }
  if s.faults.length < 16 then { t with faults := s.faults ++ [e] }
  else { t with overflow := min 255 (s.overflow + 1) }

/-- The brake class of drive fault codes (R157). -/
def brakeClass (code : Int) : Bool := decide (16 ≤ code ∧ code ≤ 31)

/-- Whether a Trip fault taken in TRIPPED moves its winder to LOCKOUT (R157). -/
def FaultReport.escalates (f : FaultReport) : Bool :=
  match f.kind with
  | .overwind | .workZoneEntry | .unpermittedMotion => true
  | .driveFault => f.detail.any brakeClass
  | .emergencyStop | .overspeed | .inspectZoneEntry | .positionLost | .markerDisagreement | .pairDisagreement
  | .driveSilent | .tripOvertime | .stopNotAchieved | .clutchFault | .landingNotAchieved | .overFault | .underFault
  | .payloadMismatch | .driveRefused | .unknownMarker | .storeInvalid => false

/-- The entry to TRIPPED, in the order of R108. -/
def State.tripWinder (s : State) (w : Winder) : State :=
  let t := ((s.changeState w .tripped).endActive w .aborted).withdrawStaged w .waiting
  let t := t.withWinder w (fun r => { r with holdPending := false, stopPending := false, slowCap := none })
  (t.emptySuppression w).sendOrder w .brake

/-- The entry to LOCKOUT: the suppression lists are emptied and BRAKE is sent again (R52, R108, R157). -/
def State.lockWinder (s : State) (w : Winder) : State :=
  ((s.changeState w .lockout).emptySuppression w).sendOrder w .brake

/-- A Trip fault handed on by the state of its winder (R156, R157, R158). -/
def State.handTrip (s : State) (f : FaultReport) : State :=
  match (s.winder f.winder).state with
  | .lockout => s
  | .tripped => if f.escalates then s.lockWinder f.winder else s
  | .parked | .idle | .running | .settling | .dwelling | .stopping | .clutching => s.tripWinder f.winder

/-- A fault taken: recorded, and handed on by its severity (R153 to R158). -/
def State.deliver (s : State) (f : FaultReport) : State :=
  let t := s.record (s.entryOf f)
  match f.severity with
  | .trip => t.handTrip f
  | .stop | .note => t

/-- STORE INVALID taken. -/
def State.deliverStoreInvalid (s : State) : State := s.record s.storeInvalidEntry

/-- A fault of a winder that carries its active trip and the leading conveyance of the active leg, where there are any
(R92, R102, R107, R144 to R146). -/
def State.leadingReport (s : State) (w : Winder) (kind : FaultKind) (severity : Severity) : FaultReport :=
  ⟨kind, severity, w, s.leading w, s.activeNumber w, none, none⟩

end Sys2Proof.Machine
end

