-- ==== Sys2Proof/Machine/Envelope.lean ====
section
/-! DEFINITION. The Envelope Monitor's comparisons and what the Winder Controller does when an OVER indication is handed on (R113, R143 to R148). -/

namespace Sys2Proof.Machine

/-- The speed of a winder: the largest magnitude among the conveyances its active leg moves (R143). -/
def State.winderSpeed (s : State) (w : Winder) : Nat :=
  (s.moved w).foldl (fun m c => max m (s.position c).speed.natAbs) 0

/-- The zone of a limiting term that is SLOW or PASSING (R144). -/
def CapTerm.zone : CapTerm → Option Nat
  | .slow n | .passing n => some n
  | .cls | .creepBand | .approach | .inspection => none

/-- "OVER raised" handed on: SLOW with the cap last handed on, in RUNNING and STOPPING (R113). -/
def State.overRaised (s : State) (w : Winder) : State :=
  if s.inMotion w then
    let cap := (s.caps.get w).speed
    (s.withWinder w (fun r => { r with slowCap := some cap })).sendOrder w (.slow cap)
  else s

/-- "OVER cleared" handed on: RESUME in RUNNING and STOPPING; the slow cap sent becomes absent (R113). -/
def State.overCleared (s : State) (w : Winder) : State :=
  let t := s.withWinder w (fun r => { r with slowCap := none })
  if s.inMotion w then t.sendOrder w .resume else t

/-- The OVER indication set, and handed on where it was clear (R144, R147). -/
def State.setOver (s : State) (w : Winder) : State :=
  let t := s.withMonitor w (fun m => { m with overIndication := true })
  if (s.monitor w).overIndication then t else t.overRaised w

/-- The OVER indication cleared, and handed on where it was set (R147, R148). -/
def State.clearOver (s : State) (w : Winder) : State :=
  let t := s.withMonitor w (fun m => { m with overIndication := false })
  if (s.monitor w).overIndication then t.overCleared w else t

/-- The report of an OVER or OVERSPEED: as `leadingReport`, with the limiting zone (R144, R145). -/
def State.overReport (s : State) (w : Winder) (kind : FaultKind) (severity : Severity) : FaultReport :=
  { s.leadingReport w kind severity with zone := (s.monitor w).cap.term.bind CapTerm.zone }

/-- The OVER comparison against the speed and cap just kept (R144). -/
def State.compareOver (s : State) (w : Winder) : State :=
  let m := s.monitor w
  let e := s.work.envelope.get w
  let after := overAfter m.overCondition m.speed m.cap.speed e.hysteresis
  let t := s.withMonitor w (fun m => { m with overCondition := after })
  match m.overCondition, after with
  | false, true => (t.deliver (t.overReport w .overFault .note)).setOver w
  | true, false =>
    match e.mode with
    | .follow => t.clearOver w
    | .latched => t
  | true, true | false, false => t

/-- The CRITICAL comparison (R145); the entry it makes carries the cap of the comparison (`State.entryCap`). -/
def State.compareCritical (s : State) (w : Winder) : State :=
  let m := s.monitor w
  if criticalHolds m.speed m.cap.speed (s.work.envelope.get w).margin && !m.critical then
    let t := s.withMonitor w (fun m => { m with critical := true })
    t.deliver (t.overReport w .overspeed .trip)
  else s

/-- The UNDER comparison, in RUNNING alone (R146). -/
def State.compareUnder (s : State) (w : Winder) : State :=
  match s.isIn w .running, s.activeLeg w with
  | true, some l =>
    let m := s.monitor w
    let e := s.work.envelope.get w
    let c := s.classOf l.cls
    let after := underAfter m.underCondition m.speed m.cap.speed e.hysteresis (underSpeed e.under c.maxSpeed) (s.toGo l)
      c.approachDistance
    match m.underCondition, after with
    | false, true => s.withMonitor w (fun m => { m with underCondition := true, underTimer := some (ahead s.now 5000) })
    | true, false =>
      s.withMonitor w (fun m =>
        { m with
          underCondition := false
          underTimer := none
          underIndication := m.underIndication && e.mode == .latched })
    | true, true | false, false => s
  | true, none | false, _ => s

/-- A comparison: OVER, CRITICAL and UNDER against one speed and one cap, while the monitor runs and its winder is in
RUNNING or STOPPING (R143). -/
def State.compare (s : State) (w : Winder) : State :=
  if (s.monitor w).running && s.inMotion w then
    let t := s.withMonitor w (fun m => { m with speed := s.winderSpeed w, cap := s.caps.get w })
    ((t.compareOver w).compareCritical w).compareUnder w
  else s

/-- A cap handed on for another reason than a report: recomputed, compared, and then given to the Winder Controller
(R49, R113, R143). -/
def State.handAndCompare (s : State) (w : Winder) : State := ((s.handCap w).compare w).followCap w

end Sys2Proof.Machine
end

