-- ==== Sys2Proof/Machine/Rock.lean ====
section
/-! DEFINITION. The Rock Coordinator: skip contents, readiness, the payload check and the pairing (R69, R128, R133, R134, R135). -/

namespace Sys2Proof.Machine

/-! ## Readiness (R82, R133) -/

/-- Whether a skip is Loaded. -/
def SkipRecord.isLoaded (r : SkipRecord) : Bool :=
  match r.contents with
  | .loaded _ => true
  | .empty | .suspect | .unknown => false

/-- The rock readiness condition for a rising skip (R133). -/
def State.rockReady (s : State) (rising : Skip) : Bool :=
  match s.pairing.pocket with
  | none => false
  | some p =>
    s.clutch == some .closed && (s.skips.get rising).isLoaded && s.standsAt rising p.point &&
    (s.skips.get rising.other).contents == .empty && s.standsAt rising.other .tip

/-- The rising skip of a rock cycle: its leading conveyance (R80). -/
def Trip.rising (t : Trip) : Option Skip := t.leg.bind (fun l => skipOf l.leading)

/-- Whether a rock cycle is active: a cycle staged meanwhile cannot be ready until it has ended (R133). -/
def State.cycleActive (s : State) : Bool := (s.pipe .rock).active.any Trip.isRockCycle

/-- The ready flag of a staged rock cycle set or cleared by the condition, until its first GRANT is sent; while another cycle is
active it is clear, the four conditions met or not (R82, R133; log 54). -/
def State.readied (s : State) (t : Trip) : Trip :=
  match t.isRockCycle && !t.granted, t.rising with
  | true, some k => { t with ready := s.rockReady k && !s.cycleActive }
  | true, none | false, _ => t

/-- The rock readiness condition formed and handed to the rock winder's Trip Pipeline (R133). -/
def State.formReadiness (s : State) : State :=
  s.withPipe .rock (fun p => { p with staged := p.staged.map s.readied })

/-! ## Contents (R128) -/

/-- A skip's contents changed; each change sets the changed-at reading and forms the readiness afresh (R128). -/
def State.setContents (s : State) (k : Skip) (c : Contents) : State :=
  { s with skips := s.skips.set k ⟨c, s.now⟩ }.formReadiness

/-! ## The payload check (R134) -/

/-- The three results of the payload check. -/
inductive Payload where
  | refused | flagged | passed
  deriving DecidableEq, Repr

/-- The payload check of a measured against a declared load (R134). -/
def payloadCheck (measured declared tolerance : Nat) (action : PayloadAction) : Payload :=
  if Config.skipRating < measured then .refused
  else if (max measured declared) - (min measured declared) ≤ tolerance then .passed
  else
    match action with
    | .refuse => .refused
    | .flag => .flagged

/-- The declared mass of a skip's record; a cycle is offered only with its rising skip Loaded (R84, R133). -/
def SkipRecord.mass (r : SkipRecord) : Nat :=
  match r.contents with
  | .loaded m => m
  | .empty | .suspect | .unknown => 0

/-- The rope load that the latest rock report gives for a skip's drum; a ready cycle has had a report (R133, R134). -/
def State.measuredLoad (s : State) (k : Skip) : Nat :=
  ((s.reports.get .rock).map (fun r => (r.reading (drumOf k.conveyance)).load)).getD 0

/-- The payload check of a rising skip (R134). -/
def State.checkPayload (s : State) (k : Skip) : Payload :=
  payloadCheck (s.measuredLoad k) (s.skips.get k).mass s.work.payloadTolerance s.work.payloadAction

/-- The fault of a refused or flagged check (R134). -/
def payloadReport (k : Skip) (trip : Nat) : FaultReport :=
  ⟨.payloadMismatch, .note, .rock, some k.conveyance, some trip, none, none⟩

/-! ## The pairing (R69, R135) -/

/-- What becoming Unpaired does to the staged slot: a rock cycle is withdrawn, an inspection trip kept (R135). -/
def State.unstageCycle (s : State) : State :=
  if (s.pipe .rock).staged.any Trip.isRockCycle then s.withdrawStaged .rock .waiting else s

/-- The pairing becomes Unpaired: every entry of the rock queue is Held-pairing, and a staged cycle is withdrawn;
the pair condition returns to within tolerance (R31, R69, R135). -/
def State.unpair (s : State) : State :=
  if s.pairing = .unpaired then s
  else
    let t := { s with pairing := .unpaired, pairBeyond := false }
    let t := t.withQueue .rock (fun q => q.map (fun c => { c with state := .heldPairing }))
    t.unstageCycle.formReadiness

/-- The pairing becomes a pocket's: the Held-pairing entries are released, and the pair condition returns to within
tolerance (R31, R69, R135). -/
def State.pairWith (s : State) (p : Pocket) : State :=
  let t := { s with pairing := .paired p, pairBeyond := false }
  (t.withQueue .rock (fun q => releaseCalls q .heldPairing)).formReadiness

end Sys2Proof.Machine
end

