-- ==== Sys2Proof/Machine/Offers.lean ====
section
/-! DEFINITION. Offers to the drive: GRANT, acceptance, refusal, back-off and late replies (R83 to R86, R139). -/

namespace Sys2Proof.Machine

/-! ## The trip on offer -/

/-- The trip whose leg an offer is of: the active trip, or with the active slot empty the staged one (R83). -/
def Pipe.onOffer (p : Pipe) : Option Trip :=
  match p.active with
  | some t => some t
  | none => p.staged

/-- The pipeline with the trip on offer changed. -/
def Pipe.withOffered (p : Pipe) (f : Trip → Trip) : Pipe :=
  match p.active with
  | some t => { p with active := some (f t) }
  | none => { p with staged := p.staged.map f }

/-- Whether a winder's active trip is a re-pair whose free move is offered from CLUTCHING (R139). -/
def State.freeOffer (s : State) (w : Winder) : Bool :=
  s.isIn w .clutching && (s.pipe w).active.any (fun t => t.kind == .rePair)

/-- An offer of the free move ends without an acceptance: the re-pair goes on to the next clutch confirmation, with the
clutch timer running (R139). -/
def State.endFreeOffer (s : State) (o : TripOutcome) : State :=
  let t := s.withPipe .rock (fun p => { p with offer := none })
  { t with
    repair := t.repair.map (fun r => { r with offerEnd := some o })
    clutchTimer := t.clutchTimer.orElse (fun _ => some (ahead t.now 20000)) }

/-- The trip on offer ends without an acceptance: a staged trip is discarded, a free move waits for its confirmation,
and another active trip ends, its winder leaving for IDLE or PARKED (R83, R85, R139). -/
def State.failOffer (s : State) (w : Winder) (o : TripOutcome) : State :=
  if (s.pipe w).active.isNone then s.discardStaged w o
  else if s.freeOffer w then s.endFreeOffer o
  else (s.endActive w o).park w

/-- A WORK zone found at an offer: a trip built from a call returns its call as Held-work (R83, R90). -/
def State.stopOffer (s : State) (w : Winder) : State :=
  if (s.pipe w).active.isNone then s.withdrawStaged w .heldWork else s.failOffer w .stopped

/-! ## GRANT (R83) -/

/-- The target drum count of a drum for a target depth of the conveyance that owns it (R83). -/
def State.targetCount (s : State) (d : Drum) (target : Int) : Int :=
  let r := s.work.references.get d
  r.count + roundDiv ((target - (s.position (drumOwner d)).correction - r.depth) * (s.work.scales.get d : Int)) 1000

/-- The drums of a GRANT: each drum whose owning conveyance the leg moves (R83). -/
def State.grantDrums (s : State) (w : Winder) (l : Leg) : List GrantDrum :=
  (drumsOf w).filterMap (fun d => (l.target (drumOwner d)).map (fun t => ⟨d, t, s.targetCount d t⟩))

/-- GRANT sent for the current leg of the trip on offer: the leg becomes Offered and the reply is awaited for 500 ms
(R75, R83). -/
def State.sendGrant (s : State) (w : Winder) (t : Trip) (l : Leg) : State :=
  let c := s.classOf l.cls
  let tag := s.nextTag w
  let offered := s.withPipe w (fun p =>
    { p.withOffered (fun t => { t.withLeg (fun l => { l with state := .offered }) with granted := true }) with
      offer := some (.awaiting tag (ahead s.now 500)) })
  offered.sendOrder w (.grant t.number t.current c.maxSpeed c.decel (s.grantDrums w l))

/-- A refused payload check: the cycle is discarded, the skip becomes Suspect, and the Note is delivered (R134). -/
def State.refusePayload (s : State) (k : Skip) (t : Trip) : State :=
  ((s.discardStaged .rock .payloadRefused).setContents k .suspect).deliver (payloadReport k t.number)

/-- The payload check that precedes the first GRANT of a rock cycle, and the GRANT (R83, R134). -/
def State.grantCycle (s : State) (t : Trip) (l : Leg) : State :=
  match skipOf l.leading with
  | none => s.sendGrant .rock t l
  | some k =>
    match s.checkPayload k with
    | .refused => s.refusePayload k t
    | .flagged => (s.deliver (payloadReport k t.number)).sendGrant .rock t l
    | .passed => s.sendGrant .rock t l

/-- Whether a leg may not be offered because it is coupled and the pairing is Unpaired (R6, R135). -/
def State.uncouples (s : State) (l : Leg) : Bool := l.isCoupled && s.pairing == .unpaired

/-- The current leg of the trip on offer is offered: the path check, the payload check for the first offer of a rock
cycle, and GRANT (R83). -/
def State.offerLeg (s : State) (w : Winder) : State :=
  match (s.pipe w).onOffer with
  | none => s
  | some t =>
    match t.leg with
    | none => s
    | some l =>
      if s.uncouples l then s.withPipe w (fun p => { p with offer := none })
      else if (s.pathCheck .work (s.legPaths l) (s.overOwn t.recovery)).isSome then s.stopOffer w
      else if t.isRockCycle && !t.granted then s.grantCycle t l
      else s.sendGrant w t l

/-! ## Refusals (R85) -/

/-- The draw of a back-off: r with equal chance from 0 to 2^K - 1, K the lesser of the offer count and the back-off limit
(R85, log 7). -/
def State.backoffSlots (s : State) (w : Winder) (count : Nat) : Nat :=
  Config.backoffDraw s.draws % 2 ^ min count (s.work.offerLimit.get w)

/-- The back-off that follows a refusal; a draw of 0 offers again at once (R85). -/
def State.backOff (s : State) (w : Winder) (count : Nat) : State :=
  let r := s.backoffSlots w count
  let t := { s with draws := s.draws + 1 }
  if r = 0 then t.offerLeg w
  else t.withPipe w (fun p => { p with offer := some (.backoff (ahead s.now (250 * r))) })

/-- The eighth refusal: the offer ends DRIVE REFUSED and the Note is delivered (R85). -/
def State.giveUp (s : State) (w : Winder) : State :=
  (s.failOffer w .driveRefused).deliver ⟨.driveRefused, .note, w, none, none, none, none⟩

/-- A refusal of the awaited GRANT (R85). -/
def State.refuseOffer (s : State) (w : Winder) : State :=
  match (s.pipe w).onOffer with
  | none => s
  | some trip =>
    let count := trip.offerCount + 1
    let t := s.withCounters w (fun c => { c with driveRefusals := saturate (c.driveRefusals + 1) })
    let t := t.withPipe w (fun p => { p.withOffered (fun t => { t with offerCount := count }) with offer := none })
    if count = 8 then t.giveUp w else t.backOff w count

/-! ## Acceptances (R84) -/

/-- The trip on offer accepted: in the active slot, its leg Moving, its offer count 0, no offer in progress (R84). -/
def Pipe.accept (p : Pipe) : Pipe :=
  let moving (t : Trip) : Trip := { t.withLeg (fun l => { l with state := .moving }) with offerCount := 0 }
  match p.active with
  | some t => { p with active := some (moving t), offer := none }
  | none => { p with active := p.staged.map moving, staged := none, offer := none }

/-- The suppression lists filled where the leg just accepted is of a recovery trip (R52). -/
def State.suppressRecovery (s : State) (w : Winder) : State :=
  if (s.pipe w).active.any (·.recovery) then s.suppressWinder w else s

/-- An acceptance: the leg is in motion, the winder in RUNNING, the cap recomputed with the new leg and compared
(R84, R143). -/
def State.acceptOffer (s : State) (w : Winder) : State :=
  (((s.withPipe w Pipe.accept).suppressRecovery w).changeState w .running).handAndCompare w

/-! ## Late replies (R86) -/

/-- The trip and leg that a GRANT of a tag named; free values where no GRANT since power-on had the tag (log 9). -/
def State.grantOf (s : State) (w : Winder) (tag : Nat) : Nat × Nat :=
  match (s.drives.get w).grants.find? (fun g => g.tag == tag) with
  | some g => (g.trip, g.leg)
  | none => (1 + Config.voidTrip tag % 65535, 1 + Config.voidLeg tag % 3)

/-- A late reply: a Done is answered with GRANT VOID, and any other is discarded (R86). -/
def State.lateReply (s : State) (w : Winder) (tag code : Nat) : State :=
  if code = 1 then s.sendOrder w (.grantVoid (s.grantOf w tag).1 (s.grantOf w tag).2) else s

/-- Whether the reply awaited by the offer in progress is that of a tag. -/
def State.offerAwaits (s : State) (w : Winder) (tag : Nat) : Bool :=
  match (s.pipe w).offer with
  | some (.awaiting t _) => t == tag
  | some (.backoff _) | none => false

/-! ## The first offer of a staged trip (R83) -/

/-- Whether the first leg of the staged trip is to be offered now (R6, R83). -/
def State.canOffer (s : State) (w : Winder) : Bool :=
  match (s.pipe w).staged with
  | none => false
  | some t =>
    t.ready && (s.pipe w).active.isNone && s.isIn w .idle && (s.monitor w).running && !(s.winder w).holdPending &&
    (s.pipe w).offer.isNone && !t.leg.any s.uncouples

/-- The first leg of the staged trip offered where R83 allows it. -/
def State.tryOffer (s : State) (w : Winder) : State := if s.canOffer w then s.offerLeg w else s

end Sys2Proof.Machine
end

