-- ==== Sys2Proof/Machine/Planner.lean ====
section
/-! DEFINITION. The planner (R77, R78) and the work that closes an event: the planner run and the first offer that the event's prompts call for (R82, R83, R88; log 12). -/

namespace Sys2Proof.Machine

/-- The states in which a trip enters the staged slot (R76, R77). -/
def WinderState.stages : WinderState → Bool
  | .idle | .running | .settling | .dwelling => true
  | .parked | .stopping | .clutching | .tripped | .lockout => false

/-- Whether the planner of a winder runs when it is prompted (R77). -/
def State.plannerRuns (s : State) (w : Winder) : Bool :=
  (s.winder w).mode == .automatic && (s.pipe w).staged.isNone && !(s.winder w).holdPending &&
  (s.winder w).state.stages && (w == .service || s.pairing != .unpaired)

/-- What the validation of a call gives (R78). -/
inductive Verdict where
  | hold (st : CallState)
  | remove (reason : EndReason)
  | stage (t : Trip)
  deriving DecidableEq, Repr

/-- The legs of a call, from the origins of R78. -/
def State.callLegs (s : State) : CallWork → List Leg
  | .cage st cls decks _ _ => s.cageLegs (s.stationAt st) decks cls
  | .cycle rising => s.cycleLegs rising

/-- The class of a call (section 4.1). -/
def CallWork.cls : CallWork → Class
  | .cage _ cls _ _ _ => cls
  | .cycle _ => .rock

/-- The kind of the trip built from a call (R78). -/
def CallWork.tripKind : CallWork → TripKind
  | .cage .. => .cage
  | .cycle _ => .rockCycle

/-- The station that a call lands at. -/
def CallWork.station : CallWork → Option (Fin 16)
  | .cage st _ _ _ _ => some st
  | .cycle _ => none

/-- Whether riders or payload exceed the ratings (R13, R78). -/
def CallWork.overRating : CallWork → Bool
  | .cage _ _ _ riders payload =>
    riders.any (fun l => l.any (fun n => decide (Config.deckRating < n))) || payload.any (fun n => decide (Config.cageRating < n))
  | .cycle _ => false

/-- Whether a call's station is barred. -/
def State.barred (s : State) (work : CallWork) : Bool := work.station.any (fun st => s.bars[st])

/-- The trip built from a call (R78). -/
def State.callTrip (s : State) (w : Winder) (c : Call) : Trip :=
  { Trip.built (s.nextTrip w) c.work.tripKind c.work.cls (s.callLegs c.work) with
    source := some c, station := c.work.station }

/-- The validation of a call (R78). -/
def State.validate (s : State) (w : Winder) (c : Call) : Verdict :=
  let paths := s.stagedPaths (s.callLegs c.work)
  if s.barred c.work then .hold .heldBar
  else if (s.pathCheck .work paths overNone).isSome then .hold .heldWork
  else
    match s.pathCheck .inspect paths overNone with
    | some n => .remove (.refusedZone n)
    | none => if c.work.overRating then .remove .refusedLoad else .stage (s.callTrip w c)

/-- A run of the planner over so many entries: the first Waiting entry is validated, and the run goes on until a trip is
staged or no Waiting entry remains (R57, R77). -/
def State.planFrom (s : State) (w : Winder) : Nat → State
  | 0 => s
  | count + 1 =>
    match (s.queues.get w).find? (fun c => c.state == .waiting) with
    | none => s
    | some c =>
      match s.validate w c with
      | .hold st => (s.withQueue w (fun q => holdCall q c.id st)).planFrom w count
      | .remove reason => ((s.withQueue w (fun q => dropCall q c.id)).recordEnded w c.id reason).planFrom w count
      | .stage t => (s.withQueue w (fun q => dropCall q c.id)).stage w t

/-- The readiness of a cycle that has just entered the staged slot (R133). -/
def State.readyStaged (s : State) : Winder → State
  | .service => s
  | .rock => s.formReadiness

/-- The planner prompted: a run where the conditions of R77 hold, after which a cycle it staged is readied (R133). -/
def State.plan (s : State) (w : Winder) : State :=
  if s.plannerRuns w then (s.planFrom w (s.queues.get w).length).readyStaged w else s

/-- Planner and offer in turn, so many times: an offer that empties the staged slot again prompts the planner (R77). -/
def State.settleFrom (s : State) (w : Winder) : Nat → State
  | 0 => s
  | count + 1 =>
    let t := (s.plan w).tryOffer w
    if (t.pipe w).staged.isNone && (s.plan w).canOffer w then t.settleFrom w count else t

/-- The planner run and offer that end an event; every turn after the first has used a Waiting entry up (log 12). -/
def State.settle (s : State) (w : Winder) : State := s.settleFrom w ((s.queues.get w).length + 2)

/-- The planner run and offer of both winders. -/
def State.settleBoth (s : State) : State := (s.settle .service).settle .rock

end Sys2Proof.Machine
end

