-- ==== Sys2Proof/Machine/Stopping.lean ====
section
/-! DEFINITION. The controlled stop (R101, R102) and what a newly set bar does to a trip (R91). -/

namespace Sys2Proof.Machine

/-- The entry to STOPPING: its cause and its start kept, the staged trip withdrawn, STOP sent, and the cap handed on
compared (R90, R101, R113, R143). A winder in RUNNING has an active trip (R76). -/
def State.enterStopping (s : State) (w : Winder) (cause : StopCause) : State :=
  let t := (s.changeState w .stopping).withWinder w
    (fun r => { r with stopCause := some cause, stopStarted := some s.now })
  let t := t.withdrawStaged w .waiting
  (t.sendOrder w (.stop ((t.activeNumber w).getD 0))).handAndCompare w

/-- The outcome of a stop by its cause (R102). -/
def StopCause.outcome : StopCause → TripOutcome
  | .request => .stopped
  | .bar => .stoppedBar

/-- The active trip ends with an outcome and its winder leaves for IDLE or PARKED (R98). -/
def State.endAndPark (s : State) (w : Winder) (o : TripOutcome) : State := (s.endActive w o).park w

/-- The first report in STOPPING that finds the winder at rest ends the trip (R102). -/
def State.endStop (s : State) (w : Winder) : State :=
  s.endAndPark w (((s.winder w).stopCause.getD .request).outcome)

/-- Whether a trip lands at a station: all its legs land at one (R91, R125). -/
def Trip.landsAt (t : Trip) (st : Fin 16) : Bool := t.station == some st

/-- A newly set bar and the staged trip (R91). -/
def State.barStaged (s : State) (st : Fin 16) : State :=
  if (s.pipe .service).staged.any (·.landsAt st) then s.withdrawStaged .service .heldBar else s

/-- A newly set bar and the active trip, which has still to land at its station (R91). -/
def State.barActive (s : State) (st : Fin 16) : State :=
  if (s.pipe .service).active.any (·.landsAt st) then
    match (s.winder .service).state with
    | .running => s.enterStopping .service .bar
    | .stopping => s.withWinder .service (fun r => { r with stopCause := some .bar })
    | .settling | .dwelling => s.endAndPark .service .stoppedBar
    | .parked | .idle | .clutching | .tripped | .lockout => s
  else s

/-- A bar newly set on a station (R70, R91). -/
def State.setBar (s : State) (st : Fin 16) : State :=
  let t := { s with bars := s.bars.set st true }
  let t := t.withQueue .service (fun q => holdForBar q st)
  (t.barStaged st).barActive st

end Sys2Proof.Machine
end

