-- ==== Sys2Proof/Machine/RePair.lean ====
section
/-! DEFINITION. The re-pair and the clutch state of each rock report (R136 to R141). -/

namespace Sys2Proof.Machine

/-- Whether a trip's current leg moves both skips. -/
def Trip.isCoupled (t : Trip) : Bool := t.leg.any Leg.isCoupled

/-- CLUTCH FAULT for the rock winder's active trip (R136, R139, R141). -/
def State.clutchFault (s : State) : State := s.deliver (s.leadingReport .rock .clutchFault .trip)

/-- An unrequested clutch change: the skips are unpaired, and with a coupled trip active CLUTCH FAULT follows (R136). -/
def State.unrequestedChange (s : State) : State :=
  let coupled := (s.pipe .rock).active.any Trip.isCoupled
  let t := s.unpair
  if coupled then t.clutchFault else t

/-- Whether a staged inspection trip of the rock winder moves the skips otherwise than the clutch now stands (R136). -/
def clutchDiffers (t : Trip) (c : Clutch) : Bool :=
  t.kind == .inspection && c != (if t.isCoupled then .closed else .opened)

/-- A staged inspection trip discarded where the clutch no longer stands as when the trip was built (R136). -/
def State.discardInspection (s : State) (c : Clutch) : State :=
  if (s.pipe .rock).staged.any (clutchDiffers · c) then s.discardStaged .rock .withdrawn else s

/-- The clutch state with no re-pair in hand (R136). CLUTCH FAULT, which ends a coupled active trip ABORTED, is delivered
before a staged inspection trip is discarded WITHDRAWN; R136 gives the two no order (DESIGN CHOICE, log 51). -/
def State.clutchOutside (s : State) (c : Clutch) : State :=
  let t := if c != .closed && s.pairing != .unpaired then s.unrequestedChange else s
  t.discardInspection c

/-- The opening confirmation: the re-pair ends where a stop is pending, and otherwise the free move is offered (R138). -/
def State.openingConfirmed (s : State) (r : RePair) : State :=
  let t := { s with clutchTimer := none }
  if (t.winder .rock).stopPending then t.endAndPark .rock .stopped
  else { t with repair := some { r with phase := .freeMove } }.offerLeg .rock

/-- An Open report in the Free move phase: in CLUTCHING with no offer in progress it ends the re-pair (R139). Where eight
refusals have ended the offer and a STOP is then taken before this report, R139 gives the trip both DRIVE REFUSED and
STOPPED; the model ends it STOPPED (DESIGN CHOICE, log 52). -/
def State.freeConfirmed (s : State) (r : RePair) : State :=
  if s.isIn .rock .clutching && (s.pipe .rock).offer.isNone then
    s.endAndPark .rock (if (s.winder .rock).stopPending then .stopped else r.offerEnd.getD .stopped)
  else s

/-- The outcome of a trip all of whose legs are landed (R121, R140). -/
def Trip.landedOutcome (t : Trip) : TripOutcome :=
  if t.legs.any (fun l => decide (0 < l.relevels)) then .completedRelevelled else .completed

/-- The closing confirmation: the pairing becomes the target pocket and the trip ends (R140). -/
def State.closingConfirmed (s : State) (r : RePair) : State :=
  let o := ((s.pipe .rock).active.map Trip.landedOutcome).getD .completed
  ({ s with clutchTimer := none }.pairWith r.pocket).endAndPark .rock o

/-- The clutch state with a re-pair in hand (R138, R139, R140). -/
def State.clutchWithin (s : State) (r : RePair) (c : Clutch) : State :=
  match r.phase, c with
  | .opening, .opened => s.openingConfirmed r
  | .opening, .closed | .opening, .moving => s
  | .freeMove, .opened => s.freeConfirmed r
  | .freeMove, .closed | .freeMove, .moving => s.clutchFault
  | .closing, .closed => s.closingConfirmed r
  | .closing, .opened | .closing, .moving => s

/-- The clutch state of a rock report taken (R136 to R140). -/
def State.takeClutch (s : State) (c : Clutch) : State :=
  let t := { s with clutch := some c }
  match t.repair with
  | none => t.clutchOutside c
  | some r => t.clutchWithin r c

/-- An order to the clutch, with the clutch timer started for 20 s (R138, R140). -/
def State.orderClutch (s : State) (o : Order) : State :=
  { s with clutchTimer := some (ahead s.now 20000) }.sendOrder .rock o

/-- A re-pair built and begun: the trip is active, the winder in CLUTCHING, the skips unpaired, and the opening or the
free move begun by the clutch as it stands (R137, R138). -/
def State.beginRePair (s : State) (pocket : Pocket) (free : Skip) : State :=
  let n := s.nextTrip .rock
  let t := s.activate .rock (Trip.built n .rePair .rePair [s.freeLeg free pocket n])
  let t := (t.changeState .rock .clutching).unpair
  match t.clutch with
  | some .opened => { t with repair := some ⟨.freeMove, pocket, free, none⟩ }.offerLeg .rock
  | some .closed | some .moving | none =>
    { t with repair := some ⟨.opening, pocket, free, none⟩ }.orderClutch .clutchOpen

/-- The path from the free skip's estimate to a pocket (R45, R137). -/
def State.freePath (s : State) (pocket : Pocket) (free : Skip) : List Path :=
  [s.path free.conveyance (s.estimateOrigin free.conveyance) [(s.work.rockPoints.get pocket.point).depth]]

/-- The tests of RE-PAIR after its fields are known, in their order (R137). -/
def State.rePairTests (s : State) (pocket : Pocket) (free : Skip) : Option Reason :=
  if !s.isIn .rock .idle then some .winderState
  else if (s.pipe .rock).staged.isSome then some .stagedBusy
  else if (s.winder .rock).recovery then some .recovery
  else if s.pairing = .paired pocket then some .samePairing
  else if s.clutch = none ∨ s.clutch = some .moving then some .clutchMoving
  else if !s.standsAt free.other .tip then some .skipState
  else if (s.pathCheck .work (s.freePath pocket free) overNone).isSome then some .workZone
  else if (s.pathCheck .inspect (s.freePath pocket free) overNone).isSome && (s.winder .rock).mode != .inspection then
    some .inspectZone
  else none

/-- The offer of a free move ended by a stop pending; the next confirmation ends the re-pair (R101, R139). -/
def State.stopFreeMove (s : State) : State :=
  match s.repair with
  | some r =>
    if r.phase = .freeMove ∧ (s.pipe .rock).offer.isSome then s.endFreeOffer .stopped else s
  | none => s

end Sys2Proof.Machine
end

