-- ==== Sys2Proof/Machine/Store.lean ====
section
/-! DEFINITION. The Configuration Store: commit, the shaft work record, and the start-up sequence (chapter 12, R54, R107). -/

namespace Sys2Proof.Machine

/-! ## The stored configuration (R175, R176, R177) -/

/-- The zone entries other than WORK, which the stored configuration keeps (R175). -/
def fixedAndOrdinary (zones : List (Nat × Zone)) : List (Nat × Zone) := zones.filter (fun e => e.2.kind != .work)

/-- The WORK entries, which the shaft work record keeps (R178). -/
def workEntries (zones : List (Nat × Zone)) : List (Nat × Zone) := zones.filter (fun e => e.2.kind == .work)

/-- The stretch corrections of the four records. -/
def State.corrections (s : State) : PerConveyance Int :=
  ⟨(s.position .cage).correction, (s.position .counterweight).correction, (s.position .skip0).correction,
    (s.position .skip1).correction⟩

/-- The copy that a commit writes: every item of R175 as it stands, the generation raised by one (R176). -/
def State.commitCopy (s : State) : StoredConfig :=
  ⟨s.work, s.corrections, fixedAndOrdinary s.zones, s.pairing, s.generation + 1, true⟩

/-- A commit taken: its copy is made, and its write ends within 2,000 ms (R176). -/
def State.startCommit (s : State) : State := { s with commit := some ⟨s.commitCopy, ahead s.now 2000⟩ }

/-- The end of a commit's write whose check holds: the spare becomes current (R177). -/
def State.commitHeld (s : State) (c : StoredConfig) : State :=
  { s with
    storedCurrent := c
    storedSpare := s.storedCurrent
    generation := c.generation
    unconfigured := false
    commit := none }

/-- The end of a commit's write whose check fails (R177). -/
def State.commitFailed (s : State) (c : StoredConfig) : State :=
  { s with storedSpare := { c with sound := false }, commit := none }.deliverStoreInvalid

/-- The end of a commit's write (R177). -/
def State.endCommit (s : State) (holds : Bool) : State :=
  match s.commit with
  | none => s
  | some c => if holds then s.commitHeld c.copy else s.commitFailed c.copy

/-- Whether the working configuration meets the test of R176: a station from S1 to S15 in service, and an OVERWIND
zone. -/
def State.configurable (s : State) : Bool :=
  (s.work.stations.toList.drop 1).any (·.inService) && s.zones.any (fun e => e.2.kind == .overwind)

/-! ## The shaft work record (R44, R178) -/

/-- A write of the shaft work record started with the bars and WORK entries as they stand (R178). -/
def State.startRecordWrite (s : State) : State :=
  { s with recordWrite := some ⟨⟨s.bars, workEntries s.zones, true⟩, ahead s.now 10⟩ }

/-- The end of a record write whose check holds: the spare becomes current (R178). -/
def State.recordHeld (s : State) (r : ShaftRecord) : State :=
  { s with recordCurrent := r, recordSpare := s.recordCurrent, recordWrite := none }

/-- The end of a record write whose check fails (R178). -/
def State.recordFailed (s : State) (r : ShaftRecord) : State :=
  { s with recordSpare := { r with sound := false }, recordWrite := none }.deliverStoreInvalid

/-- The end of a record write (R178). -/
def State.endRecordWrite (s : State) (holds : Bool) : State :=
  match s.recordWrite with
  | none => s
  | some r => if holds then s.recordHeld r.copy else s.recordFailed r.copy

/-! ## The start-up sequence (R54, R179) -/

/-- The part with everything at the values of R179 but for what outlives the loss of power — the stores and the levels of
its lines — and the model's own counter and queue; the Fault Recorder is empty (R163, R179). Each copy keeps the result of the
check at the end of its write: none that held fails at a later power-on (DESIGN CHOICE, log 60). -/
def State.unpowered (s : State) : State :=
  { State.reset with
    emergencyLine := s.emergencyLine
    maintenanceKey := s.maintenanceKey
    commissioningLine := s.commissioningLine
    storedCurrent := s.storedCurrent
    storedSpare := s.storedSpare
    recordCurrent := s.recordCurrent
    recordSpare := s.recordSpare
    draws := s.draws
    pending := s.pending
    faults := [] }

/-- Step 1, the check holding: every item of R175 loaded. -/
def State.loadConfig (s : State) (c : StoredConfig) : State :=
  let cold := c.settings.tracking.coldBand
  { s with
    work := c.settings
    positions := ⟨.atPowerOn cold c.corrections.cage, .atPowerOn cold c.corrections.counterweight,
      .atPowerOn cold c.corrections.skip0, .atPowerOn cold c.corrections.skip1⟩
    zones := c.zones
    pairing := c.pairing
    generation := c.generation
    unconfigured := false }

/-- Step 1 of R179, the check as its write left it (log 60). -/
def State.startConfig (s : State) : State :=
  if s.storedCurrent.sound then s.loadConfig s.storedCurrent else s.deliverStoreInvalid

/-- A table with the recorded WORK entries put at their numbers (R54). -/
def placeAll (zones : List (Nat × Zone)) (entries : List (Nat × Zone)) : List (Nat × Zone) :=
  entries.foldl (fun t e => tablePut t e.1 e.2) zones

/-- A stored entry whose number a WORK entry has taken: placed at the lowest free ordinary number, or not loaded, with
STORE INVALID (R54). -/
def State.moveEntry (s : State) (e : Nat × Zone) : State :=
  match lowestFreeOrdinary s.zones with
  | some n => { s with zones := tablePut s.zones n e.2 }
  | none => s.deliverStoreInvalid

/-- Step 2, the check holding: the bars loaded, the WORK entries placed, and the stored entries they displace moved in
ascending order (R54, log 34). -/
def State.loadRecord (s : State) (r : ShaftRecord) : State :=
  let displaced := s.zones.filter (fun e => (tableGet r.work e.1).isSome)
  let t := { s with bars := r.bars, zones := placeAll s.zones r.work }
  displaced.foldl State.moveEntry t

/-- Step 2 of R179; the bars are all set before it, as a failed check leaves them, and the check is as
the last write left it (log 60). -/
def State.startRecord (s : State) : State :=
  if s.recordCurrent.sound then s.loadRecord s.recordCurrent else s.deliverStoreInvalid

/-- An emergency-stop line taken as asserted (R107). -/
def State.emergencyStop (s : State) (w : Winder) : State :=
  if s.isIn w .lockout then s else s.deliver (s.leadingReport w .emergencyStop .trip)

/-- An emergency-stop line sampled at power-on (R107, log 15). -/
def State.sampleLine (s : State) (w : Winder) : State := if s.emergencyLine.get w then s.emergencyStop w else s

/-- The start-up sequence (R179). -/
def State.startUp (s : State) : State :=
  let t := (s.unpowered.startConfig).startRecord
  ({ t with commissioning := t.commissioningLine }.sampleLine .service).sampleLine .rock

end Sys2Proof.Machine
end

