-- ==== Sys2Proof/Machine/Wire.lean ====
section
/-! DEFINITION. The bytes of the frames the part sends (R165, R169, R174), and the pages of the long reads (R171). Sizes, codes and orders that the layouts of section 11.6 do not give are inferred from R174 (logs 20 and 47). -/

namespace Sys2Proof.Machine

/-! ## Fields (R174) -/

/-- A field of one byte. -/
def u8 (n : Nat) : List Byte := [BitVec.ofNat 8 n]

/-- A field of two bytes, high byte first. -/
def u16 (n : Nat) : List Byte := u8 (n / 256) ++ u8 n

/-- A field of four bytes, high byte first. -/
def u32 (n : Nat) : List Byte := u16 (n / 65536) ++ u16 n

/-- A signed field of two bytes, in two's complement. -/
def i16 (n : Int) : List Byte := u16 (BitVec.ofInt 16 n).toNat

/-- A signed field of four bytes, in two's complement. -/
def i32 (n : Int) : List Byte := u32 (BitVec.ofInt 32 n).toNat

/-- A flag. -/
def flag (b : Bool) : List Byte := u8 b.toNat

/-- A field that may be absent, after its presence byte. -/
def optional {α : Type} (f : α → List Byte) : Option α → List Byte
  | none => u8 0
  | some a => u8 1 ++ f a

/-- A list, after the count of its items. -/
def listed {α : Type} (f : α → List Byte) (l : List α) : List Byte := u8 l.length ++ l.flatMap f

/-- A reading of the time base. -/
def timeBytes (t : Time) : List Byte := u32 t.toNat

/-- A winder: 0 service, 1 rock. -/
def winderBytes (w : Winder) : List Byte := u8 w.ctorIdx

/-- A conveyance, 0 to 3. -/
def conveyanceBytes (c : Conveyance) : List Byte := u8 c.ctorIdx

/-- A deck set, as `deckSetCode` reads it (log 58). -/
def deckSetBytes (d : DeckSet) : List Byte := u8 (d.upper.toNat + 2 * d.middle.toNat + 4 * d.lower.toNat)

/-- A class mask, as `maskCode` reads it (log 58). -/
def maskBytes (m : PerConveyance Bool) : List Byte :=
  u8 (m.cage.toNat + 2 * m.counterweight.toNat + 4 * m.skip0.toNat + 8 * m.skip1.toNat)

/-- A winder state: 1 to 9. -/
def winderStateBytes (s : WinderState) : List Byte := u8 (s.ctorIdx + 1)

/-- An outcome record in TRIP STATUS: presence, trip number, outcome 1 to 10, all 0 where absent. -/
def outcomeBytes : Option OutcomeRecord → List Byte
  | none => u8 0 ++ u16 0 ++ u8 0
  | some o => u8 1 ++ u16 o.trip ++ u8 (o.outcome.ctorIdx + 1)

/-- A pairing: 0 A, 1 B, 2 Unpaired. -/
def pairingBytes : Pairing → List Byte
  | .paired .a => u8 0
  | .paired .b => u8 1
  | .unpaired => u8 2

/-- A clutch state as last reported: the code of a POSITION REPORT, or 3 for not reported. -/
def clutchBytes : Option Clutch → List Byte
  | some .opened => u8 0
  | some .closed => u8 1
  | some .moving => u8 2
  | none => u8 3

/-- The contents of a skip and, while Loaded, its mass. -/
def contentsBytes : Contents → List Byte
  | .empty => u8 0 ++ u8 0
  | .loaded mass => u8 1 ++ u8 1 ++ u16 mass
  | .suspect => u8 2 ++ u8 0
  | .unknown => u8 3 ++ u8 0

/-- The place of a limiting term in the table of R47. -/
def termIndex : CapTerm → Nat
  | .cls => 0
  | .slow _ => 1
  | .passing _ => 2
  | .creepBand => 3
  | .approach => 4
  | .inspection => 5

/-- The zone number of a limiting term, where it is SLOW or PASSING (R49). -/
def termZone : CapTerm → Option Nat
  | .slow n | .passing n => some n
  | .cls | .creepBand | .approach | .inspection => none

/-- A cap: its speed, its limiting term, and that term's zone. -/
def capBytes (c : Cap) : List Byte :=
  u16 c.speed ++ optional (fun t => u8 (termIndex t)) c.term ++ optional u8 (c.term.bind termZone)

/-- What an end reason carries (R64). -/
def endReasonBytes : EndReason → List Byte
  | .cancelled => u8 0
  | .refusedZone n => u8 1 ++ u8 n
  | .refusedLoad => u8 2
  | .absorbed id => u8 3 ++ u8 id
  | .tripEnded trip outcome => u8 4 ++ u16 trip ++ u8 (outcome.ctorIdx + 1)

/-- A call record (section 4.1). A field that its kind of call lacks is absent after its presence byte, the deck list of a
rock cycle too (log 47). -/
def callBytes (c : Call) : List Byte :=
  u8 c.id ++ u8 c.origin.ctorIdx ++
  (match c.work with
   | .cage station cls decks riders payload =>
     u8 0 ++ u8 cls.ctorIdx ++ (u8 1 ++ u8 station.val) ++ (u8 1 ++ listed (fun d => u8 d.ctorIdx) decks) ++
       optional (listed u8) riders ++ optional u16 payload ++ u8 0
   | .cycle rising =>
     u8 1 ++ u8 Class.rock.ctorIdx ++ u8 0 ++ u8 0 ++ u8 0 ++ u8 0 ++ (u8 1 ++ u8 rising.ctorIdx)) ++
  flag c.priority ++ u8 c.state.ctorIdx ++ timeBytes c.arrival

/-- A fault entry (section 10.2), the cap of an OVERSPEED last (log 32). -/
def faultBytes (e : FaultEntry) : List Byte :=
  u8 e.kind.ctorIdx ++ u8 e.severity.ctorIdx ++ optional winderBytes e.winder ++ optional conveyanceBytes e.conveyance ++
  optional i32 e.depth ++ u32 e.band ++ i16 e.speed ++ optional u16 e.trip ++ optional u8 e.zone ++
  optional i32 e.detail ++ timeBytes e.time ++ optional u16 e.cap

/-- What READ POSITION gives of a position record before its zone set, in the order of R34. -/
def positionHead (p : Position) : List Byte :=
  u8 p.state.ctorIdx ++ optional i32 p.estimate ++ u32 p.band ++ u16 p.base ++ u32 p.travel ++ optional u8 p.lastMarker ++
  i32 p.correction ++ i16 p.speed ++ u8 p.direction.ctorIdx ++ flag p.rest

/-- A byte whose bit `i` tells whether zone number `8 * place + i` is in a set. -/
def zoneMapByte (set : List Nat) (place : Nat) : List Byte :=
  u8 (((List.range 8).map (fun i => if set.contains (8 * place + i) then 2 ^ i else 0)).sum)

/-- A zone set in so many bytes of a body: the list of its numbers, as R174 sends a list. Where that list would leave its item
too long for one body, though R171 says that each item fits in one, it goes as the byte 255 and a map of the 64 numbers instead,
so that the set is whole (R34, R171; DESIGN CHOICE, log 47). -/
def zoneSetBytes (room : Nat) (set : List Nat) : List Byte :=
  if (listed u8 set).length ≤ room then listed u8 set else u8 255 ++ (List.range 8).flatMap (zoneMapByte set)

/-- A position record as READ POSITION gives it, the whole zone set last (R34), in an item that has so much room. -/
def positionBytes (room : Nat) (p : Position) : List Byte :=
  positionHead p ++ zoneSetBytes (room - (positionHead p).length) p.zoneSet

/-- One item of a page whose items have so much room together (R171). -/
def itemBytes (room : Nat) : PageItem → List Byte
  | .call position c => callBytes c ++ u8 position
  | .primary e => optional faultBytes e
  | .fault position e => faultBytes e ++ u8 position
  | .position _ p => positionBytes room p

/-- The part repeated in every page (R171). -/
def commonBytes : PageCommon → List Byte
  | .queue occupied admission => flag occupied ++ u8 admission
  | .faults overflow => u8 overflow
  | .positions reports passes =>
    optional timeBytes reports.service ++ optional timeBytes reports.rock ++ optional timeBytes passes.cage ++
      optional timeBytes passes.counterweight ++ optional timeBytes passes.skip0 ++ optional timeBytes passes.skip1

/-- The bytes that a page has for its items: what a body of 96 bytes holds beside the header, the repeated part and the three
counts (R171). -/
def pageRoom (common : PageCommon) : Nat := 96 - (3 + (commonBytes common).length + 3)

/-- The indications still set, OVER coded 0 and UNDER 1 (R148, log 47). -/
def indicationCodes (overSet underSet : Bool) : List Nat := (if overSet then [0] else []) ++ (if underSet then [1] else [])

/-- The contents of a Done or Merged reply after its header. Where the layouts of section 11.6 leave it open the order and
form are the model's own (DESIGN CHOICE, log 47): QUERY CALL's first byte is 0 in the queue, 1 staged, 2 active, 3 ended,
and that case's fields follow alone; READ ZONE's is 0 for a free number, alone, and 1 before the whole entry; QUERY BAR's
byte is 0 for Barred and 1 for Clear; CLEAR INDICATIONS lists the indications still set; a page gives its items after their
count, then the part repeated in every page, the total and the first item number; READ ENVELOPE gives the fields of section
9.1 in its table's order, the under timer as its expiry reading, and the time left on that timer last; READ COUNTERS gives the
five counters of the service winder, in the order of section 10.7's table, then the five of the rock winder, then the metres by
conveyance and the frame errors by link. READ CAP's approach limit is sent in the two bytes of a speed, a limit above
65,535 modulo 65,536 (DESIGN CHOICE, log 61). -/
def answerBytes : Answer → List Byte
  | .nothing => []
  | .callId id => u8 id
  | .tripNumber n => u16 n
  | .zoneNumber n => u8 n
  | .indications o u => listed u8 (indicationCodes o u)
  | .whereabouts (.queued st position) => u8 0 ++ u8 st.ctorIdx ++ u8 position
  | .whereabouts (.staged trip ready) => u8 1 ++ u16 trip ++ flag ready
  | .whereabouts (.active trip leg) => u8 2 ++ u16 trip ++ u8 leg
  | .whereabouts (.ended r) => u8 3 ++ endReasonBytes r
  | .bar b => u8 (if b then 0 else 1)
  | .tripStatus state active staged latest prior =>
    winderStateBytes state ++
    (match active with
     | none => u8 0 ++ u16 0 ++ u8 0 ++ u8 0 ++ u8 0
     | some a => u8 1 ++ u16 a.trip ++ u8 (a.kind.ctorIdx + 1) ++ u8 a.leg ++ u8 a.legs) ++
    (match staged with
     | none => u8 0 ++ u16 0 ++ u8 0 ++ u8 0
     | some t => u8 1 ++ u16 t.trip ++ u8 (t.call.getD 0) ++ flag t.ready) ++
    outcomeBytes latest ++ outcomeBytes prior
  | .skip r t a b pairing clutch phase =>
    contentsBytes r.contents ++ timeBytes r.changedAt ++ flag t ++ flag a ++ flag b ++ pairingBytes pairing ++
      clutchBytes clutch ++ optional (fun (p : RePairPhase) => u8 p.ctorIdx) phase
  | .winder r brake drive =>
    winderStateBytes r.state ++ u8 r.mode.ctorIdx ++ flag r.holdPending ++ flag r.held ++ flag r.recovery ++
      flag r.stopPending ++ optional (fun (c : StopCause) => u8 c.ctorIdx) r.stopCause ++ optional timeBytes r.stopStarted ++
      u8 r.silent.ctorIdx ++ flag r.driveFaultLatch ++ optional u16 r.slowCap ++ flag r.permit ++ flag r.brakeDemand ++
      optional (fun (b : Brake) => u8 b.ctorIdx) brake ++ optional (fun (d : DriveState) => u8 d.ctorIdx) drive
  | .page total first items common =>
    listed (itemBytes (pageRoom common)) items ++ commonBytes common ++ u8 total ++ u8 first
  | .zone entry =>
    optional (fun (e : Nat × Zone) => u8 e.1 ++ u8 e.2.kind.ctorIdx ++ maskBytes e.2.mask ++ i32 e.2.upper ++ i32 e.2.lower ++
      optional u16 e.2.cap ++ listed u8 e.2.label) entry
  | .cap c approach =>
    capBytes c ++ optional (fun (a : Nat × Nat) => u32 a.1) approach ++ optional (fun (a : Nat × Nat) => u16 a.2) approach
  | .geometry pitch span => u16 pitch ++ u32 span
  | .station e => optional i32 e.depth ++ u8 e.window ++ deckSetBytes e.decks ++ flag e.inService
  | .rockPoint e => i32 e.depth ++ u8 e.window
  | .cls c => u16 c.maxSpeed ++ u16 c.decel ++ u16 c.limit
  | .tracking t =>
    u8 t.growth ++ u16 t.coldBand ++ u16 t.creepThreshold ++ u16 t.ambiguity ++ u16 t.warn ++ u16 t.trip ++
      u16 t.standstill ++ u16 t.unpermitted ++ u16 t.pair
  | .marker m => u8 m.id ++ conveyanceBytes m.compartment ++ i32 m.depth ++ u8 m.accuracy
  | .settle s => u16 s.base ++ u8 s.cap
  | .payload tolerance action => u16 tolerance ++ u8 action.ctorIdx
  | .envelope e m left =>
    flag m.running ++ u16 e.hysteresis ++ u8 e.mode.ctorIdx ++ u8 e.under ++ u8 e.margin ++ flag m.envelopeLock ++
      flag m.tripLock ++ u16 m.speed ++ u16 m.cap.speed ++ optional (fun t => u8 (termIndex t)) m.cap.term ++
      flag m.overCondition ++ flag m.overIndication ++ flag m.underCondition ++ flag m.underIndication ++
      optional timeBytes m.underTimer ++ flag m.critical ++ optional u16 left
  | .counters w m f =>
    [w.service, w.rock].flatMap (fun c => u32 c.completed ++ u32 c.aborted ++ u32 c.relevels ++ u32 c.landingFailures ++
      u32 c.driveRefusals) ++
    [m.cage, m.counterweight, m.skip0, m.skip1].flatMap u32 ++
    [f.console, f.signal, f.ore, f.rockDrive, f.serviceDrive].flatMap u32
  | .identity vendor part revision generation commissioning unconfigured =>
    listed u8 vendor ++ listed u8 part ++ u8 revision ++ u32 generation.toNat ++ flag commissioning ++ flag unconfigured

/-- The three-byte header of a reply body (R169). -/
def headerBytes (r : Reply) : List Byte :=
  (match r.code with
   | .done => u8 1 ++ u8 0
   | .merged => u8 2 ++ u8 0
   | .refused reason => u8 3 ++ u8 (reason.ctorIdx + 1)
   | .busy => u8 4 ++ u8 0) ++ flag r.abandoned

/-- The body of a reply; a Refused or Busy reply carries the header alone (R169). -/
def replyBytes (r : Reply) : List Byte :=
  match r.code with
  | .done | .merged => headerBytes r ++ answerBytes r.answer
  | .refused _ | .busy => headerBytes r

/-- The body of a request to a drive; the GRANT body has 17 bytes for one drum and 26 for two (section 11.6). -/
def orderBytes : Order → List Byte
  | .grant trip leg speed decel drums =>
    u16 trip ++ u8 leg ++ u8 drums.length ++ u16 speed ++ u16 decel ++
      drums.flatMap (fun d => u8 d.drum.ctorIdx ++ i32 d.target ++ i32 d.count)
  | .grantVoid trip leg => u16 trip ++ u8 leg
  | .slow cap => u16 cap
  | .stop trip => u16 trip
  | .resume | .brake | .clutchOpen | .clutchClose => []

/-- A frame: start byte, length, kind, tag, body and CRC (section 11.6). -/
def frameBytes (kind tag : Nat) (body : List Byte) : List Byte :=
  let covered := u8 body.length ++ u8 kind ++ u8 tag ++ body
  0xA5#8 :: covered ++ [(crcOf covered).extractLsb' 8 8, (crcOf covered).extractLsb' 0 8]

/-- The bytes of a frame the part sends, and the link it leaves on. -/
def sentBytes : Sent → Link × List Byte
  | .reply link kind tag r => (link, frameBytes kind tag (replyBytes r))
  | .order w tag o => (driveLink w, frameBytes (kindNumber o.kind) tag (orderBytes o))

/-! ## Pages (R171) -/

/-- As many of the items, in order, as fit by their sizes in so many bytes. -/
def fitting (size : PageItem → Nat) (room : Nat) : List PageItem → List PageItem
  | [] => []
  | i :: rest => if size i ≤ room then i :: fitting size (room - size i) rest else []

/-- The items of the page that begins at item `first`: as many whole items as fit in a body of 96 bytes after the
header, the repeated part and the three counts; the first item always goes, since each item fits in one body (log 21). -/
def pageItems (common : PageCommon) (items : List PageItem) (first : Nat) : List PageItem :=
  let room := pageRoom common
  let size (i : PageItem) : Nat := (itemBytes room i).length
  match items.drop (first - 1) with
  | [] => []
  | i :: rest => i :: fitting size (room - size i) rest

/-- The page of an answer that begins at item `first`. -/
def pageAnswer (common : PageCommon) (items : List PageItem) (first : Nat) : Answer :=
  .page items.length first (pageItems common items first) common

/-- A read in pages: `form` gives the whole answer of a fresh read (R171). The snapshot holds all its items, so that a
continuation from an item that an earlier page has shown is answered too, of which R171 says nothing (DESIGN CHOICE,
log 57). -/
def pageRead (s : State) (kind : ReadKind) (first : Nat) (form : State → List PageItem × PageCommon) :
    State × (Code × Answer) :=
  if first = 0 then ({ s with snapshot := none }, refuse .outOfRange)
  else if first = 1 then
    let whole := form s
    let page := pageItems whole.2 whole.1 1
    let rest := if page.length < whole.1.length then some ⟨kind, whole.2, whole.1, s.now⟩ else none
    ({ s with snapshot := rest }, doneWith (.page whole.1.length 1 page whole.2))
  else
    match s.snapshot with
    | none => (s, refuse .noSnapshot)
    | some snap =>
      if snap.kind ≠ kind then ({ s with snapshot := none }, refuse .noSnapshot)
      else if snap.items.length < first then (s, refuse .outOfRange)
      else
        let page := pageItems snap.common snap.items first
        let kept := if first - 1 + page.length < snap.items.length then some snap else none
        ({ s with snapshot := kept }, doneWith (.page snap.items.length first page snap.common))

/-- A paged read request: as `request`, but a request that passes the screen leaves the snapshot to `pageRead`, since a
continuation of the same read does not drop it (R167, R171). -/
def pageRequest (s : State) (h : Head) (k : Kind) (length : Nat) (winder : Option Nat)
    (act : State → State × (Code × Answer)) : State :=
  let flag := abandons s h.link false
  let taken := s.takeRequest h k
  match screen taken h k length winder with
  | some code => (taken.dropSnapshot h.link).reply h (kindNumber k) flag (code, .nothing)
  | none => let r := act taken; r.1.reply h (kindNumber k) flag r.2

end Sys2Proof.Machine
end

