-- ==== Sys2Proof/Machine/CallCommands.lean ====
section
/-! DEFINITION. The commands of the Call Manager: calls, the assembly, the ended-call lists, the bars, the queue reads (chapter 4). -/

namespace Sys2Proof.Machine

/-! ## CALL and CYCLE -/

/-- The size of the body of CALL: station, class, decks, riders, payload, priority (R58, R174). -/
def callSize (decks : List Nat) (riders : Presence (List Nat)) (payload : Presence Nat) : Nat :=
  2 + listSize decks + ridersSize riders + optionalSize 2 payload + 1

/-- Whether a CALL gives as many decks as its link allows: one on the signal link, one to three on the console (R58).
R58's table has no test of the number; the model refuses another number "Out of range" at the table's first test, before
"Deck repeated" (DESIGN CHOICE, log 40). -/
def deckCountOk (link : Link) (decks : List Nat) : Bool :=
  if link = .signal then decks.length == 1 else between 1 3 decks.length

/-- CALL taken by the Call Manager; the priority flag counts on the console link alone (R58, R59, R61). A priority byte that no
code assigns is refused "Out of range", as R167 settles; R58 gives that refusal no place among its tests and the signal link's
field no effect: the model refuses it at the table's first test, before "Deck repeated", on the signal link too (DESIGN
CHOICE, log 40). -/
def takeCall (link : Link) (station cls : Nat) (decks : List Nat) (riders : Option (List Nat)) (payload : Option Nat)
    (priority : Nat) (s : State) : State × (Code × Answer) :=
  match stationCode station, cageClassCode cls, codes deckCode decks, flagCode priority with
  | some st, some c, some ds, some p =>
    if deckCountOk link decks && countsInRange riders payload then
      let r := s.admitCageCall link st c ds riders payload (p && link == .console)
      (r.1.settle .service, r.2)
    else (s, refuse .outOfRange)
  | _, _, _, _ => (s, refuse .outOfRange)

/-- CALL (R58, R59, R61). -/
def execCall (h : Head) (station cls : Nat) (decks : List Nat) (riders : Presence (List Nat)) (payload : Presence Nat)
    (priority : Nat) (s : State) : Host.Outcome State Fault Refusal :=
  .next (request s h .call (callSize decks riders payload) none
    (withRead riders (fun r => withRead payload (fun p => takeCall h.link station cls decks r p priority))))

/-- CYCLE taken by the Call Manager (R60). -/
def takeCycle (link : Link) (rising : Nat) (s : State) : State × (Code × Answer) :=
  match skipCode rising with
  | none => (s, refuse .outOfRange)
  | some k => let r := s.mergeOrAdmit .rock link (.cycle k) false; (r.1.settle .rock, r.2)

/-- CYCLE (R60). -/
def execCycle (h : Head) (rising : Nat) (s : State) : Host.Outcome State Fault Refusal :=
  .next (request s h .cycle 1 none (takeCycle h.link rising))

/-! ## The assembly (R65 to R68) -/

/-- OPEN CALL taken by the Call Manager (R65). -/
def takeOpenCall (station cls : Nat) (s : State) : State × (Code × Answer) :=
  match stationCode station, cageClassCode cls with
  | some st, some c =>
    if (s.stationAt st).inService then ({ s with assembly := some ⟨st, c, [], s.now⟩ }, done)
    else (s, refuse .notInService)
  | _, _ => (s, refuse .outOfRange)

/-- OPEN_CALL (R65). -/
def execOpenCall (h : Head) (station cls : Nat) (s : State) : Host.Outcome State Fault Refusal :=
  .next (request s h .openCall 2 none (takeOpenCall station cls))

/-- The tests of ADD DECK for a deck of an open assembly (R66). -/
def State.addDeckTests (s : State) (a : Assembly) (d : Deck) : List (Bool × Reason) :=
  [(a.decks.contains d, .deckRepeated),
   (!(s.stationAt a.station).decks.has d, .deckNotServed),
   (decide (3 ≤ a.decks.length), .assemblyFull)]

/-- ADD DECK taken by the Call Manager (R66). -/
def takeAddDeck (deck : Nat) (s : State) : State × (Code × Answer) :=
  match s.assembly, deckCode deck with
  | none, _ => (s, refuse .noAssembly)
  | some _, none => (s, refuse .outOfRange)
  | some a, some d =>
    s.tested (s.addDeckTests a d) (fun s => ({ s with assembly := some { a with decks := a.decks ++ [d] } }, done))

/-- ADD_DECK (R66). -/
def execAddDeck (h : Head) (deck : Nat) (s : State) : Host.Outcome State Fault Refusal :=
  .next (request s h .addDeck 1 none (takeAddDeck deck))

/-- CLOSE CALL taken by the Call Manager: an open assembly closes whatever the answer, and a presence byte that no code
assigns is out of range at the first test of R58 (R58, R67, R174). -/
def takeCloseCall (link : Link) (riders : Presence (List Nat)) (payload : Presence Nat) (s : State) :
    State × (Code × Answer) :=
  match s.assembly with
  | none => (s, refuse .noAssembly)
  | some a =>
    let t := { s with assembly := none }
    if a.decks.isEmpty then (t, refuse .noDecks)
    else
      match riders.read, payload.read with
      | some rs, some p =>
        if countsInRange rs p then
          let r := t.admitCageCall link a.station a.cls a.decks rs p false
          (r.1.settle .service, r.2)
        else (t, refuse .outOfRange)
      | none, _ | some _, none => (t, refuse .outOfRange)

/-- CLOSE_CALL (R67). -/
def execCloseCall (h : Head) (riders : Presence (List Nat)) (payload : Presence Nat) (s : State) :
    Host.Outcome State Fault Refusal :=
  .next (request s h .closeCall (ridersSize riders + optionalSize 2 payload) none
    (takeCloseCall h.link riders payload))

/-- Whether 20 s have passed since the assembly was opened (R68). -/
def State.assemblyDue (s : State) : Bool := s.assembly.any (fun a => decide (20000 ≤ elapsed a.openedAt s.now))

/-- ASSEMBLY_TIMEOUT (R68; log 2). -/
def execAssemblyTimeout (s : State) : Host.Outcome State Fault Refusal :=
  let t := s.begin
  .next (if t.assemblyDue then { t with assembly := none } else t)

/-! ## CANCEL CALL, QUERY CALL and the ended-call lists (R63, R64) -/

/-- CANCEL CALL taken by the Call Manager (R63). -/
def takeCancelCall (id : Nat) (w : Winder) (s : State) : State × (Code × Answer) :=
  if (s.queues.get w).any (fun c => c.id == id) then
    (((s.withQueue w (fun q => dropCall q id)).recordEnded w id .cancelled).settle w, done)
  else if sourceId (s.pipe w).staged = some id then ((s.discardStaged w .withdrawn).settle w, done)
  else if sourceId (s.pipe w).active = some id then (s, refuse .inProgress)
  else (s, refuse .noSuchCall)

/-- CANCEL_CALL (R63). -/
def execCancelCall (h : Head) (winder id : Nat) (s : State) : Host.Outcome State Fault Refusal :=
  .next (winderRequest s h .cancelCall 2 winder (takeCancelCall id))

/-- Where the call of a slot's trip is, as the staged trip (R64). -/
def stagedWhereabouts (t : Trip) : Whereabouts := .staged t.number t.ready

/-- The whereabouts of a call id (R64). -/
def State.whereabouts (s : State) (w : Winder) (id : Nat) : Option Whereabouts :=
  match (s.queues.get w).find? (fun c => c.id == id) with
  | some c => some (.queued c.state ((s.queues.get w).findIdx (fun c => c.id == id) + 1))
  | none =>
    match (s.pipe w).staged.filter (fun t => sourceId (some t) == some id),
        (s.pipe w).active.filter (fun t => sourceId (some t) == some id) with
    | some t, _ => some (stagedWhereabouts t)
    | none, some t => some (.active t.number t.current)
    | none, none => ((s.ended.get w).find? (fun e => e.id == id)).map (fun e => .ended e.reason)

/-- The answer of QUERY CALL (R64). -/
def State.queryAnswer (s : State) (w : Winder) (id : Nat) : Code × Answer :=
  match s.whereabouts w id with
  | some x => doneWith (.whereabouts x)
  | none => refuse .noSuchCall

/-- QUERY_CALL (R64). -/
def execQueryCall (h : Head) (winder id : Nat) (s : State) : Host.Outcome State Fault Refusal :=
  .next (winderRequest s h .queryCall 2 winder (fun w t => (t, t.queryAnswer w id)))

/-- Whether an entry of an ended-call list has stood for 60 s (R64). -/
def endedDue (now : Time) (e : Ended) : Bool := decide (60000 ≤ elapsed e.at_ now)

/-- ENDED_CALL_EXPIRY: the entry leaves the list 60 s after its time of ending (R64; log 2). -/
def execEndedCallExpiry (w : Winder) (id : Nat) (s : State) : Host.Outcome State Fault Refusal :=
  let kept := (s.ended.get w).filter (fun e => !(e.id == id && endedDue s.now e))
  .next { s.begin with ended := s.ended.set w kept }

/-! ## The bars (R70, R71, R72) -/

/-- BAR STATION taken by the Call Manager (R70). -/
def takeBarStation (station : Nat) (s : State) : State × (Code × Answer) :=
  match stationCode station with
  | none => (s, refuse .outOfRange)
  | some st => if s.bars[st] then (s, done) else ((s.setBar st).startRecordWrite.settle .service, done)

/-- BAR_STATION (R70). -/
def execBarStation (h : Head) (station : Nat) (s : State) : Host.Outcome State Fault Refusal :=
  .next (request s h .barStation 1 none (takeBarStation station))

/-- QUERY_BAR (R72). -/
def execQueryBar (h : Head) (station : Nat) (s : State) : Host.Outcome State Fault Refusal :=
  .next (readRequest s h .queryBar 1 none (fun t =>
    match stationCode station with
    | none => refuse .outOfRange
    | some st => doneWith (.bar t.bars[st])))

/-- Every bar clear, and the calls they held released (R71). -/
def State.clearBars (s : State) : State :=
  { s with bars := Vector.replicate 16 false }.withQueue .service (fun q => releaseCalls q .heldBar)

/-- CLEAR BARS taken by the Call Manager (R71). -/
def takeClearBars (s : State) : State × (Code × Answer) :=
  if s.bars.toList.any id then (s.clearBars.startRecordWrite.settle .service, done) else (s, done)

/-- CLEAR_BARS (R71). -/
def execClearBars (h : Head) (s : State) : Host.Outcome State Fault Refusal :=
  .next (request s h .clearBars 0 none takeClearBars)

/-! ## READ QUEUE (R57, R171) -/

/-- The whole answer of READ QUEUE (R57, R171). -/
def State.queueItems (s : State) (w : Winder) : List PageItem × PageCommon :=
  ((s.queues.get w).mapIdx (fun i c => .call (i + 1) c), .queue (s.pipe w).staged.isSome (s.admissionCount w))

/-- READ QUEUE taken by the Link Interface (R171). -/
def takeReadQueue (winder first : Nat) (s : State) : State × (Code × Answer) :=
  match winderCode winder with
  | none => ({ s with snapshot := none }, refuse .outOfRange)
  | some w => pageRead s (.queue w) first (fun t => t.queueItems w)

/-- READ_QUEUE (R57, R171). -/
def execReadQueue (h : Head) (winder first : Nat) (s : State) : Host.Outcome State Fault Refusal :=
  .next (pageRequest s h .readQueue 2 (some winder) (takeReadQueue winder first))

/-- Whether the page snapshot has stood for 2,000 ms (R171). -/
def State.snapshotDue (s : State) : Bool := s.snapshot.any (fun x => decide (2000 ≤ elapsed x.formedAt s.now))

/-- SNAPSHOT_EXPIRY (R171; log 2). -/
def execSnapshotExpiry (s : State) : Host.Outcome State Fault Refusal :=
  let t := s.begin
  .next (if t.snapshotDue then { t with snapshot := none } else t)

end Sys2Proof.Machine
end

