-- ==== Sys2Proof/Machine/Landing.lean ====
section
/-! DEFINITION. Landing, decking and re-levelling (chapter 7). -/

namespace Sys2Proof.Machine

/-! ## The settle wait (R117, R118) -/

/-- The settle wait of a leg by its re-level count (R118). -/
def settleWait (e : SettleSettings) (relevels : Nat) : Nat := e.base * 2 ^ min relevels e.cap

/-- LEG COMPLETE taken for a leg that is to be landed: the leg is Settling, the winder in SETTLING, and the settle timer
runs for the trip and leg (R117, R118). -/
def State.beginSettling (s : State) (w : Winder) (t : Trip) (l : Leg) : State :=
  let u := s.withPipe w (fun p => { p with active := some (t.withLeg (fun l => { l with state := .settling })) })
  let u := u.changeState w .settling
  u.withPipe w (fun p =>
    { p with settle := some ⟨ahead s.now (settleWait (s.work.settle.get w) l.relevels), t.number, t.current⟩ })

/-! ## What the landing test examines (R119) -/

/-- A conveyance examined, with the target and the window it is judged against. -/
structure Examined where
  conveyance : Conveyance
  target : Int
  window : Nat
  deriving DecidableEq, Repr

/-- A skip examined against a rock point (R119). -/
def State.examineSkip (s : State) (k : Skip) (point : RockPoint) : Examined :=
  let e := s.work.rockPoints.get point
  ⟨k.conveyance, e.depth, e.window⟩

/-- The conveyances that the landing test of a trip's leg examines (R119). A rock cycle is active only while paired
(R84), and a cage trip has its station. -/
def State.examined (s : State) (t : Trip) (l : Leg) : List Examined :=
  if t.isRockCycle then
    match t.rising, s.pairing.pocket with
    | some k, some p => [s.examineSkip k .tip, s.examineSkip k.other p.point]
    | _, _ => []
  else
    match t.kind, s.repair, t.station with
    | .rePair, some r, _ => [s.examineSkip r.free r.pocket.point]
    | _, _, some st => [⟨.cage, (l.target .cage).getD 0, (s.stationAt st).window⟩]
    | _, _, none => []

/-- How far the band of an examined conveyance exceeds its window (R120). -/
def State.excess (s : State) (e : Examined) : Nat := (s.position e.conveyance).band - e.window

/-- Whether an examined conveyance's interval lies within its window (R119). A record with no estimate counts as a miss: one
conveyance is re-levelled, and a pair, which has then no corrections, fails (DESIGN CHOICE, log 59). -/
def State.lands (s : State) (e : Examined) : Bool := (s.position e.conveyance).inWindow e.target e.window

/-- The examined conveyance whose band most exceeds its window, the first of equals (R120, log 29). -/
def State.widest (s : State) (best : Examined) : List Examined → Examined
  | [] => best
  | e :: rest => s.widest (if s.excess best < s.excess e then e else best) rest

/-! ## Failure and pass (R120, R121) -/

/-- The trip ends LANDING FAILED and LANDING NOT ACHIEVED is delivered for a conveyance (R120). -/
def State.failLanding (s : State) (w : Winder) (t : Trip) (c : Conveyance) : State :=
  ((s.endActive w .landingFailed).deliver ⟨.landingNotAchieved, .stop, w, some c, some t.number, none, none⟩).park w

/-- The active trip with its current leg Landed (R121). -/
def Trip.landed (t : Trip) : Trip := t.withLeg (fun l => { l with state := .landed })

/-- A landed free move: the Closing phase begins (R121, R140). -/
def State.beginClosing (s : State) : State :=
  let t := s.changeState .rock .clutching
  { t with repair := t.repair.map (fun (r : RePair) => { r with phase := .closing }) }.orderClutch .clutchClose

/-- What follows a landed leg (R121). -/
def State.landLeg (s : State) (w : Winder) (t : Trip) : State :=
  let s := s.withPipe w (fun p => { p with active := some t.landed, settle := none })
  if t.kind = .rePair then s.beginClosing
  else if t.legs.length ≤ t.current then s.endAndPark w t.landedOutcome
  else
    let s := s.withPipe w (fun p => { p with active := p.active.map (fun t => { t with current := t.current + 1 }) })
    if (s.winder w).holdPending then s.endAndPark w .heldPartial else s.changeState w .dwelling

/-! ## Re-levels (R122, R123, R124) -/

/-- A leg made a re-level toward its targets, from the leading conveyance's estimate (R122); where its record holds none,
the leg keeps its direction, of which R122 says nothing (DESIGN CHOICE, log 59). -/
def State.relevelLeg (s : State) (l : Leg) (targets : List LegMotion) : Leg :=
  let m := { l with motions := targets, cls := .creep, relevels := l.relevels + 1 }
  match (s.position l.leading).estimate, m.target l.leading with
  | some e, some t => { m with direction := directionTo e t l.direction }
  | _, _ => m

/-- A missed leg re-levelled toward targets and offered at once, or after three re-levels failed for a conveyance
(R122, R123). -/
def State.relevel (s : State) (w : Winder) (t : Trip) (l : Leg) (targets : List LegMotion) (c : Conveyance) : State :=
  if 3 ≤ l.relevels then s.failLanding w t c
  else
    let s := s.withCounters w (fun n => { n with relevels := saturate (n.relevels + 1) })
    (s.withPipe w (fun p => { p with active := some (t.withLeg (fun l => s.relevelLeg l targets)) })).offerLeg w

/-- The upward correction of a skip, by its estimate, its rock point depth, and whether it rises: its estimate less the
point for the rising skip, the point less its estimate for the descending one (R124). -/
def correction (rises : Bool) (estimate point : Int) : Int := if rises then estimate - point else point - estimate

/-- Whether two corrections are of one sense, neither of them 0 (R124). -/
def sameSense (a b : Int) : Bool := (decide (0 < a) && decide (0 < b)) || (decide (a < 0) && decide (b < 0))

/-- The upward motion of a pair that the lesser of two corrections of one sense gives (R124). -/
def pairMotion (a b : Int) : Int := if a.natAbs ≤ b.natAbs then a else b

/-- A skip's new target in a coupled re-level that moves the pair upward by `m` (R124). -/
def movedTarget (rising : Conveyance) (estimate : Int) (c : Conveyance) (m : Int) : Int :=
  if c = rising then estimate - m else estimate + m

/-- A missed rock cycle leg: re-levelled as a pair, or failed where no coupled motion can land both (R124), or where a record
holds no estimate (DESIGN CHOICE, log 59). The skip reported is the one outside its window, the rising one where both are. -/
def State.missPair (s : State) (t : Trip) (l : Leg) (r d : Examined) : State :=
  let missed := if s.lands r then d.conveyance else r.conveyance
  match (s.position r.conveyance).estimate, (s.position d.conveyance).estimate with
  | some er, some ed =>
    let a := correction true er r.target
    let b := correction false ed d.target
    if sameSense a b then
      let m := pairMotion a b
      let targets := l.motions.map (fun x =>
        { x with target := movedTarget r.conveyance (if x.conveyance = r.conveyance then er else ed) x.conveyance m })
      s.relevel .rock t l targets missed
    else s.failLanding .rock t missed
  | _, _ => s.failLanding .rock t missed

/-! ## The landing test (R119 to R124) -/

/-- The landing test of a leg and what follows from it. -/
def State.landingTest (s : State) (w : Winder) (t : Trip) (l : Leg) : State :=
  match s.examined t l with
  | [] => s
  | first :: rest =>
    let worst := s.widest first rest
    if 0 < s.excess worst then s.failLanding w t worst.conveyance
    else if (first :: rest).all s.lands then s.landLeg w t
    else
      match rest with
      | [] => s.relevel w t l l.motions first.conveyance
      | second :: _ => s.missPair t l first second

/-- Whether the settle timer of a winder has reached its expiry. -/
def State.settleDue (s : State) (w : Winder) : Bool := (s.pipe w).settle.any (fun x => reached s.now x.expiry)

/-- The settle wait run out: the timer is idle and the landing test is run (R116, R119). -/
def State.settleEnds (s : State) (w : Winder) : State :=
  let u := s.withPipe w (fun p => { p with settle := none })
  match (s.pipe w).active with
  | none => u
  | some t =>
    match t.leg with
    | none => u
    | some l => u.landingTest w t l

end Sys2Proof.Machine
end

