-- ==== Sys2Proof/Machine/Report.lean ====
section
/-! DEFINITION. What a position report and a marker pass do, in the order of R16 and log 13 (chapters 2 and 3). -/

namespace Sys2Proof.Machine

/-! ## Reading a report (R173) -/

/-- The clutch state of a report: read from the rock drive alone (R173). -/
def readClutch (w : Winder) (code : Nat) : Option (Option Clutch) :=
  match w with
  | .service => some none
  | .rock => (clutchCode code).map some

/-- A report body whose codes are all assigned, as the latest report of a winder (R16, R173). -/
def readReport (w : Winder) (now : Time) (b : ReportBody) : Option Report :=
  match driveStateCode b.driveState, brakeCode b.brakeState, readClutch w b.clutchState with
  | some d, some k, some c => some ⟨now, d, b.faultCode, k, c, b.first, b.second.getD b.first⟩
  | _, _, _ => none

/-! ## Metres travelled (R162) -/

/-- The metres counter and remainder of a conveyance after so many millimetres more. -/
def State.addMetres (s : State) (mm : Nat) (c : Conveyance) : State :=
  let total := s.remainders.get c + mm
  { s with
    metres := s.metres.set c (saturate (s.metres.get c + total / 1000))
    remainders := s.remainders.set c (total % 1000) }

/-- A drum's uncorrected drum depth at a report, kept and counted (R17, R162). -/
def State.takeDrum (s : State) (r : Report) (d : Drum) : State :=
  let depth := s.uncorrected d (r.reading d).count
  let moved := match s.metresFrom.get d with
    | none => 0
    | some old => (depth - old).natAbs
  let t := (hungFrom d).foldl (fun s c => s.addMetres moved c) s
  { t with drumDepth := t.drumDepth.set d (some depth), metresFrom := t.metresFrom.set d (some depth) }

/-! ## Records (R17 to R22) -/

/-- The depth that a report gives a conveyance (R17, R18). -/
def State.reportDepth (s : State) (r : Report) (c : Conveyance) : Int :=
  s.depthOf c (s.uncorrected (drumOf c) (r.reading (drumOf c)).count)

/-- A conveyance's record brought up to date by a report, Lost where R21 says so. -/
def State.takeRecord (s : State) (r : Report) (c : Conveyance) : State :=
  let depth := s.reportDepth r c
  s.withPosition c (fun p =>
    let q := p.takeReport s.work.tracking depth (conveyanceSpeed c (r.reading (drumOf c)).speed)
    if q.becomesLost s.work.tracking depth then { q with state := .lost } else q)

/-- A conveyance whose record was not Lost before and is now raises POSITION LOST (R21). -/
def State.raiseLost (s : State) (before : State) (w : Winder) (c : Conveyance) : State :=
  if (s.position c).state == .lost && (before.position c).state != .lost then
    s.deliver ⟨.positionLost, .trip, w, some c, none, none, none⟩
  else s

/-! ## The unpermitted motion check (R29, R30) -/

/-- The conveyances that the motion check tests: one for the shared drum of the service winder, each skip (R29). -/
def motionTested : Winder → List Conveyance
  | .service => [.cage]
  | .rock => [.skip0, .skip1]

/-- Whether an armed conveyance is found moving, from its record and its drum's depth (R29). -/
def Position.foundMoving (p : Position) (t : Tracking) (drum : Option Int) : Bool :=
  !p.rest ||
  match p.motionRef, drum with
  | some r, some d => decide (t.unpermitted < (d - r).natAbs)
  | none, _ | some _, none => false

/-- An armed conveyance tested; a fault disarms the winder's check (R29). -/
def State.testMotion (s : State) (w : Winder) (c : Conveyance) : State :=
  if (s.position c).armed && (s.position c).foundMoving s.work.tracking (s.drumDepth.get (drumOf c)) then
    (s.disarmWinder w).deliver ⟨.unpermittedMotion, .trip, w, some c, none, none, none⟩
  else s

/-- An absent motion reference of an armed conveyance taken from this report (R29). -/
def State.firstReference (s : State) (c : Conveyance) : State :=
  if (s.position c).armed && (s.position c).motionRef.isNone then s.armMotion c else s

/-- Whether every record of a winder has its rest flag set (R15). -/
def State.atRest (s : State) (w : Winder) : Bool := (conveyancesOf w).all (fun c => (s.position c).rest)

/-- A check not armed armed by a report at rest taken in TRIPPED or LOCKOUT (R30). -/
def State.armAtRest (s : State) (st : WinderState) (w : Winder) (c : Conveyance) : State :=
  if st.demandsBrake && s.atRest w && !(s.position c).armed then s.armMotion c else s

/-- The motion check of a report taken with its winder in a state: each conveyance whose check was armed is tested, then
references are taken where R29 and R30 have this report give them. -/
def State.motionCheck (s : State) (st : WinderState) (w : Winder) : State :=
  let tested := (motionTested w).filter (fun c => (s.position c).armed)
  let t := (s.armAtRest st w (firstConveyance w)).armAtRest st w (secondConveyance w)
  let t := (t.firstReference (firstConveyance w)).firstReference (secondConveyance w)
  tested.foldl (fun s c => s.testMotion w c) t

/-! ## The pair check (R31, R32) -/

/-- The sum of the skip estimates less the span of the pairing, where both skips have one (R31). -/
def State.pairDifference (s : State) (p : Pocket) : Option Int :=
  match (s.position .skip0).estimate, (s.position .skip1).estimate with
  | some a, some b => some (a + b - s.pairSpan p)
  | _, _ => none

/-- PAIR DISAGREEMENT of a severity (R31, R32, R153). -/
def pairReport (severity : Severity) (d : Int) : FaultReport :=
  ⟨.pairDisagreement, severity, .rock, none, none, none, some d⟩

/-- The ordinary pair check against a difference (R31). -/
def State.ordinaryPairCheck (s : State) (d : Int) : State :=
  if s.work.tracking.pair < d.natAbs then
    if s.pairBeyond then s
    else { s with pairBeyond := true }.deliver (pairReport .trip d)
  else { s with pairBeyond := false }

/-- The start-up pair check against a difference (R32, R142). -/
def State.startUpPairCheck (s : State) (d : Int) : State :=
  if s.work.tracking.pair < d.natAbs then (s.deliver (pairReport .note d)).unpair else s

/-- The pair check of a rock report by its clutch state; the first Closed report makes the start-up check or none at
all (R31, R32, log 25). -/
def State.pairCheck (s : State) (c : Option Clutch) : State :=
  if c = some .closed then
    let t := { s with startupCheck := false }
    match s.pairing.pocket.bind s.pairDifference with
    | none => t
    | some d => if s.startupCheck then t.startUpPairCheck d else t.ordinaryPairCheck d
  else s

/-! ## Entry faults (R50, R51) -/

/-- The fault of a zone of a kind entered, or in which motion begins, by the rest flag and mode; WORK at a join asks for
motion, which at a beginning is given (R50, R51). -/
def entryFault (kind : ZoneKind) (moving inspection : Bool) : Option FaultKind :=
  match kind with
  | .overwind => some .overwind
  | .work => if moving then some .workZoneEntry else none
  | .inspect => if inspection then none else some .inspectZoneEntry
  | .slow | .passing => none

/-- The faults that a conveyance's rebuild raises, ascending in zone number, from its record before the event and the
state after both rebuilds; `begins` says that R51 applies (R50, R51). -/
def State.entryFaults (s : State) (w : Winder) (c : Conveyance) (before : Position) (begins : Bool) :
    List FaultReport :=
  let p := s.position c
  if p.state == .lost || before.estimate.isNone then []
  else
    s.zones.filterMap (fun e =>
      let joins := !before.zoneSet.contains e.1
      if p.zoneSet.contains e.1 && !p.suppressed.contains e.1 && (joins || begins) then
        (entryFault e.2.kind (!p.rest) ((s.winder w).mode == .inspection)).map
          (fun k => ⟨k, .trip, w, some c, none, some e.1, none⟩)
      else none)

/-- Faults delivered in order. -/
def State.deliverAll (s : State) (l : List FaultReport) : State := l.foldl State.deliver s

/-- Whether a conveyance has begun to move at a report (R51). -/
def begins (before after : Position) : Bool := before.rest && !after.rest

/-- The rebuild of both conveyances of a winder at a report, with its entry faults (R38, R50, R51). -/
def State.rebuildAtReport (s : State) (before : State) (w : Winder) : State :=
  let a := firstConveyance w
  let b := secondConveyance w
  let t := (s.rebuildSet a).rebuildSet b
  t.deliverAll
    (t.entryFaults w a (before.position a) (begins (before.position a) (t.position a)) ++
      t.entryFaults w b (before.position b) (begins (before.position b) (t.position b)))

/-! ## The Winder Controller at a report (R102, R112) -/

/-- DRIVE FAULT delivered with a code and the latch set (R112). -/
def State.raiseDriveFault (s : State) (w : Winder) (code : Nat) : State :=
  (s.withWinder w (fun r => { r with driveFaultLatch := true })).deliver
    ⟨.driveFault, .trip, w, none, none, none, some code⟩

/-- The drive state of a report (R112). -/
def State.takeDriveState (s : State) (w : Winder) (r : Report) : State :=
  match r.drive with
  | .fault => if (s.winder w).driveFaultLatch then s else s.raiseDriveFault w r.faultCode
  | .ready | .notReady => s.withWinder w (fun x => { x with driveFaultLatch := false })

/-- The stop that a report at rest ends, taken with its winder in a state (R102). -/
def State.stopAtRest (s : State) (st : WinderState) (w : Winder) : State :=
  if st == .stopping && s.isIn w .stopping && s.atRest w then s.endStop w else s

/-- The Rock Coordinator at a report: it takes a rock report's clutch state. -/
def State.clutchAtReport (s : State) (c : Option Clutch) : State :=
  match c with
  | none => s
  | some c => s.takeClutch c

/-! ## The report (R15, R16) -/

/-- The report stored as the latest; the silent condition is cleared (R16, R111). -/
def State.storeReport (s : State) (w : Winder) (r : Report) : State :=
  { s with reports := s.reports.set w (some r) }.withWinder w (fun x => { x with silent := .clear, reportInState := true })

/-- The records of a winder brought up to date, POSITION LOST included (R16, R21). -/
def State.updateRecords (s : State) (w : Winder) (r : Report) : State :=
  let t := (drumsOf w).foldl (fun s d => s.takeDrum r d) s
  let t := (t.takeRecord r (firstConveyance w)).takeRecord r (secondConveyance w)
  (t.raiseLost s w (firstConveyance w)).raiseLost s w (secondConveyance w)

/-- The results of a report handed on: zone sets and entry faults, cap and comparison, restricted touch, the end of a
stop, the clutch, the drive state, and the rock readiness (R15, R38, R113, R133; log 13). -/
def State.handReport (s : State) (before : State) (w : Winder) (r : Report) : State :=
  let st := (before.winder w).state
  let t := ((s.rebuildAtReport before w).handAndCompare w).handTouch w
  let t := ((t.stopAtRest st w).clutchAtReport r.clutch).takeDriveState w r
  t.readyStaged w

/-- A position report taken (R16; log 13). -/
def State.takeReport (s : State) (w : Winder) (r : Report) : State :=
  let t := ((s.storeReport w r).updateRecords w r).motionCheck (s.winder w).state w
  ((t.pairCheck r.clutch).handReport s w r).settle w

/-! ## Marker passes (R25, R26) -/

/-- The pass estimate: the estimate at the latest report, moved on at that report's speed for the time since (R25). -/
def State.passEstimate (s : State) (c : Conveyance) : Option Int :=
  match (s.position c).reportEstimate, s.reports.get (ownerOf c) with
  | some e, some r => some (e + roundDiv ((s.position c).speed * (elapsed r.at_ s.now : Int)) 1000)
  | _, _ => none

/-- A record after an applied pass of a marker with a disagreement (R25). -/
def Position.passed (p : Position) (m : Marker) (d : Int) : Position :=
  { p with
    correction := p.correction + d
    estimate := some m.depth
    base := m.accuracy
    band := m.accuracy
    travel := 0
    lastMarker := some m.id
    state := .valid }

/-- MARKER DISAGREEMENT above the trip or the warn limit (R25). -/
def State.raiseDisagreement (s : State) (c : Conveyance) (d : Int) : State :=
  let report (sev : Severity) : FaultReport := ⟨.markerDisagreement, sev, ownerOf c, some c, none, none, some d⟩
  if s.work.tracking.trip < d.natAbs then s.deliver (report .trip)
  else if s.work.tracking.warn < d.natAbs then s.deliver (report .note)
  else s

/-- An applied marker pass: the record, the disagreement, the rebuild with its entry faults, and the readiness
(R25, R38, R50, R133). -/
def State.applyPass (s : State) (c : Conveyance) (m : Marker) (d : Int) : State :=
  let w := ownerOf c
  let before := s.position c
  let t := (s.withPosition c (fun p => p.passed m d)).raiseDisagreement c d
  let t := t.rebuildSet c
  let t := (t.deliverAll (t.entryFaults w c before false)).handOn w
  (t.readyStaged w).settle w

/-- UNKNOWN MARKER (R26, R153). -/
def State.raiseUnknownMarker (s : State) (c : Conveyance) (code : Nat) : State :=
  s.deliver ⟨.unknownMarker, .note, ownerOf c, some c, none, none, some code⟩

/-- A marker pass taken (R25, R26). -/
def State.takePass (s : State) (c : Conveyance) (code : Nat) : State :=
  let t := { s with lastPass := s.lastPass.set c (some s.now) }
  match t.work.markers.find? (fun m => m.id == code && m.compartment == c) with
  | none => t.raiseUnknownMarker c code
  | some m =>
    match (t.position c).state, t.passEstimate c with
    | .lost, _ => t
    | .cold, some e | .valid, some e => t.applyPass c m (m.depth - e)
    | .cold, none | .valid, none => t

/-! ## The drive report timeout (R111) -/

/-- The allowance between reports of a winder (R111). -/
def State.allowance (s : State) (w : Winder) : Nat := if s.inMotion w then s.work.reportInterval.get w else 1000

/-- The time since the latest report, or since power-on before the first; in a motion state since its entry where that
is later (R111). -/
def State.quiet (s : State) (w : Winder) : Nat :=
  let since := elapsed (((s.reports.get w).map (·.at_)).getD 0) s.now
  if s.inMotion w then min since (elapsed (s.winder w).enteredAt s.now) else since

/-- Whether DRIVE SILENT is still to be raised for the silence at hand: a Note that stands does not cover a silence
counted from the entry to a motion state (R111, log 33). -/
def State.silenceUnraised (s : State) (w : Winder) : Bool :=
  match (s.winder w).silent with
  | .clear => true
  | .noteStanding => s.inMotion w
  | .tripRaised => false

/-- Whether the drive report timeout has run out (R111). -/
def State.silentDue (s : State) (w : Winder) : Bool := s.silenceUnraised w && decide (s.allowance w ≤ s.quiet w)

/-- The drive report timeout run out: a Trip in the motion states, a Note in every other (R111, R153). -/
def State.raiseSilent (s : State) (w : Winder) : State :=
  let detail := (s.reports.get w).map (fun r => (r.at_.toNat : Int))
  if s.inMotion w then
    (s.withWinder w (fun r => { r with silent := .tripRaised })).deliver ⟨.driveSilent, .trip, w, none, none, none, detail⟩
  else
    (s.withWinder w (fun r => { r with silent := .noteStanding })).deliver ⟨.driveSilent, .note, w, none, none, none, detail⟩

end Sys2Proof.Machine
end

