-- ==== Sys2Proof/Machine/DriveCommands.lean ====
section
/-! DEFINITION. The commands of the drives and of the timers that watch a motion: POSITION REPORT, LEG COMPLETE, DRIVE FAULT, the settle wait, the drive report timeout, the clutch timer (R16, R111, R112, R116 to R118, R141). -/

namespace Sys2Proof.Machine

/-! ## POSITION REPORT (R16, R173) -/

/-- The body length that POSITION REPORT permits on a link (R167). -/
def reportLength (l : Link) : Nat := if l = .rockDrive then 20 else 12

/-- The report that a body carries on a link, where all its codes are assigned (R173). -/
def reportOn (s : State) (l : Link) (b : ReportBody) : Option (Winder × Report) :=
  (driveWinder l).bind (fun w => (readReport w s.now b).map (fun r => (w, r)))

/-- The reply to a POSITION REPORT (R173). -/
def reportAnswer (l : Link) (b : ReportBody) (s : State) : Code × Answer :=
  if (reportOn s l b).isSome then done else refuse .outOfRange

/-- POSITION REPORT taken by the Position Tracker (R16). -/
def takePositionReport (l : Link) (b : ReportBody) (s : State) : State :=
  match reportOn s l b with
  | some (w, r) => s.takeReport w r
  | none => s

/-- POSITION_REPORT (R16, R173). -/
def execPositionReport (h : Head) (body : ReportBody) (s : State) : Host.Outcome State Fault Refusal :=
  .next (driveRequest s h .positionReport (reportLength h.link) (reportAnswer h.link body)
    (takePositionReport h.link body))

/-- DRIVE_REPORT_TIMEOUT (R111; log 2). -/
def execDriveReportTimeout (w : Winder) (s : State) : Host.Outcome State Fault Refusal :=
  let t := s.begin
  .next (if t.silentDue w then t.raiseSilent w else t)

/-! ## LEG COMPLETE (R117) -/

/-- Whether a leg index names a trip's current leg and that leg is Moving. -/
def Trip.isMoving (t : Trip) (leg : Nat) : Bool := t.current == leg && t.leg.any (fun l => l.state == .moving)

/-- The reply to a LEG COMPLETE, by the table of R117. -/
def State.legAnswer (s : State) (w : Winder) (trip leg : Nat) : Code × Answer :=
  match (s.pipe w).active.filter (fun t => t.number == trip) with
  | none => refuse .noSuchTrip
  | some t => if t.isMoving leg then done else refuse .wrongLeg

/-- The end of a leg in motion (R94, R102, R117). -/
def State.legEnds (s : State) (w : Winder) (t : Trip) (l : Leg) : State :=
  if s.isIn w .stopping then s
  else if t.kind = .inspection then s.endAndPark w .completed
  else s.beginSettling w t l

/-- LEG COMPLETE taken by the Trip Pipeline (R117). -/
def State.takeLegComplete (s : State) (w : Winder) (trip leg : Nat) : State :=
  match (s.pipe w).active.filter (fun t => t.number == trip && t.isMoving leg) with
  | none => s
  | some t =>
    match t.leg with
    | none => s
    | some l => (s.legEnds w t l).settle w

/-- LEG_COMPLETE (R117). -/
def execLegComplete (h : Head) (trip leg : Nat) (s : State) : Host.Outcome State Fault Refusal :=
  match driveWinder h.link with
  | some w =>
    .next (driveRequest s h .legComplete 3 (fun t => t.legAnswer w trip leg) (fun t => t.takeLegComplete w trip leg))
  | none => .next (driveRequest s h .legComplete 3 (fun _ => done) id)

/-! ## DRIVE FAULT (R112) -/

/-- DRIVE_FAULT (R112). -/
def execDriveFault (h : Head) (code : Nat) (s : State) : Host.Outcome State Fault Refusal :=
  match driveWinder h.link with
  | some w => .next (driveRequest s h .driveFault 1 (fun _ => done) (fun t => t.raiseDriveFault w code))
  | none => .next (driveRequest s h .driveFault 1 (fun _ => done) id)

/-! ## The settle wait (R116, R118) -/

/-- SETTLE_EXPIRY (R118, R119; log 2). -/
def execSettleExpiry (w : Winder) (s : State) : Host.Outcome State Fault Refusal :=
  let t := s.begin
  .next (if t.settleDue w then (t.settleEnds w).settle w else t)

/-- WRITE SETTLE taken by the Trip Pipeline (R116). -/
def takeWriteSettle (base cap : Nat) (w : Winder) (s : State) : State × (Code × Answer) :=
  s.tested [(!s.isIn w .parked, .notParked), (!between 500 5000 base || !between 0 3 cap, .outOfRange)]
    (fun s => ({ s with work := { s.work with settle := s.work.settle.set w ⟨base, cap⟩ } }, done))

/-- WRITE_SETTLE (R116). -/
def execWriteSettle (h : Head) (winder base cap : Nat) (s : State) : Host.Outcome State Fault Refusal :=
  .next (winderRequest s h .writeSettle 4 winder (takeWriteSettle base cap))

/-- READ_SETTLE (R116). -/
def execReadSettle (h : Head) (winder : Nat) (s : State) : Host.Outcome State Fault Refusal :=
  .next (winderRequest s h .readSettle 1 winder (fun w t => (t, doneWith (.settle (t.work.settle.get w)))))

/-! ## The clutch timer (R141) -/

/-- Whether the clutch timer has reached its expiry. -/
def State.clutchDue (s : State) : Bool := s.clutchTimer.any (reached s.now)

/-- CLUTCH_TIMER_EXPIRY (R141; log 2). -/
def execClutchTimerExpiry (s : State) : Host.Outcome State Fault Refusal :=
  let t := s.begin
  .next (if t.clutchDue then { t with clutchTimer := none }.clutchFault else t)

end Sys2Proof.Machine
end

