-- ==== Sys2Proof/Machine/GeometryCommands.lean ====
section
/-! DEFINITION. The commands of the shaft's geometry, stations, rock points and classes (R4, R5, R7, R8, R10, R12). -/

namespace Sys2Proof.Machine

/-- The state with its working configuration changed. -/
def State.withWork (s : State) (f : Settings → Settings) : State := { s with work := f s.work }

/-! ## WRITE GEOMETRY (R4, R5) -/

/-- The tests of WRITE GEOMETRY, to which R4 and R5 give no order (DESIGN CHOICE, log 23). -/
def State.geometryTests (s : State) (pitch span : Option Nat) : List (Bool × Reason) :=
  [(span.isSome && !s.commissioning, .notCommissioning),
   (!s.isIn .service .parked, .notParked),
   (pitch.isNone && span.isNone, .outOfRange),
   (!pitch.all (between 3000 6000) || !span.all (between 2000000 3200000), .outOfRange)]

/-- A span write puts the counterweight's record into Cold, and its zone set is rebuilt (R5, R38). -/
def State.chillCounterweight (s : State) : State :=
  ((s.makeCold .counterweight).rebuildSet .counterweight).handOn .service

/-- WRITE GEOMETRY taken (R4, R5). -/
def takeWriteGeometry (pitch span : Option Nat) (s : State) : State × (Code × Answer) :=
  s.tested (s.geometryTests pitch span) (fun s =>
    let t := s.withWork (fun c => { c with pitch := pitch.getD c.pitch, span := span.getD c.span })
    (if span.isSome then t.chillCounterweight else t, done))

/-- WRITE_GEOMETRY (R4, R5). -/
def execWriteGeometry (h : Head) (pitch span : Presence Nat) (s : State) : Host.Outcome State Fault Refusal :=
  .next (request s h .writeGeometry (optionalSize 2 pitch + optionalSize 4 span) none
    (withRead pitch (fun p => withRead span (fun q => takeWriteGeometry p q))))

/-- READ_GEOMETRY (R4). -/
def execReadGeometry (h : Head) (s : State) : Host.Outcome State Fault Refusal :=
  .next (readRequest s h .readGeometry 0 none (fun t => doneWith (.geometry t.work.pitch t.work.span)))

/-! ## WRITE STATION (R7, R8) -/

/-- The landing depth that a station may have: 0 for S0, from 0 to 3,200,000 or absent for another (R7). -/
def landingOk (st : Fin 16) (depth : Option Int) : Bool :=
  if st = 0 then depth == some 0 else depth.all (fun d => decide (0 ≤ d ∧ d ≤ 3200000))

/-- A station entry whose fields are all in range (R8). -/
def readStation (st : Fin 16) (depth : Option Int) (window decks inService : Nat) : Option Station :=
  match deckSetCode decks, flagCode inService with
  | some ds, some flag =>
    if landingOk st depth && between 10 150 window && decide (0 < decks) then some ⟨depth, window, ds, flag⟩ else none
  | _, _ => none

/-- The tests of WRITE STATION for an entry read from the request; R8 gives them no order (DESIGN CHOICE, log 23). -/
def State.stationTests (s : State) (st : Fin 16) (entry : Option Station) : List (Bool × Reason) :=
  [(!s.isIn .service .parked, .notParked),
   ((s.queues.get .service).any (fun c => c.work.names st), .stationInUse),
   (entry.isNone, .outOfRange),
   (entry.any (fun e => e.inService && e.depth.isNone), .noLandingDepth)]

/-- A station entry written. -/
def State.putStation (s : State) (st : Fin 16) (entry : Option Station) : State :=
  match entry with
  | some e => s.withWork (fun c => { c with stations := c.stations.set st e })
  | none => s

/-- WRITE STATION taken (R8). -/
def takeWriteStation (station : Nat) (depth : Option Int) (window decks inService : Nat) (s : State) :
    State × (Code × Answer) :=
  match stationCode station with
  | none => (s, refuse .outOfRange)
  | some st =>
    let entry := readStation st depth window decks inService
    s.tested (s.stationTests st entry) (fun s => (s.putStation st entry, done))

/-- WRITE_STATION (R8). -/
def execWriteStation (h : Head) (station : Nat) (depth : Presence Int) (window decks inService : Nat) (s : State) :
    Host.Outcome State Fault Refusal :=
  .next (request s h .writeStation (4 + optionalSize 4 depth) none
    (withRead depth (fun d => takeWriteStation station d window decks inService)))

/-- READ_STATION (R7). -/
def execReadStation (h : Head) (station : Nat) (s : State) : Host.Outcome State Fault Refusal :=
  .next (readRequest s h .readStation 1 none (fun t =>
    match stationCode station with
    | none => refuse .outOfRange
    | some st => doneWith (.station (t.stationAt st))))

/-! ## WRITE ROCK POINT (R10) -/

/-- The rock point table with a depth, a window or both written. -/
def RockPoints.write (p : RockPoints) (r : RockPoint) (depth : Option Int) (window : Option Nat) : RockPoints :=
  let e := p.get r
  p.set r ⟨depth.getD e.depth, window.getD e.window⟩

/-- TIP above both pockets, and the pockets apart (R10). -/
def RockPoints.ordered (p : RockPoints) : Bool :=
  decide (p.tip.depth < p.pocketA.depth) && decide (p.tip.depth < p.pocketB.depth) && p.pocketA.depth != p.pocketB.depth

/-- The tests of WRITE ROCK POINT, to which R10 gives no order (DESIGN CHOICE, log 23). -/
def State.rockPointTests (s : State) (r : RockPoint) (depth : Option Int) (window : Option Nat) : List (Bool × Reason) :=
  [(!s.isIn .rock .parked, .notParked),
   (depth.isSome && !s.commissioning, .notCommissioning),
   (depth.isNone && window.isNone, .outOfRange),
   (!depth.all depthInRange || !window.all (between 10 250), .outOfRange),
   (!(s.work.rockPoints.write r depth window).ordered, .outOfRange)]

/-- The span of the current pairing, where there is one. -/
def State.currentSpan (s : State) : Option Int := s.pairing.pocket.map s.pairSpan

/-- A rock point written; a change of the current pairing's span unpairs the skips (R10, R135). -/
def State.writePoint (s : State) (r : RockPoint) (depth : Option Int) (window : Option Nat) : State :=
  let t := s.withWork (fun c => { c with rockPoints := c.rockPoints.write r depth window })
  if t.currentSpan = s.currentSpan then t else t.unpair

/-- WRITE ROCK POINT taken (R10). -/
def takeWriteRockPoint (point : Nat) (depth : Option Int) (window : Option Nat) (s : State) : State × (Code × Answer) :=
  match rockPointCode point with
  | none => (s, refuse .outOfRange)
  | some r => s.tested (s.rockPointTests r depth window) (fun s => (s.writePoint r depth window, done))

/-- WRITE_ROCK_POINT (R10). -/
def execWriteRockPoint (h : Head) (point : Nat) (depth : Presence Int) (window : Presence Nat) (s : State) :
    Host.Outcome State Fault Refusal :=
  .next (request s h .writeRockPoint (1 + optionalSize 4 depth + optionalSize 1 window) none
    (withRead depth (fun d => withRead window (fun w => takeWriteRockPoint point d w))))

/-- READ_ROCK_POINT (R10). -/
def execReadRockPoint (h : Head) (point : Nat) (s : State) : Host.Outcome State Fault Refusal :=
  .next (readRequest s h .readRockPoint 1 none (fun t =>
    match rockPointCode point with
    | none => refuse .outOfRange
    | some r => doneWith (.rockPoint (t.work.rockPoints.get r))))

/-! ## WRITE CLASS (R12) -/

/-- The winders that can use a class (R12). -/
def classWinders : Class → List Winder
  | .men | .material => [.service]
  | .rock | .rePair => [.rock]
  | .inspection | .creep => [.service, .rock]

/-- Whether the settings of a class are each in range (R12). -/
def classInRange (c : ClassSettings) : Bool :=
  between 100 18000 c.maxSpeed && between 250 1500 c.decel && between 60 7200 c.limit

/-- Whether the Creep maximum speed exceeds that of no other class (R12). -/
def PerClass.creepLeast (p : PerClass) : Bool :=
  [p.men, p.material, p.rock, p.inspection, p.rePair].all (fun c => decide (p.creep.maxSpeed ≤ c.maxSpeed))

/-- The tests of WRITE CLASS, to which R12 gives no order (DESIGN CHOICE, log 23). -/
def State.classTests (s : State) (c : Class) (e : ClassSettings) : List (Bool × Reason) :=
  [(!classInRange e || !(s.work.classes.set c e).creepLeast, .outOfRange),
   (!(classWinders c).all (fun w => s.isIn w .parked), .notParked)]

/-- WRITE CLASS taken; the caps are recomputed (R12, R49). -/
def takeWriteClass (cls : Nat) (e : ClassSettings) (s : State) : State × (Code × Answer) :=
  match classCode cls with
  | none => (s, refuse .outOfRange)
  | some c =>
    s.tested (s.classTests c e) (fun s =>
      let t := s.withWork (fun k => { k with classes := k.classes.set c e })
      ((t.handAndCompare .service).handAndCompare .rock, done))

/-- WRITE_CLASS (R12). -/
def execWriteClass (h : Head) (cls speed decel limit : Nat) (s : State) : Host.Outcome State Fault Refusal :=
  .next (request s h .writeClass 7 none (takeWriteClass cls ⟨speed, decel, limit⟩))

/-- READ_CLASS (R12). -/
def execReadClass (h : Head) (cls : Nat) (s : State) : Host.Outcome State Fault Refusal :=
  .next (readRequest s h .readClass 1 none (fun t =>
    match classCode cls with
    | none => refuse .outOfRange
    | some c => doneWith (.cls (t.classOf c))))

end Sys2Proof.Machine
end

