-- ==== Sys2Proof/Machine/EnvelopeCommands.lean ====
section
/-! DEFINITION. The commands of the Envelope Monitors (R143, R146, R148 to R151). -/

namespace Sys2Proof.Machine

/-! ## READ ENVELOPE and CLEAR INDICATIONS (R143, R148) -/

/-- The answer of READ ENVELOPE: every field, and the time left on the under timer (R143). -/
def State.envelopeAnswer (s : State) (w : Winder) : Answer :=
  .envelope (s.work.envelope.get w) (s.monitor w) ((s.monitor w).underTimer.map (fun e => elapsed s.now e))

/-- READ_ENVELOPE (R143). -/
def execReadEnvelope (h : Head) (winder : Nat) (s : State) : Host.Outcome State Fault Refusal :=
  .next (winderRequest s h .readEnvelope 1 winder (fun w t => (t, doneWith (t.envelopeAnswer w))))

/-- Each indication whose condition is clear cleared, OVER handed on (R148, R149). -/
def State.clearIndications (s : State) (w : Winder) : State :=
  let m := s.monitor w
  let t := s.withMonitor w (fun m => { m with underIndication := m.underIndication && m.underCondition })
  if m.overCondition then t else t.clearOver w

/-- CLEAR INDICATIONS taken by the Envelope Monitor; the reply lists the indications still set (R148). -/
def takeClearIndications (w : Winder) (s : State) : State × (Code × Answer) :=
  let t := s.clearIndications w
  (t, doneWith (.indications (t.monitor w).overIndication (t.monitor w).underIndication))

/-- CLEAR_INDICATIONS (R148). -/
def execClearIndications (h : Head) (winder : Nat) (s : State) : Host.Outcome State Fault Refusal :=
  .next (winderRequest s h .clearIndications 1 winder takeClearIndications)

/-! ## WRITE ENVELOPE (R149) -/

/-- Envelope settings whose values are all in range (R149). -/
def readEnvelope (hysteresis mode under margin : Nat) : Option EnvelopeSettings :=
  (indicationModeCode mode).bind (fun m =>
    if [0, 100, 250, 500].contains hysteresis && between 10 50 under && between 5 15 margin then
      some ⟨hysteresis, m, under, margin⟩
    else none)

/-- The tests of WRITE ENVELOPE for settings in range (R149). -/
def State.envelopeTests (s : State) (w : Winder) (e : EnvelopeSettings) : List (Bool × Reason) :=
  let old := s.work.envelope.get w
  let m := s.monitor w
  [(!s.isIn w .parked, .notParked),
   ((m.envelopeLock && e != old) || (m.tripLock && e.margin != old.margin), .locked),
   (m.running && (e.hysteresis != old.hysteresis || e.under != old.under), .monitorRunning)]

/-- The settings written; a change from Latched to Follow clears at once every indication whose condition is clear
(R149). -/
def State.writeEnvelope (s : State) (w : Winder) (e : EnvelopeSettings) : State :=
  let t := s.withWork (fun c => { c with envelope := c.envelope.set w e })
  match (s.work.envelope.get w).mode, e.mode with
  | .latched, .follow => t.clearIndications w
  | .latched, .latched | .follow, .follow | .follow, .latched => t

/-- WRITE ENVELOPE taken by the Envelope Monitor (R149). -/
def takeWriteEnvelope (hysteresis mode under margin : Nat) (w : Winder) (s : State) : State × (Code × Answer) :=
  match readEnvelope hysteresis mode under margin with
  | none => (s, refuse .outOfRange)
  | some e => s.tested (s.envelopeTests w e) (fun s => (s.writeEnvelope w e, done))

/-- WRITE_ENVELOPE (R149). -/
def execWriteEnvelope (h : Head) (winder hysteresis mode under margin : Nat) (s : State) :
    Host.Outcome State Fault Refusal :=
  .next (winderRequest s h .writeEnvelope 6 winder (takeWriteEnvelope hysteresis mode under margin))

/-! ## The locks and the monitor (R150, R151) -/

/-- SET_ENVELOPE_LOCK (R150). -/
def execSetEnvelopeLock (h : Head) (winder : Nat) (s : State) : Host.Outcome State Fault Refusal :=
  .next (winderRequest s h .setEnvelopeLock 1 winder
    (fun w t => (t.withMonitor w (fun m => { m with envelopeLock := true }), done)))

/-- SET TRIP LOCK taken by the Envelope Monitor (R150), refused on a stopped monitor before the case of a lock already set
(DESIGN CHOICE, log 62). -/
def takeSetTripLock (w : Winder) (s : State) : State × (Code × Answer) :=
  s.tested [(!(s.monitor w).running, .monitorStopped)]
    (fun s => (s.withMonitor w (fun m => { m with tripLock := true }), done))

/-- SET_TRIP_LOCK (R150). -/
def execSetTripLock (h : Head) (winder : Nat) (s : State) : Host.Outcome State Fault Refusal :=
  .next (winderRequest s h .setTripLock 1 winder takeSetTripLock)

/-- A monitor stopped: conditions and indications clear, the timer idle, critical raised clear; the settings, locks and
last comparison stand (R151). -/
def Monitor.stop (m : Monitor) : Monitor :=
  { m with
    running := false
    overCondition := false
    underCondition := false
    underIndication := false
    underTimer := none
    critical := false }

/-- STOP MONITOR taken by the Envelope Monitor; a cleared OVER is handed on, and PARKED sends nothing (R151). Its refusals
are tested before the case of a monitor already stopped, which R151 also answers Done (DESIGN CHOICE, log 62). -/
def takeStopMonitor (w : Winder) (s : State) : State × (Code × Answer) :=
  s.tested [(!s.isIn w .parked, .notParked), ((s.monitor w).tripLock, .locked)]
    (fun s => (if (s.monitor w).running then (s.withMonitor w Monitor.stop).clearOver w else s, done))

/-- STOP_MONITOR (R151). -/
def execStopMonitor (h : Head) (winder : Nat) (s : State) : Host.Outcome State Fault Refusal :=
  .next (winderRequest s h .stopMonitor 1 winder takeStopMonitor)

/-- START MONITOR taken by the Envelope Monitor (R151). -/
def takeStartMonitor (w : Winder) (s : State) : State × (Code × Answer) :=
  ((s.withMonitor w (fun m => { m with running := true })).settle w, done)

/-- START_MONITOR (R151). -/
def execStartMonitor (h : Head) (winder : Nat) (s : State) : Host.Outcome State Fault Refusal :=
  .next (winderRequest s h .startMonitor 1 winder takeStartMonitor)

/-! ## The under timer (R146) -/

/-- Whether the under timer has reached its expiry. -/
def State.underDue (s : State) (w : Winder) : Bool := (s.monitor w).underTimer.any (reached s.now)

/-- The under timer run out: the indication is set and UNDER delivered; the timer is idle, the condition stays
(R146, R147). -/
def State.raiseUnder (s : State) (w : Winder) : State :=
  let t := s.withMonitor w (fun m => { m with underIndication := true, underTimer := none })
  t.deliver (t.leadingReport w .underFault .note)

/-- UNDER_TIMER_EXPIRY (R146; log 2). -/
def execUnderTimerExpiry (w : Winder) (s : State) : Host.Outcome State Fault Refusal :=
  let t := s.begin
  .next (if t.underDue w then t.raiseUnder w else t)

end Sys2Proof.Machine
end

