-- ==== Sys2Proof/Machine/Frames.lean ====
section
/-! DEFINITION. The commands of frames that are no request of the catalogue: stray replies, unlisted kinds, and the drives' replies and their timeouts (R166, R167, R170, R84 to R86, R114, R138). -/

namespace Sys2Proof.Machine

/-- STRAY_REPLY_FRAME: discarded, with no reply (R166). -/
def execStrayReplyFrame (link : Link) (_kind _tag : Nat) (s : State) : Host.Outcome State Fault Refusal :=
  .next (s.begin.frameArrives link)

/-- UNLISTED_KIND_REQUEST: a request all the same, refused "Not for this link" by the screen (R68, R166, R167, R171). -/
def execUnlistedKindRequest (link : Link) (kind tag : Nat) (s : State) : Host.Outcome State Fault Refusal :=
  let flag := abandons s link false
  .next ((((s.begin.frameArrives link).abandonIf flag).dropSnapshot link).reply ⟨link, tag, 0⟩ kind flag
    (refuse .notForThisLink))

/-! ## Replies to GRANT -/

/-- A reply to a GRANT handed to the Trip Pipeline: that of the offer awaited is an acceptance or a refusal, and any other
is late (R84, R85, R86). -/
def State.takeGrantReply (s : State) (w : Winder) (tag code : Nat) : State :=
  if s.isAwaited w .grant tag then
    let t := s.dropAwaited w .grant tag
    if t.offerAwaits w tag then (if code = 1 then t.acceptOffer w else t.refuseOffer w) else t.lateReply w tag code
  else s.lateReply w tag code

/-- GRANT_REPLY (R84, R85, R86, R170). -/
def execGrantReply (w : Winder) (tag code : Nat) (s : State) : Host.Outcome State Fault Refusal :=
  .next (((s.begin.frameArrives (driveLink w)).takeGrantReply w tag code).settle w)

/-- The expiry of an awaited GRANT: a refusal where it is that of the offer in progress (R85, R170). -/
def State.grantExpires (s : State) (w : Winder) (tag : Nat) : State :=
  if s.awaitedExpired w .grant tag then
    let t := s.dropAwaited w .grant tag
    if t.offerAwaits w tag then t.refuseOffer w else t
  else s

/-- GRANT_REPLY_TIMEOUT (R85, R170). -/
def execGrantReplyTimeout (w : Winder) (tag : Nat) (s : State) : Host.Outcome State Fault Refusal :=
  .next ((s.begin.grantExpires w tag).settle w)

/-- Whether the back-off of an offer has ended. -/
def State.backoffDue (s : State) (w : Winder) : Bool :=
  match (s.pipe w).offer with
  | some (.backoff e) => reached s.now e
  | some (.awaiting _ _) | none => false

/-- BACKOFF_END: the leg is offered again, checks included (R85). -/
def execBackoffEnd (w : Winder) (s : State) : Host.Outcome State Fault Refusal :=
  let t := s.begin
  .next ((if t.backoffDue w then t.offerLeg w else t).settle w)

/-! ## The other replies -/

/-- The reply to a request of a kind, which has no further effect than to be matched (R86, R114, R138, R170). -/
def State.takeReply (s : State) (w : Winder) (k : Kind) (tag : Nat) : State :=
  (s.begin.frameArrives (driveLink w)).dropAwaited w k tag

/-- GRANT_VOID_REPLY (R86). -/
def execGrantVoidReply (w : Winder) (tag _code : Nat) (s : State) : Host.Outcome State Fault Refusal :=
  .next (s.takeReply w .grantVoid tag)

/-- The kind of a notice. -/
def noticeKind : Notice → Kind
  | .slow => .slow
  | .resume => .resume
  | .stop => .stopNotice
  | .brake => .brake

/-- NOTICE_REPLY (R114). -/
def execNoticeReply (w : Winder) (notice : Notice) (tag _code : Nat) (s : State) : Host.Outcome State Fault Refusal :=
  .next (s.takeReply w (noticeKind notice) tag)

/-- The kind of a clutch order. -/
def clutchKind : ClutchOrder → Kind
  | .openClutch => .clutchOpen
  | .closeClutch => .clutchClose

/-- CLUTCH_REPLY (R138). -/
def execClutchReply (w : Winder) (order : ClutchOrder) (tag _code : Nat) (s : State) : Host.Outcome State Fault Refusal :=
  .next (s.takeReply w (clutchKind order) tag)

/-- REQUEST_REPLY_TIMEOUT: the entry leaves the awaited list, with no effect (R114, R170). -/
def execRequestReplyTimeout (w : Winder) (kind : Kind) (tag : Nat) (s : State) : Host.Outcome State Fault Refusal :=
  let t := s.begin
  .next (if t.awaitedExpired w kind tag then t.dropAwaited w kind tag else t)

end Sys2Proof.Machine
end

