-- ==== Sys2Proof/Machine/Reading.lean ====
section
/-! DEFINITION. The command that a whole frame is: its kind byte by R166, and the bytes of its body read into the fields of its kind (R174; logs 20 and 46). -/

namespace Sys2Proof.Machine

/-! ## Fields (R174)

A place past the end of a body reads as 0: a body that ends before its fields do has not the length that its fields declare,
and the screen refuses it "Malformed" before any field is looked at (R167). -/

/-- The one-byte field at an offset. -/
def byteAt (b : List Byte) (n : Nat) : Nat := (b.getD n 0).toNat

/-- The two-byte field at an offset, high byte first. -/
def wordAt (b : List Byte) (n : Nat) : Nat := 256 * byteAt b n + byteAt b (n + 1)

/-- The four-byte field at an offset, high byte first. -/
def quadAt (b : List Byte) (n : Nat) : Nat := 65536 * wordAt b n + wordAt b (n + 2)

/-- The signed two-byte field at an offset, in two's complement. -/
def signedWordAt (b : List Byte) (n : Nat) : Int := (BitVec.ofNat 16 (wordAt b n)).toInt

/-- The signed four-byte field at an offset, in two's complement. -/
def signedQuadAt (b : List Byte) (n : Nat) : Int := (BitVec.ofNat 32 (quadAt b n)).toInt

/-- The list of one-byte items, or the text, at an offset, its count first. -/
def listAt (b : List Byte) (n : Nat) : List Nat := (List.range (byteAt b n)).map (fun i => byteAt b (n + 1 + i))

/-- A field that a presence byte at an offset precedes. -/
def presenceAt {α : Type} (field : List Byte → Nat → α) (b : List Byte) (n : Nat) : Presence α :=
  match byteAt b n with
  | 0 => .absent
  | 1 => .present (field b (n + 1))
  | code => .unassigned code

/-! ## Bodies of more than fixed fields -/

/-- The body of CALL (R58). -/
def readCall (h : Head) (b : List Byte) : Instr :=
  let decks := listAt b 2
  let riders := presenceAt listAt b (2 + listSize decks)
  let payload := presenceAt wordAt b (2 + listSize decks + ridersSize riders)
  .call h (byteAt b 0) (byteAt b 1) decks riders payload
    (byteAt b (2 + listSize decks + ridersSize riders + optionalSize 2 payload))

/-- The body of CLOSE CALL (R67). -/
def readCloseCall (h : Head) (b : List Byte) : Instr :=
  let riders := presenceAt listAt b 0
  .closeCall h riders (presenceAt wordAt b (ridersSize riders))

/-- The body of MANUAL TRIP, its winder first (R93). -/
def readManualBody (b : List Byte) : ManualBody :=
  match byteAt b 0 with
  | 0 =>
    let decks := listAt b 2
    let riders := presenceAt listAt b (3 + listSize decks)
    .service (byteAt b 1) decks (byteAt b (2 + listSize decks)) riders
      (presenceAt wordAt b (3 + listSize decks + ridersSize riders))
  | 1 => .rock (byteAt b 1)
  | winder => .other winder

/-- The body of WRITE ZONE, "lowest free" an absent number, and the speed cap a field that may be absent, since R39 reads it
for two kinds alone (R39; DESIGN CHOICE, log 53). -/
def readWriteZone (h : Head) (b : List Byte) : Instr :=
  let number := presenceAt byteAt b 0
  let n := optionalSize 1 number
  let cap := presenceAt wordAt b (n + 10)
  .writeZone h number (byteAt b n) (byteAt b (n + 1)) (signedQuadAt b (n + 2)) (signedQuadAt b (n + 6)) cap
    (listAt b (n + 10 + optionalSize 2 cap))

/-- The body of WRITE GEOMETRY (R4, R5). -/
def readWriteGeometry (h : Head) (b : List Byte) : Instr :=
  let pitch := presenceAt wordAt b 0
  .writeGeometry h pitch (presenceAt quadAt b (optionalSize 2 pitch))

/-- The body of WRITE STATION (R8). -/
def readWriteStation (h : Head) (b : List Byte) : Instr :=
  let depth := presenceAt signedQuadAt b 1
  let n := 1 + optionalSize 4 depth
  .writeStation h (byteAt b 0) depth (byteAt b n) (byteAt b (n + 1)) (byteAt b (n + 2))

/-- The body of WRITE ROCK POINT (R10). -/
def readWriteRockPoint (h : Head) (b : List Byte) : Instr :=
  let depth := presenceAt signedQuadAt b 1
  .writeRockPoint h (byteAt b 0) depth (presenceAt byteAt b (1 + optionalSize 4 depth))

/-- The body of WRITE TRACKING (R33). -/
def readTrackingBody (b : List Byte) : Tracking :=
  ⟨byteAt b 0, wordAt b 1, wordAt b 3, wordAt b 5, wordAt b 7, wordAt b 9, wordAt b 11, wordAt b 13, wordAt b 15⟩

/-- One drum's part of a POSITION REPORT at an offset (section 11.6). -/
def drumReadingAt (b : List Byte) (n : Nat) : DrumReading := ⟨signedQuadAt b n, signedWordAt b (n + 4), wordAt b (n + 6)⟩

/-- The body of POSITION REPORT (section 11.6). -/
def readReportBody (b : List Byte) : ReportBody :=
  ⟨byteAt b 0, byteAt b 1, byteAt b 2, byteAt b 3, drumReadingAt b 4,
    if b.length = 20 then some (drumReadingAt b 12) else none⟩

/-! ## Requests -/

/-- The request of a kind that a body is. The kinds that the part itself sends are requests on no link, and are handled as
unlisted (R167). -/
def requestOf (h : Head) (k : Kind) (b : List Byte) : Instr :=
  match k with
  | .call => readCall h b
  | .openCall => .openCall h (byteAt b 0) (byteAt b 1)
  | .addDeck => .addDeck h (byteAt b 0)
  | .closeCall => readCloseCall h b
  | .cancelCall => .cancelCall h (byteAt b 0) (byteAt b 1)
  | .queryCall => .queryCall h (byteAt b 0) (byteAt b 1)
  | .ready => .ready h (wordAt b 0) (byteAt b 2)
  | .stop => .stop h (byteAt b 0)
  | .barStation => .barStation h (byteAt b 0)
  | .queryBar => .queryBar h (byteAt b 0)
  | .addWorkZone => .addWorkZone h (byteAt b 0) (signedQuadAt b 1) (signedQuadAt b 5) (listAt b 9)
  | .tripStatus => .tripStatus h (byteAt b 0)
  | .cycle => .cycle h (byteAt b 0)
  | .loaded => .loaded h (byteAt b 0) (wordAt b 1)
  | .tipped => .tipped h (byteAt b 0)
  | .querySkip => .querySkip h (byteAt b 0)
  | .release => .release h (byteAt b 0)
  | .hold => .hold h (byteAt b 0)
  | .clearHeld => .clearHeld h (byteAt b 0)
  | .winderReset => .winderReset h (byteAt b 0)
  | .setMode => .setMode h (byteAt b 0) (byteAt b 1)
  | .acknowledgeTrip => .acknowledgeTrip h (byteAt b 0)
  | .releaseLockout => .releaseLockout h (byteAt b 0)
  | .readWinder => .readWinder h (byteAt b 0)
  | .manualTrip => .manualTrip h (readManualBody b)
  | .inspectTrip => .inspectTrip h (byteAt b 0) (signedQuadAt b 1)
  | .readQueue => .readQueue h (byteAt b 0) (byteAt b 1)
  | .clearBars => .clearBars h
  | .removeWorkZone => .removeWorkZone h (byteAt b 0)
  | .writeZone => readWriteZone h b
  | .removeZone => .removeZone h (byteAt b 0)
  | .readZone => .readZone h (byteAt b 0)
  | .readCap => .readCap h (byteAt b 0)
  | .writeGeometry => readWriteGeometry h b
  | .readGeometry => .readGeometry h
  | .writeStation => readWriteStation h b
  | .readStation => .readStation h (byteAt b 0)
  | .writeRockPoint => readWriteRockPoint h b
  | .readRockPoint => .readRockPoint h (byteAt b 0)
  | .writeClass => .writeClass h (byteAt b 0) (wordAt b 1) (wordAt b 3) (wordAt b 5)
  | .readClass => .readClass h (byteAt b 0)
  | .writeTracking => .writeTracking h (readTrackingBody b)
  | .readTracking => .readTracking h
  | .writeDrumScale => .writeDrumScale h (byteAt b 0) (quadAt b 1)
  | .setReference => .setReference h (byteAt b 0) (signedQuadAt b 1)
  | .restartTracking => .restartTracking h (byteAt b 0)
  | .writeMarker => .writeMarker h (byteAt b 0) (byteAt b 1) (signedQuadAt b 2) (byteAt b 6)
  | .removeMarker => .removeMarker h (byteAt b 0)
  | .readMarker => .readMarker h (byteAt b 0)
  | .readPosition => .readPosition h (byteAt b 0)
  | .writeOfferLimit => .writeOfferLimit h (byteAt b 0) (byteAt b 1)
  | .writeReportInterval => .writeReportInterval h (byteAt b 0) (wordAt b 1)
  | .writeSettle => .writeSettle h (byteAt b 0) (wordAt b 1) (byteAt b 3)
  | .readSettle => .readSettle h (byteAt b 0)
  | .rePair => .rePair h (byteAt b 0) (byteAt b 1)
  | .setSkipContents => .setSkipContents h (byteAt b 0) (byteAt b 1) (presenceAt wordAt b 2)
  | .writePayload => .writePayload h (wordAt b 0) (byteAt b 2)
  | .readPayload => .readPayload h
  | .writeEnvelope => .writeEnvelope h (byteAt b 0) (wordAt b 1) (byteAt b 3) (byteAt b 4) (byteAt b 5)
  | .readEnvelope => .readEnvelope h (byteAt b 0)
  | .clearIndications => .clearIndications h (byteAt b 0)
  | .setEnvelopeLock => .setEnvelopeLock h (byteAt b 0)
  | .setTripLock => .setTripLock h (byteAt b 0)
  | .stopMonitor => .stopMonitor h (byteAt b 0)
  | .startMonitor => .startMonitor h (byteAt b 0)
  | .readFaults => .readFaults h (byteAt b 0)
  | .clearFaults => .clearFaults h
  | .readCounters => .readCounters h
  | .clearCounters => .clearCounters h
  | .commit => .commit h
  | .identify => .identify h
  | .grant | .grantVoid | .slow | .resume | .stopNotice | .brake | .clutchOpen | .clutchClose =>
    .unlistedKindRequest h.link (kindNumber k) h.tag
  | .positionReport => .positionReport h (readReportBody b)
  | .legComplete => .legComplete h (wordAt b 0) (byteAt b 2)
  | .driveFault => .driveFault h (byteAt b 0)

/-! ## Replies -/

/-- The reply frame of a drive to a request of a kind; the kinds that the part never sends it match nothing (R166, R170). -/
def readDriveReply (w : Winder) (k : Kind) (tag code : Nat) : Instr :=
  match k with
  | .grant => .grantReply w tag code
  | .grantVoid => .grantVoidReply w tag code
  | .slow => .noticeReply w .slow tag code
  | .resume => .noticeReply w .resume tag code
  | .stopNotice => .noticeReply w .stop tag code
  | .brake => .noticeReply w .brake tag code
  | .clutchOpen => .clutchReply w .openClutch tag code
  | .clutchClose => .clutchReply w .closeClutch tag code
  | _ => .strayReplyFrame (driveLink w) (kindNumber k + 128) tag

/-! ## Frames (R166) -/

/-- The kind of a number, where the catalogue has it. -/
def kindOf (number : Nat) : Option Kind := allKinds.find? (fun k => kindNumber k == number)

/-- The reply that a frame of a reply's kind byte is. Its code is the first byte of its body; with no body it has none, and is
taken as one that is not Done (R166, R169; log 46). -/
def readReply (l : Link) (number tag : Nat) (body : List Byte) : Instr :=
  match driveWinder l, kindOf (number - 128) with
  | some w, some k => readDriveReply w k tag (byteAt body 0)
  | none, _ | some _, none => .strayReplyFrame l number tag

/-- The request that a frame of any other kind byte is (R166, R167). -/
def readRequestFrame (l : Link) (number tag : Nat) (body : List Byte) : Instr :=
  match (kindOf number).filter (fun k => kindListed k l) with
  | some k => requestOf ⟨l, tag, body.length⟩ k body
  | none => .unlistedKindRequest l number tag

/-- The command that a whole frame is, from its bytes after the start byte: length, kind, tag, body and CRC (R165, R166). -/
def readFrame (l : Link) (bytes : List Byte) : Instr :=
  let number := byteAt bytes 1
  let body := (bytes.drop 3).take (byteAt bytes 0)
  if isReplyKind number then readReply l number (byteAt bytes 2) body else readRequestFrame l number (byteAt bytes 2) body

end Sys2Proof.Machine
end

