-- ==== Sys2Proof/Machine/RockCommands.lean ====
section
/-! DEFINITION. The commands of the Rock Coordinator (R130 to R132, R134, R137). -/

namespace Sys2Proof.Machine

/-! ## LOADED and TIPPED (R130, R131) -/

/-- Whether a skip is at rest within the window of a rock point (R129, R130, R131). -/
def State.restsAt (s : State) (k : Skip) (point : RockPoint) : Bool :=
  (s.position k.conveyance).rest && s.standsAt k point

/-- Whether a skip is at rest at the pocket of the current pairing. -/
def State.restsAtPocket (s : State) (k : Skip) : Bool := s.pairing.pocket.any (fun p => s.restsAt k p.point)

/-- LOADED taken by the Rock Coordinator (R130). -/
def takeLoaded (skip mass : Nat) (s : State) : State × (Code × Answer) :=
  match skipCode skip with
  | none => (s, refuse .outOfRange)
  | some k =>
    s.tested
      [(!between 0 65535 mass, .outOfRange), (s.pairing == .unpaired, .unpaired), (!s.restsAtPocket k, .skipState),
       ((s.skips.get k).isLoaded, .skipState)]
      (fun s => ((s.setContents k (.loaded mass)).settle .rock, done))

/-- LOADED (R130). -/
def execLoaded (h : Head) (skip mass : Nat) (s : State) : Host.Outcome State Fault Refusal :=
  .next (request s h .loaded 3 none (takeLoaded skip mass))

/-- TIPPED taken by the Rock Coordinator (R131), its tests made for a skip already Empty too (DESIGN CHOICE, log 62). -/
def takeTipped (skip : Nat) (s : State) : State × (Code × Answer) :=
  match skipCode skip with
  | none => (s, refuse .outOfRange)
  | some k =>
    s.tested [(!s.restsAt k .tip, .skipState)] (fun s => ((s.setContents k .empty).settle .rock, done))

/-- TIPPED (R131). -/
def execTipped (h : Head) (skip : Nat) (s : State) : Host.Outcome State Fault Refusal :=
  .next (request s h .tipped 1 none (takeTipped skip))

/-! ## SET SKIP CONTENTS and QUERY SKIP (R132) -/

/-- Whether the skips are in use: an active trip, or a staged cycle whose first GRANT has been sent (R132). -/
def State.skipsInUse (s : State) : Bool :=
  (s.pipe .rock).active.isSome || (s.pipe .rock).staged.any (fun t => t.isRockCycle && t.granted)

/-- SET SKIP CONTENTS taken by the Rock Coordinator (R132), its fields tested before "Skip in use"; R132 gives the two no
order (DESIGN CHOICE, log 23). -/
def takeSetSkipContents (skip contents : Nat) (mass : Option Nat) (s : State) : State × (Code × Answer) :=
  match skipCode skip, contentsCode contents mass with
  | some k, some c =>
    s.tested [(s.skipsInUse, .skipInUse)] (fun s => ((s.setContents k c).settle .rock, done))
  | _, _ => (s, refuse .outOfRange)

/-- SET_SKIP_CONTENTS (R132). -/
def execSetSkipContents (h : Head) (skip contents : Nat) (mass : Presence Nat) (s : State) :
    Host.Outcome State Fault Refusal :=
  .next (request s h .setSkipContents (2 + optionalSize 2 mass) none
    (withRead mass (fun m => takeSetSkipContents skip contents m)))

/-- The answer of QUERY SKIP (R132). -/
def State.skipAnswer (s : State) (k : Skip) : Answer :=
  .skip (s.skips.get k) (s.standsAt k .tip) (s.standsAt k .pocketA) (s.standsAt k .pocketB) s.pairing s.clutch
    (s.repair.map (·.phase))

/-- QUERY_SKIP (R132). -/
def execQuerySkip (h : Head) (skip : Nat) (s : State) : Host.Outcome State Fault Refusal :=
  .next (readRequest s h .querySkip 1 none (fun t =>
    match skipCode skip with
    | none => refuse .outOfRange
    | some k => doneWith (t.skipAnswer k)))

/-! ## WRITE PAYLOAD and READ PAYLOAD (R134) -/

/-- WRITE PAYLOAD taken by the Rock Coordinator (R134). -/
def takeWritePayload (tolerance action : Nat) (s : State) : State × (Code × Answer) :=
  if !s.isIn .rock .parked then (s, refuse .notParked)
  else
    match payloadActionCode action with
    | none => (s, refuse .outOfRange)
    | some a =>
      s.tested [(!between 200 3000 tolerance, .outOfRange)]
        (fun s => (s.withWork (fun c => { c with payloadTolerance := tolerance, payloadAction := a }), done))

/-- WRITE_PAYLOAD (R134). -/
def execWritePayload (h : Head) (tolerance action : Nat) (s : State) : Host.Outcome State Fault Refusal :=
  .next (request s h .writePayload 3 none (takeWritePayload tolerance action))

/-- READ_PAYLOAD (R134). -/
def execReadPayload (h : Head) (s : State) : Host.Outcome State Fault Refusal :=
  .next (readRequest s h .readPayload 0 none (fun t => doneWith (.payload t.work.payloadTolerance t.work.payloadAction)))

/-! ## RE-PAIR (R137) -/

/-- RE-PAIR taken by the Rock Coordinator (R137). -/
def takeRePair (pocket free : Nat) (s : State) : State × (Code × Answer) :=
  match pocketCode pocket, skipCode free with
  | some p, some k =>
    match s.rePairTests p k with
    | some r => (s, refuse r)
    | none => ((s.beginRePair p k).settle .rock, doneWith (.tripNumber (s.nextTrip .rock)))
  | _, _ => (s, refuse .outOfRange)

/-- RE_PAIR (R137). -/
def execRePair (h : Head) (pocket free : Nat) (s : State) : Host.Outcome State Fault Refusal :=
  .next (request s h .rePair 2 none (takeRePair pocket free))

end Sys2Proof.Machine
end

