-- ==== Sys2Proof/Machine/StoreCommands.lean ====
section
/-! DEFINITION. The commands of the Fault Recorder, the Configuration Store and the Link Interface (R159, R160, R163, R172, R176 to R178). -/

namespace Sys2Proof.Machine

/-! ## Faults and counters (R159, R160, R163) -/

/-- The whole answer of READ FAULTS: the primary record as item 1, then the list (R159, R171). -/
def State.faultItems (s : State) : List PageItem × PageCommon :=
  (.primary s.primary :: s.faults.mapIdx (fun i e => .fault (i + 1) e), .faults s.overflow)

/-- READ_FAULTS (R159, R171). -/
def execReadFaults (h : Head) (first : Nat) (s : State) : Host.Outcome State Fault Refusal :=
  .next (pageRequest s h .readFaults 1 none (fun t => pageRead t .faults first State.faultItems))

/-- Whether a winder is in TRIPPED or LOCKOUT. -/
def State.stoppedBySafety (s : State) (w : Winder) : Bool := (s.winder w).state.demandsBrake

/-- CLEAR FAULTS taken by the Fault Recorder (R160). -/
def takeClearFaults (s : State) : State × (Code × Answer) :=
  s.tested [(s.stoppedBySafety .service || s.stoppedBySafety .rock, .winderState)]
    (fun s => ({ s with primary := none, faults := [], overflow := 0 }, done))

/-- CLEAR_FAULTS (R160). -/
def execClearFaults (h : Head) (s : State) : Host.Outcome State Fault Refusal :=
  .next (request s h .clearFaults 0 none takeClearFaults)

/-- READ_COUNTERS (R163). -/
def execReadCounters (h : Head) (s : State) : Host.Outcome State Fault Refusal :=
  .next (readRequest s h .readCounters 0 none (fun t => doneWith (.counters t.counters t.metres t.frameErrors)))

/-- Every counter and remainder set to 0 (R163). -/
def State.clearCounters (s : State) : State :=
  { s with
    counters := ⟨Counters.zero, Counters.zero⟩
    metres := ⟨0, 0, 0, 0⟩
    remainders := ⟨0, 0, 0, 0⟩
    frameErrors := ⟨0, 0, 0, 0, 0⟩ }

/-- CLEAR_COUNTERS (R163). -/
def execClearCounters (h : Head) (s : State) : Host.Outcome State Fault Refusal :=
  .next (request s h .clearCounters 0 none (fun t => (t.clearCounters, done)))

/-! ## The stores (R176, R177, R178) -/

/-- COMMIT taken by the Configuration Store, its two tests in the order of R176. -/
def takeCommit (s : State) : State × (Code × Answer) :=
  s.tested [(!s.bothParked, .notParked), (s.unconfigured && !s.configurable, .unconfigured)]
    (fun s => (s.startCommit, done))

/-- COMMIT (R176). -/
def execCommit (h : Head) (s : State) : Host.Outcome State Fault Refusal :=
  .next (request s h .commit 0 none takeCommit)

/-- COMMIT_WRITE_END; `checkHolds` says whether the copy reads back sound (R177; log 6). -/
def execCommitWriteEnd (checkHolds : Bool) (s : State) : Host.Outcome State Fault Refusal :=
  .next (s.begin.endCommit checkHolds)

/-- SHAFT_WORK_RECORD_WRITE_END; `checkHolds` says whether the copy reads back sound (R178; log 6). -/
def execShaftWorkRecordWriteEnd (checkHolds : Bool) (s : State) : Host.Outcome State Fault Refusal :=
  .next (s.begin.endRecordWrite checkHolds)

/-! ## IDENTIFY (R172) -/

/-- The characters of a text. -/
def textCodes (t : String) : List Nat := t.toList.map Char.toNat

/-- The answer of IDENTIFY (R172). -/
def State.identity (s : State) : Answer :=
  .identity (textCodes "Falwen") (textCodes "Vatrun VSA-6") Config.hardwareRevision s.generation s.commissioning
    s.unconfigured

/-- IDENTIFY (R172). -/
def execIdentify (h : Head) (s : State) : Host.Outcome State Fault Refusal :=
  .next (readRequest s h .identify 0 none (fun t => doneWith t.identity))

end Sys2Proof.Machine
end

