-- ==== Sys2Proof/Machine/TrackingCommands.lean ====
section
/-! DEFINITION. The commands of the Position Tracker's settings, drums, markers and reads (R23, R24, R27, R28, R33, R34). -/

namespace Sys2Proof.Machine

/-! ## WRITE TRACKING (R33) -/

/-- Whether tracking settings are each in range and in order (R33). -/
def trackingOk (t : Tracking) : Bool :=
  between 5 100 t.growth && between 200 1500 t.coldBand && between 50 1000 t.creepThreshold &&
  between 200 3000 t.ambiguity && between 20 1000 t.warn && between 100 3000 t.trip && between 10 200 t.standstill &&
  between 50 500 t.unpermitted && between 500 10000 t.pair && decide (t.creepThreshold < t.coldBand) &&
  decide (t.coldBand ≤ t.ambiguity) && decide (t.warn < t.trip)

/-- WRITE TRACKING taken (R33). -/
def takeWriteTracking (t : Tracking) (s : State) : State × (Code × Answer) :=
  s.tested [(!s.bothParked, .notParked), (!trackingOk t, .outOfRange)]
    (fun s => (s.withWork (fun c => { c with tracking := t }), done))

/-- WRITE_TRACKING (R33). -/
def execWriteTracking (h : Head) (settings : Tracking) (s : State) : Host.Outcome State Fault Refusal :=
  .next (request s h .writeTracking 17 none (takeWriteTracking settings))

/-- READ_TRACKING (R33). -/
def execReadTracking (h : Head) (s : State) : Host.Outcome State Fault Refusal :=
  .next (readRequest s h .readTracking 0 none (fun t => doneWith (.tracking t.work.tracking)))

/-! ## WRITE DRUM SCALE and SET REFERENCE (R27, R28) -/

/-- A drum's uncorrected drum depth set outside a report: the motion references of the conveyances hung from it follow,
and the next report counts no distance from it (R27, R28, R162). -/
def State.setDrumDepth (s : State) (d : Drum) (depth : Int) : State :=
  let t := { s with drumDepth := s.drumDepth.set d (some depth), metresFrom := s.metresFrom.set d none }
  (hungFrom d).foldl (fun s c => s.withPosition c (fun p => { p with motionRef := some depth })) t

/-- A drum's depth recomputed from the count of the latest report, where there is one (R27). -/
def State.recomputeDrum (s : State) (d : Drum) : State :=
  match s.reports.get (drumWinder d) with
  | none => s
  | some r => s.setDrumDepth d (s.uncorrected d (r.reading d).count)

/-- Conveyances put into Cold, in order (R27). -/
def State.chill (s : State) (l : List Conveyance) : State := l.foldl State.makeCold s

/-- The records of conveyances that enter Cold with the estimates they have (R27). -/
def State.cool (s : State) (l : List Conveyance) : State :=
  l.foldl (fun s c => s.withPosition c (fun p => p.enterCold s.work.tracking.coldBand)) s

/-- A drum scale written: every record of the winder enters Cold, and those computed from the drum take their estimates
anew (R27). -/
def State.rescale (s : State) (d : Drum) (scale : Nat) : State :=
  let w := drumWinder d
  let t := (s.withWork (fun c => { c with scales := c.scales.set d scale })).recomputeDrum d
  let others := (conveyancesOf w).filter (fun c => !(hungFrom d).contains c)
  ((t.chill (hungFrom d)).cool others).rebuildWinder w

/-- The tests of WRITE DRUM SCALE (R27). -/
def State.scaleTests (s : State) (d : Drum) (scale : Nat) : List (Bool × Reason) :=
  [(!s.commissioning, .notCommissioning),
   (!s.isIn (drumWinder d) .parked, .notParked),
   ((s.monitor (drumWinder d)).running, .monitorRunning),
   (!between 1000 100000 scale, .outOfRange)]

/-- WRITE DRUM SCALE taken (R27). -/
def takeWriteDrumScale (drum scale : Nat) (s : State) : State × (Code × Answer) :=
  match drumCode drum with
  | none => (s, refuse .outOfRange)
  | some d => s.tested (s.scaleTests d scale) (fun s => (s.rescale d scale, done))

/-- WRITE_DRUM_SCALE (R27). -/
def execWriteDrumScale (h : Head) (drum scale : Nat) (s : State) : Host.Outcome State Fault Refusal :=
  .next (request s h .writeDrumScale 5 none (takeWriteDrumScale drum scale))

/-- The stretch corrections of conveyances set to 0 (R28). -/
def State.uncorrect (s : State) (l : List Conveyance) : State :=
  l.foldl (fun s c => s.withPosition c (fun p => { p with correction := 0 })) s

/-- A reference pair set at the count of the latest report (R28). -/
def State.refer (s : State) (d : Drum) (depth : Int) (r : Report) : State :=
  let t := s.withWork (fun c => { c with references := c.references.set d ⟨depth, (r.reading d).count⟩ })
  let t := (t.uncorrect (hungFrom d)).setDrumDepth d depth
  (t.chill (hungFrom d)).rebuildWinder (drumWinder d)

/-- The tests of SET REFERENCE (R28). -/
def State.referenceTests (s : State) (d : Drum) (depth : Int) : List (Bool × Reason) :=
  [(!s.commissioning, .notCommissioning),
   (!s.isIn (drumWinder d) .parked, .notParked),
   (!s.latestAtRest (drumWinder d), .notAtRest),
   (!depthInRange depth, .outOfRange)]

/-- A reference pair set where the winder has a report; the tests leave no other case (R28). -/
def State.referLatest (s : State) (d : Drum) (depth : Int) : State :=
  match s.reports.get (drumWinder d) with
  | some r => s.refer d depth r
  | none => s

/-- SET REFERENCE taken (R28). -/
def takeSetReference (drum : Nat) (depth : Int) (s : State) : State × (Code × Answer) :=
  match drumCode drum with
  | none => (s, refuse .outOfRange)
  | some d => s.tested (s.referenceTests d depth) (fun s => (s.referLatest d depth, done))

/-- SET_REFERENCE (R28). -/
def execSetReference (h : Head) (drum : Nat) (depth : Int) (s : State) : Host.Outcome State Fault Refusal :=
  .next (request s h .setReference 5 none (takeSetReference drum depth))

/-- RESTART_TRACKING (R23). -/
def execRestartTracking (h : Head) (winder : Nat) (s : State) : Host.Outcome State Fault Refusal :=
  .next (winderRequest s h .restartTracking 1 winder (fun w t =>
    t.tested [(!t.isIn w .parked, .notParked)]
      (fun t => ((t.chill (conveyancesOf w)).rebuildWinder w, done))))

/-! ## Markers (R24) -/

/-- The marker table with an entry put at its id, the ids rising. -/
def putMarker (m : Marker) : List Marker → List Marker
  | [] => [m]
  | e :: rest => if e.id < m.id then e :: putMarker m rest else if e.id = m.id then m :: rest else m :: e :: rest

/-- The entry of a marker id. -/
def State.marker (s : State) (id : Nat) : Option Marker := s.work.markers.find? (fun m => m.id == id)

/-- The tests of WRITE MARKER, to which R24 gives no order (DESIGN CHOICE, log 23). -/
def State.markerTests (s : State) (m : Marker) : List (Bool × Reason) :=
  [(!s.commissioning, .notCommissioning),
   (!s.isIn (ownerOf m.compartment) .parked, .notParked),
   (!between 1 255 m.id || !depthInRange m.depth || !between 5 50 m.accuracy, .outOfRange),
   ((s.marker m.id).isNone && decide (48 ≤ s.work.markers.length), .tableFull)]

/-- WRITE MARKER taken (R24). -/
def takeWriteMarker (id compartment : Nat) (depth : Int) (accuracy : Nat) (s : State) : State × (Code × Answer) :=
  match conveyanceCode compartment with
  | none => (s, refuse .outOfRange)
  | some c =>
    let m : Marker := ⟨id, c, depth, accuracy⟩
    s.tested (s.markerTests m) (fun s => (s.withWork (fun k => { k with markers := putMarker m k.markers }), done))

/-- WRITE_MARKER (R24). -/
def execWriteMarker (h : Head) (id compartment : Nat) (depth : Int) (accuracy : Nat) (s : State) :
    Host.Outcome State Fault Refusal :=
  .next (request s h .writeMarker 7 none (takeWriteMarker id compartment depth accuracy))

/-- The tests of REMOVE MARKER, to which R24 gives no order; the winder is that of the entry's compartment (DESIGN CHOICE,
log 23). -/
def State.removeMarkerTests (s : State) (id : Nat) : List (Bool × Reason) :=
  [(!s.commissioning, .notCommissioning),
   ((s.marker id).isNone, .noSuchMarker),
   ((s.marker id).any (fun m => !s.isIn (ownerOf m.compartment) .parked), .notParked)]

/-- REMOVE_MARKER (R24). -/
def execRemoveMarker (h : Head) (id : Nat) (s : State) : Host.Outcome State Fault Refusal :=
  .next (request s h .removeMarker 1 none (fun t =>
    t.tested (t.removeMarkerTests id)
      (fun t => (t.withWork (fun k => { k with markers := k.markers.filter (fun m => m.id != id) }), done))))

/-- READ_MARKER (R24). An id that is not in the table is refused "No such marker", as R24 refuses it for REMOVE MARKER; the
rule names no refusal for READ MARKER (DESIGN CHOICE, log 48). -/
def execReadMarker (h : Head) (id : Nat) (s : State) : Host.Outcome State Fault Refusal :=
  .next (readRequest s h .readMarker 1 none (fun t =>
    match t.marker id with
    | some m => doneWith (.marker m)
    | none => refuse .noSuchMarker))

/-! ## READ POSITION (R34, R171) -/

/-- The part of READ POSITION's answer that is repeated in every page: the readings of the latest reports and passes (R34,
R171). -/
def State.positionCommon (s : State) : PageCommon :=
  .positions ⟨(s.reports.get .service).map (·.at_), (s.reports.get .rock).map (·.at_)⟩ s.lastPass

/-- The whole answer of READ POSITION (R34). -/
def State.positionItems (s : State) : List PageItem × PageCommon :=
  ([Conveyance.cage, .counterweight, .skip0, .skip1].map (fun c => .position c (s.position c)),
   s.positionCommon)

/-- READ_POSITION (R34, R171). -/
def execReadPosition (h : Head) (first : Nat) (s : State) : Host.Outcome State Fault Refusal :=
  .next (pageRequest s h .readPosition 1 none (fun t => pageRead t .positions first State.positionItems))

end Sys2Proof.Machine
end

