-- ==== Sys2Proof/Machine/TripCommands.lean ====
section
/-! DEFINITION. The commands of the Trip Pipeline: READY, TRIP STATUS, MANUAL TRIP, INSPECT TRIP, the overtime and the offer limit (R81, R85, R89, R92 to R94, R126). -/

namespace Sys2Proof.Machine

/-! ## READY (R81, R126) -/

/-- READY naming the active trip of the service winder (R126). -/
def readyActive (t : Trip) (leg : Nat) (s : State) : State × (Code × Answer) :=
  match (s.winder .service).state with
  | .dwelling =>
    if leg = t.current then
      (if (s.pipe .service).offer.isSome then s else (s.offerLeg .service).settle .service, done)
    else (s, refuse .wrongLeg)
  | .running | .settling | .stopping | .parked | .idle | .clutching | .tripped | .lockout => (s, refuse .notAtRest)

/-- READY naming the staged trip of the service winder (R81). -/
def readyStagedTrip (leg : Nat) (s : State) : State × (Code × Answer) :=
  if leg ≠ 1 then (s, refuse .wrongLeg)
  else if (s.pipe .service).active.isSome then (s, refuse .notAtRest)
  else
    let t := s.withPipe .service (fun p => { p with staged := p.staged.map (fun t => { t with ready := true }) })
    (t.settle .service, done)

/-- READY taken by the Trip Pipeline (R81, R126). -/
def takeReady (trip leg : Nat) (s : State) : State × (Code × Answer) :=
  match (s.pipe .service).staged.filter (fun t => t.number == trip),
      (s.pipe .service).active.filter (fun t => t.number == trip) with
  | some _, _ => readyStagedTrip leg s
  | none, some t => readyActive t leg s
  | none, none => (s, refuse .noSuchTrip)

/-- READY (R81, R126). -/
def execReady (h : Head) (trip leg : Nat) (s : State) : Host.Outcome State Fault Refusal :=
  .next (request s h .ready 3 none (takeReady trip leg))

/-! ## TRIP STATUS (R89) -/

/-- The answer of TRIP STATUS (R89). -/
def State.statusAnswer (s : State) (w : Winder) : Answer :=
  let p := s.pipe w
  .tripStatus (s.winder w).state
    (p.active.map (fun t => ⟨t.number, t.kind, t.current, t.legs.length⟩))
    (p.staged.map (fun t => ⟨t.number, sourceId (some t), t.ready⟩))
    p.latest p.prior

/-- TRIP_STATUS (R89). -/
def execTripStatus (h : Head) (winder : Nat) (s : State) : Host.Outcome State Fault Refusal :=
  .next (winderRequest s h .tripStatus 1 winder (fun w t => (t, doneWith (t.statusAnswer w))))

/-! ## MANUAL TRIP (R93) -/

/-- The tests of MANUAL TRIP that both winders have, from the mode to the admission count (R93). -/
def State.manualTests (s : State) (w : Winder) : List (Bool × Reason) :=
  [((s.winder w).mode != .manual, .notManualMode),
   (!(s.winder w).state.stages, .winderState),
   ((s.winder w).holdPending, .holdPending),
   ((s.pipe w).staged.isSome, .stagedBusy),
   (decide (admissionLimit w ≤ s.admissionCount w), .queueFull)]

/-- The path tests of a computed trip (R46, R93). -/
def State.pathTests (s : State) (legs : List Leg) : List (Bool × Reason) :=
  [((s.pathCheck .work (s.stagedPaths legs) overNone).isSome, .workZone),
   ((s.pathCheck .inspect (s.stagedPaths legs) overNone).isSome, .inspectZone)]

/-- The tests of a manual cage trip after its fields are known to be in range (R93). -/
def State.manualCageTests (s : State) (work : CallWork) (st : Fin 16) (decks : List Deck) : List (Bool × Reason) :=
  [(!decide decks.Nodup, .deckRepeated)] ++ s.manualTests .service ++
  [(!(s.stationAt st).inService, .notInService),
   (!decks.all (s.stationAt st).decks.has, .deckNotServed),
   (s.bars[st], .stationBarred)] ++
  s.pathTests (s.callLegs work) ++ [(work.overRating, .overRating)]

/-- A manual trip built and staged (R93). -/
def State.stageManual (s : State) (w : Winder) (work : CallWork) : State × (Code × Answer) :=
  let n := s.nextTrip w
  let t := s.stage w { Trip.built n .manual work.cls (s.callLegs work) with station := work.station }
  ((t.readyStaged w).settle w, doneWith (.tripNumber n))

/-- MANUAL TRIP for the service winder (R93). -/
def takeManualCage (station : Nat) (decks : List Nat) (cls : Nat) (riders : Option (List Nat)) (payload : Option Nat)
    (s : State) : State × (Code × Answer) :=
  match stationCode station, cageClassCode cls, codes deckCode decks with
  | some st, some c, some ds =>
    let work := CallWork.cage st c (orderedDecks ds) (riders.map (orderedRiders ds)) payload
    if between 1 3 decks.length && countsInRange riders payload && countsOk c ds riders payload then
      s.tested (s.manualCageTests work st ds) (fun s => s.stageManual .service work)
    else (s, refuse .outOfRange)
  | _, _, _ => (s, refuse .outOfRange)

/-- MANUAL TRIP for the rock winder (R93). -/
def takeManualRock (rising : Nat) (s : State) : State × (Code × Answer) :=
  match skipCode rising with
  | none => (s, refuse .outOfRange)
  | some k =>
    s.tested (s.manualTests .rock ++ [(s.pairing == .unpaired, .unpaired)] ++ s.pathTests (s.cycleLegs k))
      (fun s => s.stageManual .rock (.cycle k))

/-- MANUAL TRIP taken by the Trip Pipeline (R93). -/
def takeManualTrip (body : ManualBody) (s : State) : State × (Code × Answer) :=
  match body with
  | .service station decks cls riders payload =>
    withRead riders (fun r => withRead payload (fun p => takeManualCage station decks cls r p)) s
  | .rock rising => takeManualRock rising s
  | .other _ => (s, refuse .outOfRange)

/-- MANUAL_TRIP (R93). -/
def execManualTrip (h : Head) (body : ManualBody) (s : State) : Host.Outcome State Fault Refusal :=
  .next (request s h .manualTrip (manualSize h body) none (takeManualTrip body))

/-! ## INSPECT TRIP (R94, R109) -/

/-- Whether any conveyance that a leg would move has its target within a restricted zone of its set (R109). -/
def State.recoveryBlocked (s : State) (l : Leg) : Bool :=
  (s.winder (ownerOf l.leading)).recovery && l.motions.any (fun m => s.targetRestricted m.conveyance m.target)

/-- The tests of INSPECT TRIP before its leg is known (R94). -/
def State.inspectTests (s : State) (c : Conveyance) : List (Bool × Reason) :=
  let w := ownerOf c
  [((s.winder w).mode != .inspection, .notInspectionMode),
   (!(s.winder w).state.stages || (w == .rock && (s.pipe w).active.any (fun t => t.kind == .rePair)), .winderState),
   ((s.winder w).holdPending, .holdPending),
   ((s.pipe w).staged.isSome, .stagedBusy),
   (decide (admissionLimit w ≤ s.admissionCount w), .queueFull),
   (w == .rock && (s.clutch == none || s.clutch == some .moving), .clutchMoving),
   (w == .rock && s.clutch == some .closed && s.pairing == .unpaired, .unpaired)]

/-- The tests of INSPECT TRIP on its leg (R94, R109). -/
def State.inspectLegTests (s : State) (l : Leg) : List (Bool × Reason) :=
  [(s.recoveryBlocked l, .recoveryDirection),
   ((s.pathCheck .work (s.stagedPaths [l]) (s.overOwn (s.winder (ownerOf l.leading)).recovery)).isSome, .workZone)]

/-- An inspection trip built and staged, ready (R94). -/
def State.stageInspection (s : State) (w : Winder) (l : Leg) : State × (Code × Answer) :=
  let n := s.nextTrip w
  let t := { Trip.built n .inspection .inspection [l] with ready := true, recovery := (s.winder w).recovery }
  ((s.stage w t).settle w, doneWith (.tripNumber n))

/-- INSPECT TRIP taken by the Trip Pipeline (R94). -/
def takeInspectTrip (conveyance : Nat) (target : Int) (s : State) : State × (Code × Answer) :=
  match conveyanceCode conveyance with
  | none => (s, refuse .outOfRange)
  | some c =>
    let l := s.inspectionLeg c target (s.nextTrip (ownerOf c))
    s.tested ([(!depthInRange target, .outOfRange)] ++ s.inspectTests c ++ s.inspectLegTests l)
      (fun s => s.stageInspection (ownerOf c) l)

/-- INSPECT_TRIP (R94). -/
def execInspectTrip (h : Head) (conveyance : Nat) (target : Int) (s : State) : Host.Outcome State Fault Refusal :=
  .next (request s h .inspectTrip 5 none (takeInspectTrip conveyance target))

/-! ## TRIP OVERTIME and WRITE OFFER LIMIT (R85, R92) -/

/-- Whether the motion time of a winder's active trip exceeds the limit of the trip's class (R92). -/
def State.overtime (s : State) (w : Winder) : Bool :=
  (s.pipe w).active.any (fun t => decide ((s.classOf t.cls).limit * 1000 < t.motionTime))

/-- TRIP_OVERTIME (R92; log 2). -/
def execTripOvertime (w : Winder) (s : State) : Host.Outcome State Fault Refusal :=
  let t := s.begin
  .next (if t.overtime w then t.deliver (t.leadingReport w .tripOvertime .trip) else t)

/-- WRITE OFFER LIMIT taken by the Trip Pipeline (R85). -/
def takeWriteOfferLimit (limit : Nat) (w : Winder) (s : State) : State × (Code × Answer) :=
  s.tested [(!s.isIn w .parked, .notParked), (!between 1 6 limit, .outOfRange)]
    (fun s => ({ s with work := { s.work with offerLimit := s.work.offerLimit.set w limit } }, done))

/-- WRITE_OFFER_LIMIT (R85). -/
def execWriteOfferLimit (h : Head) (winder limit : Nat) (s : State) : Host.Outcome State Fault Refusal :=
  .next (winderRequest s h .writeOfferLimit 2 winder (takeWriteOfferLimit limit))

end Sys2Proof.Machine
end

