-- ==== Sys2Proof/Machine/WinderCommands.lean ====
section
/-! DEFINITION. The commands of the Winder Controllers: release, hold, stop, reset, mode, acknowledgement, lockout (chapter 6). -/

namespace Sys2Proof.Machine

/-! ## STOP (R101, R102) -/

/-- STOP taken in a state of the winder (R101). -/
def State.stopWinder (s : State) (w : Winder) : State :=
  match (s.winder w).state with
  | .running => s.enterStopping w .request
  | .settling | .dwelling => s.endAndPark w .stopped
  | .clutching => (s.withWinder w (fun r => { r with stopPending := true })).stopFreeMove
  | .idle => s.withdrawStaged w .waiting
  | .stopping | .parked | .tripped | .lockout => s

/-- STOP (R101). -/
def execStop (h : Head) (winder : Nat) (s : State) : Host.Outcome State Fault Refusal :=
  .next (winderRequest s h .stop 1 winder (fun w t => ((t.stopWinder w).settle w, done)))

/-- Whether a stop has gone on for 30 s (R102). -/
def State.stopOverdue (s : State) (w : Winder) : Bool :=
  s.isIn w .stopping && (s.winder w).stopStarted.any (fun t => decide (30000 ≤ elapsed t s.now))

/-- STOP_NOT_ACHIEVED (R102; log 2). -/
def execStopNotAchieved (w : Winder) (s : State) : Host.Outcome State Fault Refusal :=
  let t := s.begin
  .next (if t.stopOverdue w then t.deliver (t.leadingReport w .stopNotAchieved .trip) else t)

/-! ## RELEASE (R99) -/

/-- The tests of RELEASE in PARKED (R99). -/
def State.releaseTests (s : State) (w : Winder) : List (Bool × Reason) :=
  [(s.unconfigured, .unconfigured),
   (!(s.monitor w).running, .monitorStopped),
   (s.emergencyLine.get w, .emergencyStop),
   ((s.reports.get w).isNone || (s.winder w).silent != .clear, .driveSilent),
   ((conveyancesOf w).any (fun c => (s.position c).state == .lost), .positionLost),
   ((s.winder w).held, .held)]

/-- A winder released: IDLE, with Recovery and Inspection as the restricted touch condition and commissioning mode give
them (R99). -/
def State.released (s : State) (w : Winder) : State :=
  let touch := s.restricted.get w
  (s.changeState w .idle).withWinder w (fun r =>
    { r with recovery := touch, mode := if touch || s.commissioning then .inspection else r.mode })

/-- RELEASE taken by the Winder Controller (R99). -/
def takeRelease (w : Winder) (s : State) : State × (Code × Answer) :=
  if s.isIn w .parked then s.tested (s.releaseTests w) (fun s => ((s.released w).settle w, done))
  else if (s.winder w).holdPending then
    ((s.withWinder w (fun r => { r with holdPending := false })).settle w, done)
  else (s, refuse .winderState)

/-- RELEASE (R99). -/
def execRelease (h : Head) (winder : Nat) (s : State) : Host.Outcome State Fault Refusal :=
  .next (winderRequest s h .release 1 winder takeRelease)

/-! ## HOLD and CLEAR HELD (R100) -/

/-- A winder entered into PARKED with its Held indication set (R100). -/
def State.parkHeld (s : State) (w : Winder) : State :=
  (s.changeState w .parked).withWinder w (fun r => { r with held := true })

/-- HOLD taken by the Winder Controller (R100). -/
def takeHold (w : Winder) (s : State) : State × (Code × Answer) :=
  match (s.winder w).state with
  | .parked | .idle => ((s.withdrawStaged w .waiting).parkHeld w, done)
  | .running | .settling | .stopping | .clutching =>
    if (s.winder w).holdPending then (s, done)
    else ((s.withWinder w (fun r => { r with holdPending := true })).withdrawStaged w .waiting, done)
  | .dwelling => (((s.endActive w .heldPartial).withdrawStaged w .waiting).parkHeld w, done)
  | .tripped | .lockout => (s, refuse .winderState)

/-- HOLD (R100). -/
def execHold (h : Head) (winder : Nat) (s : State) : Host.Outcome State Fault Refusal :=
  .next (winderRequest s h .hold 1 winder takeHold)

/-- CLEAR_HELD (R100). -/
def execClearHeld (h : Head) (winder : Nat) (s : State) : Host.Outcome State Fault Refusal :=
  .next (winderRequest s h .clearHeld 1 winder
    (fun w t => (t.withWinder w (fun r => { r with held := false }), done)))

/-! ## WINDER RESET (R103) -/

/-- The queue and ended-call list emptied, and for the service winder an open assembly abandoned (R73). -/
def State.resetCalls (s : State) (w : Winder) : State :=
  { s with
    queues := s.queues.set w []
    ended := s.ended.set w []
    assembly := if w = .service then none else s.assembly }

/-- A winder reset (R73, R95, R103, R152); critical raised is clear in PARKED already (log 56). -/
def State.resetWinder (s : State) (w : Winder) : State :=
  let t := (s.resetCalls w).withPipe w (fun p => { p with latest := none, prior := none })
  let t := t.withMonitor w (fun m => { m with overIndication := false, underIndication := false })
  let t := t.withWinder w (fun r => { r with held := false, recovery := false, slowCap := none })
  t.emptySuppression w

/-- WINDER_RESET (R103). -/
def execWinderReset (h : Head) (winder : Nat) (s : State) : Host.Outcome State Fault Refusal :=
  .next (winderRequest s h .winderReset 1 winder
    (fun w t => t.tested [(!t.isIn w .parked, .winderState)] (fun t => (t.resetWinder w, done))))

/-! ## SET MODE (R104) -/

/-- The tests of SET MODE (R104). -/
def State.modeTests (s : State) (w : Winder) (m : Mode) : List (Bool × Reason) :=
  [(!s.isIn w .parked && !s.isIn w .idle, .winderState),
   (s.isIn w .idle && (s.pipe w).staged.isSome, .stagedBusy),
   (s.commissioning && m != .inspection, .commissioning),
   ((s.winder w).recovery && m != .inspection, .recovery)]

/-- A mode set and handed on (R96, R104). -/
def State.changeMode (s : State) (w : Winder) (m : Mode) : State :=
  ((s.withWinder w (fun r => { r with mode := m })).handAndCompare w).settle w

/-- SET MODE taken by the Winder Controller (R104). A mode code that names nothing is refused "Out of range" before the tests
of R104, whose table gives that refusal no place (DESIGN CHOICE, log 19); a mode already held is tested like any other
(DESIGN CHOICE, log 62). -/
def takeSetMode (mode : Nat) (w : Winder) (s : State) : State × (Code × Answer) :=
  match modeCode mode with
  | none => (s, refuse .outOfRange)
  | some m => s.tested (s.modeTests w m) (fun s => (s.changeMode w m, done))

/-- SET_MODE (R104). -/
def execSetMode (h : Head) (winder mode : Nat) (s : State) : Host.Outcome State Fault Refusal :=
  .next (winderRequest s h .setMode 2 winder (takeSetMode mode))

/-! ## ACKNOWLEDGE TRIP and RELEASE LOCKOUT (R105, R106) -/

/-- Whether the latest report was taken in the winder's present state and left it at rest (R105, R106). -/
def State.restedHere (s : State) (w : Winder) : Bool := (s.winder w).reportInState && s.latestAtRest w

/-- ACKNOWLEDGE TRIP taken by the Winder Controller (R105). -/
def takeAcknowledge (w : Winder) (s : State) : State × (Code × Answer) :=
  s.tested
    [(!s.isIn w .tripped, .winderState), (s.emergencyLine.get w, .emergencyStop), (!s.restedHere w, .notAtRest)]
    (fun s => (s.changeState w .parked, done))

/-- ACKNOWLEDGE_TRIP (R105). -/
def execAcknowledgeTrip (h : Head) (winder : Nat) (s : State) : Host.Outcome State Fault Refusal :=
  .next (winderRequest s h .acknowledgeTrip 1 winder takeAcknowledge)

/-- RELEASE LOCKOUT taken by the Winder Controller (R106). -/
def takeReleaseLockout (w : Winder) (s : State) : State × (Code × Answer) :=
  s.tested
    [(!s.isIn w .lockout, .winderState), (!s.maintenanceKey, .keyNotActive), (!s.restedHere w, .notAtRest)]
    (fun s => (s.changeState w .parked, done))

/-- RELEASE_LOCKOUT (R106). -/
def execReleaseLockout (h : Head) (winder : Nat) (s : State) : Host.Outcome State Fault Refusal :=
  .next (winderRequest s h .releaseLockout 1 winder takeReleaseLockout)

/-! ## READ WINDER and WRITE REPORT INTERVAL (R96, R111) -/

/-- The answer of READ WINDER (R96). -/
def State.winderAnswer (s : State) (w : Winder) : Answer :=
  .winder (s.winder w) ((s.reports.get w).map (·.brake)) ((s.reports.get w).map (·.drive))

/-- READ_WINDER (R96). -/
def execReadWinder (h : Head) (winder : Nat) (s : State) : Host.Outcome State Fault Refusal :=
  .next (winderRequest s h .readWinder 1 winder (fun w t => (t, doneWith (t.winderAnswer w))))

/-- WRITE REPORT INTERVAL taken by the Winder Controller (R111). -/
def takeWriteReportInterval (interval : Nat) (w : Winder) (s : State) : State × (Code × Answer) :=
  s.tested [(!s.isIn w .parked, .notParked), (!between 20 500 interval, .outOfRange)]
    (fun s => ({ s with work := { s.work with reportInterval := s.work.reportInterval.set w interval } }, done))

/-- WRITE_REPORT_INTERVAL (R111). -/
def execWriteReportInterval (h : Head) (winder interval : Nat) (s : State) : Host.Outcome State Fault Refusal :=
  .next (winderRequest s h .writeReportInterval 3 winder (takeWriteReportInterval interval))

end Sys2Proof.Machine
end

