-- ==== Sys2Proof/Machine/ZoneCommands.lean ====
section
/-! DEFINITION. The commands of the Zone Table (R36, R39 to R43, R49). -/

namespace Sys2Proof.Machine

/-! ## WRITE ZONE and REMOVE ZONE (R39, R40) -/

/-- Whether the kinds of a zone take a cap (R39). -/
def ZoneKind.isCapped : ZoneKind → Bool
  | .slow | .passing => true
  | .work | .overwind | .inspect => false

/-- The cap of an entry: read for SLOW and PASSING, from 100 to 18,000, and held by no other kind; none where it is out of
range (R39). A SLOW or PASSING zone sent with no cap is out of range too (DESIGN CHOICE, log 53). -/
def entryCap (kind : ZoneKind) (cap : Option Nat) : Option (Option Nat) :=
  if kind.isCapped then (cap.filter (between 100 18000)).map some else some none

/-- Whether the depths of an entry are in range and in order (R1, R39, R41). -/
def boundsOk (upper lower : Int) : Bool := depthInRange upper && depthInRange lower && decide (upper < lower)

/-- An entry whose fields are all in range (R39). -/
def readZone (kind mask : Nat) (upper lower : Int) (cap : Option Nat) (label : List Nat) : Option Zone :=
  match zoneKindCode kind, maskCode mask with
  | some k, some m =>
    (entryCap k cap).bind (fun c =>
      if boundsOk upper lower && maskNonEmpty m && labelOk label && (k != .passing || maskHoldsPair m) then
        some ⟨k, m, upper, lower, c, label⟩
      else none)
  | _, _ => none

/-- Whether a number is of the fixed partition (R36). -/
def isFixed (number : Option Nat) : Bool := number.any (fun n => decide (n < 16))

/-- The place that WRITE ZONE fills: the number given, or the lowest free ordinary number (R39). -/
def State.zonePlace (s : State) (number : Option Nat) : Option Nat :=
  match number with
  | some n => some n
  | none => lowestFreeOrdinary s.zones

/-- The tests of WRITE ZONE before those of its fields (R39). -/
def State.writeZoneTests (s : State) (number : Option Nat) (kind : Nat) : List (Bool × Reason) :=
  [(kind == 2, .wrongKind),
   (isFixed number && !s.commissioning, .notCommissioning),
   (!s.bothParked, .notParked),
   (number.any (fun n => s.zoneKind n == some .work), .workZone),
   ((s.zonePlace number).isNone, .tableFull)]

/-- An entry placed at a number, and the zone sets of the old mask and the new rebuilt (R38, R39). -/
def State.placeZone (s : State) (n : Nat) (z : Zone) : State :=
  let mask := match tableGet s.zones n with
    | some old => maskUnion old.mask z.mask
    | none => z.mask
  { s with zones := tablePut s.zones n z }.rebuildForEdit mask

/-- WRITE ZONE taken by the Zone Table (R39). -/
def takeWriteZone (number : Option Nat) (kind mask : Nat) (upper lower : Int) (cap : Option Nat) (label : List Nat)
    (s : State) : State × (Code × Answer) :=
  s.tested (s.writeZoneTests number kind) (fun s =>
    match s.zonePlace number, readZone kind mask upper lower cap label with
    | some n, some z => if n < 64 then (s.placeZone n z, doneWith (.zoneNumber n)) else (s, refuse .outOfRange)
    | _, _ => (s, refuse .outOfRange))

/-- WRITE_ZONE (R39). -/
def execWriteZone (h : Head) (number : Presence Nat) (kind mask : Nat) (upper lower : Int) (cap : Presence Nat)
    (label : List Nat) (s : State) : Host.Outcome State Fault Refusal :=
  .next (request s h .writeZone (optionalSize 1 number + 10 + optionalSize 2 cap + listSize label) none
    (withRead number (fun n => withRead cap (fun c => takeWriteZone n kind mask upper lower c label))))

/-- A number taken off every suppression list (R40, R43, R52). -/
def State.unsuppress (s : State) (n : Nat) : State :=
  let off (p : Position) : Position := { p with suppressed := p.suppressed.filter (fun m => m != n) }
  { s with positions := ⟨off s.positions.cage, off s.positions.counterweight, off s.positions.skip0, off s.positions.skip1⟩ }

/-- An entry freed, and the zone sets of its mask rebuilt (R38, R40, R43). -/
def State.freeZone (s : State) (n : Nat) (z : Zone) : State :=
  ({ s with zones := tableDrop s.zones n }.unsuppress n).rebuildForEdit z.mask

/-- The tests of REMOVE ZONE (R40). -/
def State.removeZoneTests (s : State) (n : Nat) : List (Bool × Reason) :=
  [(decide (64 ≤ n), .outOfRange),
   (isFixed (some n) && !s.commissioning, .notCommissioning),
   (!s.bothParked, .notParked),
   ((s.zoneKind n).isNone, .noSuchZone),
   (s.zoneKind n == some .work, .workZone)]

/-- The entry at a number freed, where there is one. -/
def State.freeAt (s : State) (n : Nat) : State :=
  match tableGet s.zones n with
  | some z => s.freeZone n z
  | none => s

/-- REMOVE_ZONE (R40). -/
def execRemoveZone (h : Head) (number : Nat) (s : State) : Host.Outcome State Fault Refusal :=
  .next (request s h .removeZone 1 none (fun t =>
    t.tested (t.removeZoneTests number) (fun t => (t.freeAt number, done))))

/-! ## ADD WORK ZONE and REMOVE WORK ZONE (R41, R43) -/

/-- Whether a conveyance in the mask of a proposed zone touches it or holds no estimate (R41). -/
def State.zoneTouched (s : State) (z : Zone) (c : Conveyance) : Bool :=
  z.mask.get c && ((s.position c).estimate.isNone || touches c (s.position c) z)

/-- The paths of the trips in both slots of a winder (R41, R45). -/
def State.slotPaths (s : State) (w : Winder) : List Path :=
  ((s.pipe w).active.map s.activePaths).getD [] ++ ((s.pipe w).staged.map (fun t => s.stagedPaths t.legs)).getD []

/-- Whether a proposed zone is occupied: touched, or met by the path of a trip (R41). -/
def State.zoneOccupied (s : State) (z : Zone) : Bool :=
  [Conveyance.cage, .counterweight, .skip0, .skip1].any (s.zoneTouched z) ||
  (s.slotPaths .service ++ s.slotPaths .rock).any z.meetsPath

/-- The entry that ADD WORK ZONE proposes, its fields in range (R41). A label of more than 12 characters or with one that is
not printable, and a mask above 15, fail with R41's first test, which names neither (DESIGN CHOICE, log 19). -/
def readWorkZone (mask : Nat) (upper lower : Int) (label : List Nat) : Option Zone :=
  (maskCode mask).bind (fun m =>
    if boundsOk upper lower && maskNonEmpty m && labelOk label then some ⟨.work, m, upper, lower, none, label⟩ else none)

/-- ADD WORK ZONE taken by the Zone Table (R41, R44). -/
def takeAddWorkZone (mask : Nat) (upper lower : Int) (label : List Nat) (s : State) : State × (Code × Answer) :=
  match readWorkZone mask upper lower label, lowestFreeOrdinary s.zones with
  | none, _ => (s, refuse .outOfRange)
  | some _, none => (s, refuse .tableFull)
  | some z, some n =>
    if s.zoneOccupied z then (s, refuse .zoneOccupied)
    else ((s.placeZone n z).startRecordWrite, doneWith (.zoneNumber n))

/-- ADD_WORK_ZONE (R41). -/
def execAddWorkZone (h : Head) (mask : Nat) (upper lower : Int) (label : List Nat) (s : State) :
    Host.Outcome State Fault Refusal :=
  .next (request s h .addWorkZone (9 + listSize label) none (takeAddWorkZone mask upper lower label))

/-- The tests of REMOVE WORK ZONE (R43). -/
def State.removeWorkTests (s : State) (n : Nat) : List (Bool × Reason) :=
  [(decide (64 ≤ n), .outOfRange),
   ((s.zoneKind n).isNone, .noSuchZone),
   (s.zoneKind n != some .work, .notAWorkZone)]

/-- REMOVE WORK ZONE taken by the Zone Table (R43). -/
def takeRemoveWorkZone (n : Nat) (s : State) : State × (Code × Answer) :=
  s.tested (s.removeWorkTests n) (fun s => ((s.freeAt n).releaseHeldWork.startRecordWrite.settleBoth, done))

/-- REMOVE_WORK_ZONE (R43). -/
def execRemoveWorkZone (h : Head) (number : Nat) (s : State) : Host.Outcome State Fault Refusal :=
  .next (request s h .removeWorkZone 1 none (takeRemoveWorkZone number))

/-! ## READ ZONE and READ CAP (R36, R49) -/

/-- The answer of READ ZONE (R36). -/
def State.zoneAnswer (s : State) (n : Nat) : Code × Answer :=
  if n < 64 then doneWith (.zone ((tableGet s.zones n).map (fun z => (n, z)))) else refuse .outOfRange

/-- READ_ZONE (R36). -/
def execReadZone (h : Head) (number : Nat) (s : State) : Host.Outcome State Fault Refusal :=
  .next (readRequest s h .readZone 1 none (fun t => t.zoneAnswer number))

/-- The answer of READ CAP: the cap, and in RUNNING the distance and approach limit of R48 (R49). -/
def State.capAnswer (s : State) (w : Winder) : Answer :=
  .cap (s.caps.get w)
    (if s.isIn w .running then (s.activeLeg w).map (fun l => (s.toGo l, s.approachLimit l)) else none)

/-- READ_CAP (R49). -/
def execReadCap (h : Head) (winder : Nat) (s : State) : Host.Outcome State Fault Refusal :=
  .next (winderRequest s h .readCap 1 winder (fun w t => (t, doneWith (t.capAnswer w))))

end Sys2Proof.Machine
end

