-- ==== Sys2Proof/Machine/Arrivals.lean ====
section
/-! DEFINITION. DAMAGED_FRAME: the bytes received at a port, with what each frame they end in brings about, a damaged one or a whole one passed on (R162, R165, R166; log 26). -/

namespace Sys2Proof.Machine

/-- The frame of a command that is one, taken as its own row takes it; no frame is any other command. -/
def execFrame (i : Instr) (s : State) : Host.Outcome State Fault Refusal :=
  match i with
  | .strayReplyFrame link kind tag => execStrayReplyFrame link kind tag s
  | .unlistedKindRequest link kind tag => execUnlistedKindRequest link kind tag s
  | .call h station cls decks riders payload priority => execCall h station cls decks riders payload priority s
  | .openCall h station cls => execOpenCall h station cls s
  | .addDeck h deck => execAddDeck h deck s
  | .closeCall h riders payload => execCloseCall h riders payload s
  | .cancelCall h winder id => execCancelCall h winder id s
  | .queryCall h winder id => execQueryCall h winder id s
  | .ready h trip leg => execReady h trip leg s
  | .grantReply w tag code => execGrantReply w tag code s
  | .grantVoidReply w tag code => execGrantVoidReply w tag code s
  | .noticeReply w notice tag code => execNoticeReply w notice tag code s
  | .clutchReply w order tag code => execClutchReply w order tag code s
  | .stop h winder => execStop h winder s
  | .barStation h station => execBarStation h station s
  | .queryBar h station => execQueryBar h station s
  | .clearBars h => execClearBars h s
  | .addWorkZone h mask upper lower label => execAddWorkZone h mask upper lower label s
  | .removeWorkZone h number => execRemoveWorkZone h number s
  | .tripStatus h winder => execTripStatus h winder s
  | .cycle h rising => execCycle h rising s
  | .loaded h skip mass => execLoaded h skip mass s
  | .tipped h skip => execTipped h skip s
  | .querySkip h skip => execQuerySkip h skip s
  | .release h winder => execRelease h winder s
  | .hold h winder => execHold h winder s
  | .clearHeld h winder => execClearHeld h winder s
  | .winderReset h winder => execWinderReset h winder s
  | .setMode h winder mode => execSetMode h winder mode s
  | .acknowledgeTrip h winder => execAcknowledgeTrip h winder s
  | .releaseLockout h winder => execReleaseLockout h winder s
  | .readWinder h winder => execReadWinder h winder s
  | .manualTrip h body => execManualTrip h body s
  | .inspectTrip h conveyance target => execInspectTrip h conveyance target s
  | .readQueue h winder first => execReadQueue h winder first s
  | .writeZone h number kind mask upper lower cap label => execWriteZone h number kind mask upper lower cap label s
  | .removeZone h number => execRemoveZone h number s
  | .readZone h number => execReadZone h number s
  | .readCap h winder => execReadCap h winder s
  | .writeGeometry h pitch span => execWriteGeometry h pitch span s
  | .readGeometry h => execReadGeometry h s
  | .writeStation h station depth window decks inService => execWriteStation h station depth window decks inService s
  | .readStation h station => execReadStation h station s
  | .writeRockPoint h point depth window => execWriteRockPoint h point depth window s
  | .readRockPoint h point => execReadRockPoint h point s
  | .writeClass h cls speed decel limit => execWriteClass h cls speed decel limit s
  | .readClass h cls => execReadClass h cls s
  | .writeTracking h settings => execWriteTracking h settings s
  | .readTracking h => execReadTracking h s
  | .writeDrumScale h drum scale => execWriteDrumScale h drum scale s
  | .setReference h drum depth => execSetReference h drum depth s
  | .restartTracking h winder => execRestartTracking h winder s
  | .writeMarker h id compartment depth accuracy => execWriteMarker h id compartment depth accuracy s
  | .removeMarker h id => execRemoveMarker h id s
  | .readMarker h id => execReadMarker h id s
  | .readPosition h first => execReadPosition h first s
  | .writeOfferLimit h winder limit => execWriteOfferLimit h winder limit s
  | .writeReportInterval h winder interval => execWriteReportInterval h winder interval s
  | .writeSettle h winder base cap => execWriteSettle h winder base cap s
  | .readSettle h winder => execReadSettle h winder s
  | .rePair h pocket free => execRePair h pocket free s
  | .setSkipContents h skip contents mass => execSetSkipContents h skip contents mass s
  | .writePayload h tolerance action => execWritePayload h tolerance action s
  | .readPayload h => execReadPayload h s
  | .writeEnvelope h winder hysteresis mode under margin => execWriteEnvelope h winder hysteresis mode under margin s
  | .readEnvelope h winder => execReadEnvelope h winder s
  | .clearIndications h winder => execClearIndications h winder s
  | .setEnvelopeLock h winder => execSetEnvelopeLock h winder s
  | .setTripLock h winder => execSetTripLock h winder s
  | .stopMonitor h winder => execStopMonitor h winder s
  | .startMonitor h winder => execStartMonitor h winder s
  | .readFaults h first => execReadFaults h first s
  | .clearFaults h => execClearFaults h s
  | .readCounters h => execReadCounters h s
  | .clearCounters h => execClearCounters h s
  | .commit h => execCommit h s
  | .identify h => execIdentify h s
  | .positionReport h body => execPositionReport h body s
  | .legComplete h trip leg => execLegComplete h trip leg s
  | .driveFault h code => execDriveFault h code s
  | .powerOn | .emergencyStopAsserted _ | .emergencyStopCleared _ | .maintenanceKeyChange _
  | .commissioningInputChange _ | .markerPass _ _ | .damagedFrame _ _ | .assemblyTimeout | .endedCallExpiry _ _
  | .grantReplyTimeout _ _ | .backoffEnd _ | .requestReplyTimeout _ _ _ | .stopNotAchieved _
  | .shaftWorkRecordWriteEnd _ | .snapshotExpiry | .commitWriteEnd _ | .driveReportTimeout _ | .settleExpiry _
  | .clutchTimerExpiry | .underTimerExpiry _ | .tripOvertime _ => .next s

/-- A frame that has just ended at a port: a damaged one is counted (R162, R165), and a whole one is passed on, its replies and
requests going out after those already sent in this event (R166). -/
def State.takeReceived (s : State) (l : Link) (x : Received) : State :=
  match x with
  | .nothing => s
  | .damaged => s.countFrameErrors l 1
  | .frame bytes =>
    match execFrame (readFrame l bytes) s with
    | .next t => { t with sent := s.sent ++ t.sent }
    | .fault _ | .refused _ => s

/-- Bytes run through a port's reception: the frames that end in them are taken in order, the port hunting after each, and the
port is left as the last byte leaves it (R164, R165). -/
def State.takeBytes (s : State) (l : Link) (bytes : List RxByte) : State :=
  let p := s.ports.get l
  let r := receiveBytes p.reception (p.hear s.now bytes)
  let t := r.2.foldl (fun s x => s.takeReceived l x) { s with ports := s.ports.set l ⟨.hunting, s.now⟩ }
  { t with ports := t.ports.set l ⟨r.1, p.lastAfter t.now bytes⟩ }

/-- DAMAGED_FRAME (R165). -/
def execDamagedFrame (link : Link) (bytes : List RxByte) (s : State) : Host.Outcome State Fault Refusal :=
  .next (s.begin.takeBytes link bytes)

end Sys2Proof.Machine
end

