-- ==== Sys2Proof/Machine/Lines.lean ====
section
/-! DEFINITION. The commands of start-up, the input lines and the readers: POWER_ON to MARKER_PASS. -/

namespace Sys2Proof.Machine

/-- POWER_ON: the start-up sequence (R179). -/
def execPowerOn (s : State) : Host.Outcome State Fault Refusal := .next s.startUp

/-- A line that changes from clear to asserted is taken as an assertion; one that stays asserted is not (R107). -/
def State.lineAsserted (s : State) (w : Winder) : State :=
  if s.emergencyLine.get w then s
  else { s with emergencyLine := s.emergencyLine.set w true }.emergencyStop w

/-- EMERGENCY_STOP_ASSERTED (R107). -/
def execEmergencyStopAsserted (w : Winder) (s : State) : Host.Outcome State Fault Refusal :=
  .next (s.begin.lineAsserted w)

/-- EMERGENCY_STOP_CLEARED: no state changes and no fault is raised (R107). -/
def execEmergencyStopCleared (w : Winder) (s : State) : Host.Outcome State Fault Refusal :=
  .next { s.begin with emergencyLine := s.emergencyLine.set w false }

/-- MAINTENANCE_KEY_CHANGE: only RELEASE LOCKOUT reads the key (R106). -/
def execMaintenanceKeyChange (active : Bool) (s : State) : Host.Outcome State Fault Refusal :=
  .next { s.begin with maintenanceKey := active }

/-- COMMISSIONING_INPUT_CHANGE: the mode stays as it was sampled at power-on (R181). -/
def execCommissioningInputChange (active : Bool) (s : State) : Host.Outcome State Fault Refusal :=
  .next { s.begin with commissioningLine := active }

/-- MARKER_PASS (R25, R26). -/
def execMarkerPass (reader : Conveyance) (code : Nat) (s : State) : Host.Outcome State Fault Refusal :=
  .next (s.begin.takePass reader code)

end Sys2Proof.Machine
end

