-- ==== Sys2Proof/Machine/Dispatch.lean ====
section
/-! DEFINITION. The dispatch: one arm per command, each one call of its meaning. -/

namespace Sys2Proof.Machine

/-- A command's effect on everything but the queue. -/
def exec (i : Instr) (s : State) : Host.Outcome State Fault Refusal :=
  match i with
  | .powerOn => Sys2Proof.Machine.execPowerOn s
  | .emergencyStopAsserted w => Sys2Proof.Machine.execEmergencyStopAsserted w s
  | .emergencyStopCleared w => Sys2Proof.Machine.execEmergencyStopCleared w s
  | .maintenanceKeyChange active => Sys2Proof.Machine.execMaintenanceKeyChange active s
  | .commissioningInputChange active => Sys2Proof.Machine.execCommissioningInputChange active s
  | .markerPass reader code => Sys2Proof.Machine.execMarkerPass reader code s
  | .damagedFrame link bytes => Sys2Proof.Machine.execDamagedFrame link bytes s
  | .strayReplyFrame link kind tag => Sys2Proof.Machine.execStrayReplyFrame link kind tag s
  | .unlistedKindRequest link kind tag => Sys2Proof.Machine.execUnlistedKindRequest link kind tag s
  | .call h station cls decks riders payload priority => Sys2Proof.Machine.execCall h station cls decks riders payload priority s
  | .openCall h station cls => Sys2Proof.Machine.execOpenCall h station cls s
  | .addDeck h deck => Sys2Proof.Machine.execAddDeck h deck s
  | .closeCall h riders payload => Sys2Proof.Machine.execCloseCall h riders payload s
  | .assemblyTimeout => Sys2Proof.Machine.execAssemblyTimeout s
  | .cancelCall h winder id => Sys2Proof.Machine.execCancelCall h winder id s
  | .queryCall h winder id => Sys2Proof.Machine.execQueryCall h winder id s
  | .endedCallExpiry w id => Sys2Proof.Machine.execEndedCallExpiry w id s
  | .ready h trip leg => Sys2Proof.Machine.execReady h trip leg s
  | .grantReply w tag code => Sys2Proof.Machine.execGrantReply w tag code s
  | .grantReplyTimeout w tag => Sys2Proof.Machine.execGrantReplyTimeout w tag s
  | .backoffEnd w => Sys2Proof.Machine.execBackoffEnd w s
  | .grantVoidReply w tag code => Sys2Proof.Machine.execGrantVoidReply w tag code s
  | .noticeReply w notice tag code => Sys2Proof.Machine.execNoticeReply w notice tag code s
  | .clutchReply w order tag code => Sys2Proof.Machine.execClutchReply w order tag code s
  | .requestReplyTimeout w kind tag => Sys2Proof.Machine.execRequestReplyTimeout w kind tag s
  | .stop h winder => Sys2Proof.Machine.execStop h winder s
  | .stopNotAchieved w => Sys2Proof.Machine.execStopNotAchieved w s
  | .barStation h station => Sys2Proof.Machine.execBarStation h station s
  | .shaftWorkRecordWriteEnd checkHolds => Sys2Proof.Machine.execShaftWorkRecordWriteEnd checkHolds s
  | .queryBar h station => Sys2Proof.Machine.execQueryBar h station s
  | .clearBars h => Sys2Proof.Machine.execClearBars h s
  | .addWorkZone h mask upper lower label => Sys2Proof.Machine.execAddWorkZone h mask upper lower label s
  | .removeWorkZone h number => Sys2Proof.Machine.execRemoveWorkZone h number s
  | .tripStatus h winder => Sys2Proof.Machine.execTripStatus h winder s
  | .cycle h rising => Sys2Proof.Machine.execCycle h rising s
  | .loaded h skip mass => Sys2Proof.Machine.execLoaded h skip mass s
  | .tipped h skip => Sys2Proof.Machine.execTipped h skip s
  | .querySkip h skip => Sys2Proof.Machine.execQuerySkip h skip s
  | .release h winder => Sys2Proof.Machine.execRelease h winder s
  | .hold h winder => Sys2Proof.Machine.execHold h winder s
  | .clearHeld h winder => Sys2Proof.Machine.execClearHeld h winder s
  | .winderReset h winder => Sys2Proof.Machine.execWinderReset h winder s
  | .setMode h winder mode => Sys2Proof.Machine.execSetMode h winder mode s
  | .acknowledgeTrip h winder => Sys2Proof.Machine.execAcknowledgeTrip h winder s
  | .releaseLockout h winder => Sys2Proof.Machine.execReleaseLockout h winder s
  | .readWinder h winder => Sys2Proof.Machine.execReadWinder h winder s
  | .manualTrip h body => Sys2Proof.Machine.execManualTrip h body s
  | .inspectTrip h conveyance target => Sys2Proof.Machine.execInspectTrip h conveyance target s
  | .readQueue h winder first => Sys2Proof.Machine.execReadQueue h winder first s
  | .snapshotExpiry => Sys2Proof.Machine.execSnapshotExpiry s
  | .writeZone h number kind mask upper lower cap label => Sys2Proof.Machine.execWriteZone h number kind mask upper lower cap label s
  | .removeZone h number => Sys2Proof.Machine.execRemoveZone h number s
  | .readZone h number => Sys2Proof.Machine.execReadZone h number s
  | .readCap h winder => Sys2Proof.Machine.execReadCap h winder s
  | .writeGeometry h pitch span => Sys2Proof.Machine.execWriteGeometry h pitch span s
  | .readGeometry h => Sys2Proof.Machine.execReadGeometry h s
  | .writeStation h station depth window decks inService => Sys2Proof.Machine.execWriteStation h station depth window decks inService s
  | .readStation h station => Sys2Proof.Machine.execReadStation h station s
  | .writeRockPoint h point depth window => Sys2Proof.Machine.execWriteRockPoint h point depth window s
  | .readRockPoint h point => Sys2Proof.Machine.execReadRockPoint h point s
  | .writeClass h cls speed decel limit => Sys2Proof.Machine.execWriteClass h cls speed decel limit s
  | .readClass h cls => Sys2Proof.Machine.execReadClass h cls s
  | .writeTracking h settings => Sys2Proof.Machine.execWriteTracking h settings s
  | .readTracking h => Sys2Proof.Machine.execReadTracking h s
  | .writeDrumScale h drum scale => Sys2Proof.Machine.execWriteDrumScale h drum scale s
  | .setReference h drum depth => Sys2Proof.Machine.execSetReference h drum depth s
  | .restartTracking h winder => Sys2Proof.Machine.execRestartTracking h winder s
  | .writeMarker h id compartment depth accuracy => Sys2Proof.Machine.execWriteMarker h id compartment depth accuracy s
  | .removeMarker h id => Sys2Proof.Machine.execRemoveMarker h id s
  | .readMarker h id => Sys2Proof.Machine.execReadMarker h id s
  | .readPosition h first => Sys2Proof.Machine.execReadPosition h first s
  | .writeOfferLimit h winder limit => Sys2Proof.Machine.execWriteOfferLimit h winder limit s
  | .writeReportInterval h winder interval => Sys2Proof.Machine.execWriteReportInterval h winder interval s
  | .writeSettle h winder base cap => Sys2Proof.Machine.execWriteSettle h winder base cap s
  | .readSettle h winder => Sys2Proof.Machine.execReadSettle h winder s
  | .rePair h pocket free => Sys2Proof.Machine.execRePair h pocket free s
  | .setSkipContents h skip contents mass => Sys2Proof.Machine.execSetSkipContents h skip contents mass s
  | .writePayload h tolerance action => Sys2Proof.Machine.execWritePayload h tolerance action s
  | .readPayload h => Sys2Proof.Machine.execReadPayload h s
  | .writeEnvelope h winder hysteresis mode under margin => Sys2Proof.Machine.execWriteEnvelope h winder hysteresis mode under margin s
  | .readEnvelope h winder => Sys2Proof.Machine.execReadEnvelope h winder s
  | .clearIndications h winder => Sys2Proof.Machine.execClearIndications h winder s
  | .setEnvelopeLock h winder => Sys2Proof.Machine.execSetEnvelopeLock h winder s
  | .setTripLock h winder => Sys2Proof.Machine.execSetTripLock h winder s
  | .stopMonitor h winder => Sys2Proof.Machine.execStopMonitor h winder s
  | .startMonitor h winder => Sys2Proof.Machine.execStartMonitor h winder s
  | .readFaults h first => Sys2Proof.Machine.execReadFaults h first s
  | .clearFaults h => Sys2Proof.Machine.execClearFaults h s
  | .readCounters h => Sys2Proof.Machine.execReadCounters h s
  | .clearCounters h => Sys2Proof.Machine.execClearCounters h s
  | .commit h => Sys2Proof.Machine.execCommit h s
  | .commitWriteEnd checkHolds => Sys2Proof.Machine.execCommitWriteEnd checkHolds s
  | .identify h => Sys2Proof.Machine.execIdentify h s
  | .positionReport h body => Sys2Proof.Machine.execPositionReport h body s
  | .driveReportTimeout w => Sys2Proof.Machine.execDriveReportTimeout w s
  | .legComplete h trip leg => Sys2Proof.Machine.execLegComplete h trip leg s
  | .driveFault h code => Sys2Proof.Machine.execDriveFault h code s
  | .settleExpiry w => Sys2Proof.Machine.execSettleExpiry w s
  | .clutchTimerExpiry => Sys2Proof.Machine.execClutchTimerExpiry s
  | .underTimerExpiry w => Sys2Proof.Machine.execUnderTimerExpiry w s
  | .tripOvertime w => Sys2Proof.Machine.execTripOvertime w s

end Sys2Proof.Machine
end

