-- ==== Sys2Proof/Machine/Ticks.lean ====
section
/-! DEFINITION. What a millisecond of the time base does when no command waits: the time base and the motion times rise, and each timer that is due puts its expiry command in the queue (R2, R92; logs 1, 2 and 6). -/

namespace Sys2Proof.Machine

/-- The states in which motion time rises (R92). -/
def WinderState.countsMotion : WinderState → Bool
  | .running | .settling | .stopping => true
  | .parked | .idle | .dwelling | .clutching | .tripped | .lockout => false

/-- A millisecond of motion time for the active trip of a winder (R92). -/
def State.countMotion (s : State) (w : Winder) : State :=
  if (s.winder w).state.countsMotion then
    s.withPipe w (fun p => { p with active := p.active.map (fun t => { t with motionTime := t.motionTime + 1 }) })
  else s

/-- A command where it is due. -/
def whenDue (due : Bool) (c : Instr) : List Instr := if due then [c] else []

/-- The timeout command of an awaited reply (R170). -/
def replyTimeout (w : Winder) (a : Awaited) : Instr :=
  if a.kind = .grant then .grantReplyTimeout w a.tag else .requestReplyTimeout w a.kind a.tag

/-- The timeouts of a winder's drive link that are due, in the order of the awaited list. -/
def State.dueReplies (s : State) (w : Winder) : List Instr :=
  ((s.drives.get w).awaited.filter (fun a => reached s.now a.expiry)).map (replyTimeout w)

/-- The expiries of a winder's ended-call list that are due. -/
def State.dueEnded (s : State) (w : Winder) : List Instr :=
  ((s.ended.get w).filter (endedDue s.now)).map (fun e => .endedCallExpiry w e.id)

/-- The expiry commands of a winder that are due. -/
def State.dueOf (s : State) (w : Winder) : List Instr :=
  s.dueReplies w ++ s.dueEnded w ++ whenDue (s.backoffDue w) (.backoffEnd w) ++ whenDue (s.settleDue w) (.settleExpiry w) ++
  whenDue (s.underDue w) (.underTimerExpiry w) ++ whenDue (s.stopOverdue w) (.stopNotAchieved w) ++
  whenDue (s.overtime w) (.tripOvertime w) ++ whenDue (s.silentDue w) (.driveReportTimeout w)

/-- The expiry commands that are due. -/
def State.dueCommands (s : State) : List Instr :=
  whenDue (s.commit.any (fun c => reached s.now c.deadline)) (.commitWriteEnd (Config.storeCheck s.draws)) ++
  whenDue (s.recordWrite.any (fun c => reached s.now c.deadline))
    (.shaftWorkRecordWriteEnd (Config.storeCheck (s.draws + 1))) ++
  whenDue s.assemblyDue .assemblyTimeout ++ whenDue s.snapshotDue .snapshotExpiry ++
  whenDue s.clutchDue .clutchTimerExpiry ++ s.dueOf .service ++ s.dueOf .rock

/-- A millisecond with no command waiting; two free values are set aside for the store checks (logs 1, 6 and 7). -/
def State.tick (s : State) : State :=
  let t := (({ s.begin with now := s.now + 1 }.countMotion .service).countMotion .rock)
  { t with pending := t.dueCommands, draws := t.draws + 2 }

end Sys2Proof.Machine
end

