-- ==== Sys2Proof/Safety.lean ====
section
/-! DEFINITION. The terms in which claims about the part are stated: how a request reaches its block and is answered, what agrees with a winder's state, and the bounds and orders that the tables and settings keep. -/

namespace Sys2Proof.Machine

/-! ## Requests -/

/-- The state in which a request reaches its block: its frame taken, an open assembly abandoned and the page snapshot
dropped where R68 and R171 say so. -/
def State.heard (s : State) (h : Head) (k : Kind) : State := (s.takeRequest h k).dropSnapshot h.link

/-- Whether the arrival of a request abandons an open assembly (R68). -/
def State.abandoning (s : State) (h : Head) (k : Kind) : Bool := abandons s h.link (k == .addDeck || k == .closeCall)

/-- A request of a kind passes every test of the screen (R167). -/
def State.admits (s : State) (h : Head) (k : Kind) (length : Nat) (winder : Option Nat) : Prop :=
  screen (s.heard h k) h k length winder = none

/-- The state `t` that a request's block leaves, once the request that `s` received has been answered; the reply's flag says
whether the request abandoned an assembly, on its arrival or, WINDER RESET, in its block (R68, R169). -/
def State.answering (s t : State) (h : Head) (k : Kind) (r : Code × Answer) : State :=
  t.reply h (kindNumber k) (s.abandoning h k || blockAbandons k s t) r

/-- The reply frame to a request, other than WINDER RESET, that `s` received. -/
def State.replyTo (s : State) (h : Head) (k : Kind) (r : Code × Answer) : Sent :=
  .reply h.link (kindNumber k + 128) h.tag ⟨r.1, s.abandoning h k, r.2⟩

/-- A request completes: its block leaves `t` and the request is answered `r`. -/
def State.Answers (s : State) (c : Instr) (h : Head) (k : Kind) (t : State) (r : Code × Answer) : Prop :=
  exec c s = .next (s.answering t h k r)

/-- A request that only reads completes: everything is as the request found it, and it is answered `r`. -/
def State.Reads (s : State) (c : Instr) (h : Head) (k : Kind) (r : Code × Answer) : Prop :=
  s.Answers c h k (s.heard h k) r

/-- The part of a fresh read held for its later pages, where items remain (R171). -/
def State.restOfRead (s : State) (kind : ReadKind) (whole : List PageItem × PageCommon) : Option Snapshot :=
  if (pageItems whole.2 whole.1 1).length < whole.1.length then some ⟨kind, whole.2, whole.1, s.now⟩ else none

/-- The part of a read still held once the page from item `first` is sent (R171). -/
def Snapshot.restAfter (x : Snapshot) (first : Nat) : Option Snapshot :=
  if first - 1 + (pageItems x.common x.items first).length < x.items.length then some x else none

/-- A value coded by its place in the table that lists its set, counting from 0 (R174). -/
def placeIn {α : Type} [BEq α] (table : List α) (a : α) : List Byte := u8 (table.idxOf a)

/-- Tests made in order: the first that holds gives its refusal `no`, and where none holds the request is taken. -/
def TestsInOrder (no : Reason → Prop) : List (Prop × Reason) → Prop → Prop
  | [], taken => taken
  | (holds, r) :: rest, taken => (holds → no r) ∧ (¬holds → TestsInOrder no rest taken)

/-- The state once a reply frame has arrived on a drive link and the awaited request of its kind and tag has gone. -/
def State.replyMatched (s : State) (w : Winder) (k : Kind) (tag : Nat) : State :=
  { s with
    sent := []
    frameErrors := s.frameErrors.set (driveLink w) (saturate (s.frameErrors.get (driveLink w) +
      (if (s.ports.get (driveLink w)).reception = .hunting then 0 else 1)))
    ports := s.ports.set (driveLink w) ⟨.hunting, s.now⟩
    drives := s.drives.set w
      { s.drives.get w with awaited := (s.drives.get w).awaited.filter (fun a => !(a.kind == k && a.tag == tag)) } }

/-- The reply that the screen gives to a request that it turns away, and none where the request passes (R167). -/
def State.turnedAway (s : State) (h : Head) (k : Kind) (length : Nat) (winder : Option Nat) : Option Code :=
  if kindListed k h.link = false then some (.refused .notForThisLink)
  else if h.length ≠ length then some (.refused .malformed)
  else if (h.link = .signal ∧ winder = some 1) ∨ (h.link = .ore ∧ winder = some 0) then some (.refused .notForThisLink)
  else if s.commit ≠ none ∧ h.link = .console ∧ k ≠ .identify ∧ k ≠ .tripStatus ∧ k ≠ .readPosition then some .busy
  else if s.recordWrite ≠ none ∧ (k = .addWorkZone ∨ k = .removeWorkZone ∨ k = .barStation ∨ k = .clearBars) then
    some .busy
  else none

/-- A command completes in a state that `post` holds of. -/
def Completes (c : Instr) (s : State) (post : State → Prop) : Prop := ∃ t, exec c s = .next t ∧ post t

/-- A staged rock cycle with this rising skip is ready: the four parts of R133 hold, and the cycle before it has ended (log 54). -/
def State.ReadyToRise (s : State) (k : Skip) : Prop :=
  (∃ p m, s.pairing = .paired p ∧ s.clutch = some .closed ∧ (s.skips.get k).contents = .loaded m ∧
    s.standsAt k p.point = true ∧ (s.skips.get k.other).contents = .empty ∧ s.standsAt k.other .tip = true) ∧
  ∀ a, (s.pipe .rock).active = some a → a.isRockCycle = false

/-- Between `s` and `t` the staged trip of a winder has been withdrawn: its call stands at the head of the queue, Waiting, or
Held-pairing for a cycle while the skips are Unpaired, in place of an entry that asks the same; a trip without a call has been
discarded WITHDRAWN, and with nothing staged the queue is as it was (R62, R87, R90). -/
def State.Withdrawn (s t : State) (w : Winder) : Prop :=
  let q := s.queues.get w
  (t.pipe w).staged = none ∧
  ((s.pipe w).staged = none → t.queues.get w = q) ∧
  (∀ x, (s.pipe w).staged = some x → x.source = none →
    t.queues.get w = q ∧ (t.pipe w).latest = some ⟨x.number, .withdrawn⟩) ∧
  (∀ x c, (s.pipe w).staged = some x → x.source = some c →
    ∃ back, (∀ k, c.work = .cycle k → s.pairing = .unpaired → back = .heldPairing) ∧
      ((∀ k, c.work = .cycle k → s.pairing ≠ .unpaired) → back = .waiting) ∧
      ((∀ y ∈ q, y.work.merges c.work = false) → t.queues.get w = { c with state := back } :: q) ∧
      ∀ e, q.find? (fun y => y.work.merges c.work) = some e →
        t.queues.get w = { c with state := back, priority := c.priority || e.priority } :: q.filter (fun y => y.id != e.id) ∧
        ∃ rest, t.ended.get w = rest ++ [⟨e.id, s.now, .absorbed c.id⟩])

/-- A comparison of a winder's speed and cap now would raise no OVERSPEED: its monitor is stopped, or the CRITICAL condition
does not hold (R143, R145). -/
def State.belowCritical (s : State) (w : Winder) : Bool :=
  !(s.monitor w).running || !criticalHolds (s.winderSpeed w) (s.capOf w).speed (s.work.envelope.get w).margin

/-! ## Timers -/

/-- The time without a report that the drive report timeout measures: since the latest report, or since power-on before the
first; in RUNNING and STOPPING no longer than since the entry to that state (R111). -/
def State.Silence (s : State) (w : Winder) : Nat :=
  let since := (s.now - ((s.reports.get w).map (·.at_)).getD 0).toNat
  if (s.winder w).state = .running ∨ (s.winder w).state = .stopping then min since (s.now - (s.winder w).enteredAt).toNat
  else since

/-- A command is the expiry of a timer that is due at the present reading; no other command is due. -/
def State.IsDue (s : State) (c : Instr) : Prop :=
  match c with
  | .commitWriteEnd b => b = Config.storeCheck s.draws ∧ ∃ x, s.commit = some x ∧ reached s.now x.deadline = true
  | .shaftWorkRecordWriteEnd b =>
    b = Config.storeCheck (s.draws + 1) ∧ ∃ x, s.recordWrite = some x ∧ reached s.now x.deadline = true
  | .assemblyTimeout => ∃ a, s.assembly = some a ∧ 20000 ≤ (s.now - a.openedAt).toNat
  | .snapshotExpiry => ∃ x, s.snapshot = some x ∧ 2000 ≤ (s.now - x.formedAt).toNat
  | .clutchTimerExpiry => ∃ e, s.clutchTimer = some e ∧ reached s.now e = true
  | .grantReplyTimeout w tag =>
    ∃ a ∈ (s.drives.get w).awaited, a.kind = .grant ∧ a.tag = tag ∧ reached s.now a.expiry = true
  | .requestReplyTimeout w k tag =>
    k ≠ .grant ∧ ∃ a ∈ (s.drives.get w).awaited, a.kind = k ∧ a.tag = tag ∧ reached s.now a.expiry = true
  | .endedCallExpiry w id => ∃ e ∈ s.ended.get w, e.id = id ∧ 60000 ≤ (s.now - e.at_).toNat
  | .backoffEnd w => ∃ e, (s.pipe w).offer = some (.backoff e) ∧ reached s.now e = true
  | .settleExpiry w => ∃ x, (s.pipe w).settle = some x ∧ reached s.now x.expiry = true
  | .underTimerExpiry w => ∃ e, (s.monitor w).underTimer = some e ∧ reached s.now e = true
  | .stopNotAchieved w =>
    (s.winder w).state = .stopping ∧ ∃ x, (s.winder w).stopStarted = some x ∧ 30000 ≤ (s.now - x).toNat
  | .tripOvertime w => ∃ t, (s.pipe w).active = some t ∧ (s.work.classes.get t.cls).limit * 1000 < t.motionTime
  | .driveReportTimeout w =>
    if (s.winder w).state = .running ∨ (s.winder w).state = .stopping then
      (s.winder w).silent ≠ .tripRaised ∧ s.work.reportInterval.get w ≤ s.Silence w
    else (s.winder w).silent = .clear ∧ 1000 ≤ s.Silence w
  | _ => False

/-! ## Agreement with the state of a winder -/

/-- The permit is asserted exactly in RUNNING and STOPPING, and the brake demand exactly in TRIPPED and LOCKOUT (R97). -/
def WinderRecord.outputsAgree (r : WinderRecord) : Bool :=
  r.permit == r.state.isMotion && r.brakeDemand == r.state.demandsBrake

/-- The outputs of both winders agree with their states (R97). -/
def State.outputsAgree (s : State) : Bool := (s.winder .service).outputsAgree && (s.winder .rock).outputsAgree

/-- The fields that a state gives meaning to are clear outside it, and a winder in Recovery is in Inspection mode
(R96, R109, R113). -/
def WinderRecord.fieldsAgree (r : WinderRecord) : Bool :=
  (r.state == .stopping || (r.stopCause.isNone && r.stopStarted.isNone)) && (r.state == .clutching || !r.stopPending) &&
  (r.state.isMotion || r.slowCap.isNone) && (!r.recovery || r.mode == .inspection)

/-- The fields of both winder records agree with their states. -/
def State.fieldsAgree (s : State) : Bool := (s.winder .service).fieldsAgree && (s.winder .rock).fieldsAgree

/-- The states in which the active slot is occupied (R76). -/
def WinderState.holdsActive : WinderState → Bool
  | .running | .settling | .dwelling | .stopping | .clutching => true
  | .parked | .idle | .tripped | .lockout => false

/-- The slots of a winder agree with its state: the active slot is occupied in RUNNING, SETTLING, DWELLING, STOPPING and
CLUTCHING and in no other state, and the staged slot is empty outside IDLE, RUNNING, SETTLING and DWELLING (R76). No trip is
staged while a hold is pending (R100), an offer in progress has its trip in a slot (R83), and a re-pair is never staged (R76). -/
def State.slotsAgree (s : State) (w : Winder) : Bool :=
  let r := s.winder w
  let p := s.pipe w
  p.active.isSome == r.state.holdsActive && (p.staged.isNone || r.state.stages) && (p.staged.isNone || !r.holdPending) &&
  (p.offer.isNone || p.active.isSome || p.staged.isSome) && p.staged.all (fun t => t.kind != .rePair)

/-- A re-pair is active on the rock winder alone, with its staged slot empty and the skips Unpaired (R76, R138). -/
def State.rePairAgrees (s : State) : Bool :=
  (s.pipe .service).active.all (fun t => t.kind != .rePair) &&
  (s.pipe .rock).active.all (fun t => t.kind != .rePair || ((s.pipe .rock).staged.isNone && s.pairing == .unpaired))

/-- A call of the kind that a winder serves: cage calls the service winder, rock cycles the rock winder (R55). -/
def Call.isOf (c : Call) (w : Winder) : Bool :=
  match c.work with
  | .cage _ _ _ _ _ => w == .service
  | .cycle _ => w == .rock

/-- The queue of a winder and its staged trip hold calls of the kind that it serves, and no trip of the service winder is a
rock cycle (R55, R74). -/
def State.callsAgree (s : State) (w : Winder) : Bool :=
  let p := s.pipe w
  (s.queues.get w).all (·.isOf w) && p.staged.all (fun t => t.source.all (·.isOf w)) &&
  (w == .rock || (p.staged.all (fun t => !t.isRockCycle) && p.active.all (fun t => !t.isRockCycle)))

/-- The slots of both winders agree with their states, and hold trips of the winders' own kinds (R76). -/
def State.tripsAgree (s : State) : Bool :=
  s.slotsAgree .service && s.slotsAgree .rock && s.rePairAgrees && s.callsAgree .service && s.callsAgree .rock

/-! ## Bounds -/

/-- The bounds of the Fault Recorder: at most 16 entries, and an overflow count of at most 255 (R155). -/
def State.faultsBounded (s : State) : Bool := decide (s.faults.length ≤ 16 ∧ s.overflow ≤ 255)

/-- The bounds of the ended-call lists: at most 16 entries each (R64). -/
def State.endedBounded (s : State) : Bool :=
  decide ((s.ended.get .service).length ≤ 16) && decide ((s.ended.get .rock).length ≤ 16)

/-- The bounds of the queues: with the occupancy of the staged slot, at most 24 entries for the service winder and 4 for the
rock winder (R59). -/
def State.queuesBounded (s : State) : Bool :=
  decide (s.admissionCount .service ≤ 24) && decide (s.admissionCount .rock ≤ 4)

/-! ## The zone tables -/

/-- A numbered table in its one form: its numbers strictly rising, each below 64 (R36). -/
def zonesOrdered (t : List (Nat × Zone)) : Bool := (t.map (·.1)).Pairwise (· < ·) && t.all (fun e => decide (e.1 < 64))

/-- WORK entries occupy only numbers 16 to 63 (R36). -/
def workInOrdinary (t : List (Nat × Zone)) : Bool := t.all (fun e => e.2.kind != .work || decide (16 ≤ e.1))

/-- The zone entries of a copy of the stored configuration: ordered, and none of kind WORK (R175). -/
def StoredConfig.zonesSound (c : StoredConfig) : Bool := zonesOrdered c.zones && c.zones.all (fun e => e.2.kind != .work)

/-- The entries of a copy of the shaft work record: ordered, of kind WORK, with ordinary numbers (R178). -/
def ShaftRecord.workSound (r : ShaftRecord) : Bool :=
  zonesOrdered r.work && r.work.all (fun e => e.2.kind == .work && decide (16 ≤ e.1))

/-- The zone table and every copy of its entries that can come to be loaded are sound (R36, R175, R178). -/
def State.zonesSound (s : State) : Bool :=
  zonesOrdered s.zones && workInOrdinary s.zones && s.storedCurrent.zonesSound && s.commit.all (·.copy.zonesSound) &&
  s.recordCurrent.workSound && s.recordWrite.all (·.copy.workSound)

/-! ## The settings -/

/-- A station entry in its ranges; a station without a landing depth is out of service (R7, R8). -/
def Station.inRange (st : Station) : Bool :=
  st.depth.all (fun d => decide (0 ≤ d ∧ d ≤ 3200000)) && between 10 150 st.window &&
  (st.decks.upper || st.decks.middle || st.decks.lower) && (!st.inService || st.depth.isSome)

/-- The rock points in their ranges and order (R10). -/
def RockPoints.inRange (p : RockPoints) : Bool :=
  p.ordered && [p.tip, p.pocketA, p.pocketB].all (fun e => depthInRange e.depth && between 10 250 e.window)

/-- The classes in their ranges, Creep the slowest (R12). -/
def PerClass.inRange (p : PerClass) : Bool :=
  p.creepLeast && [p.men, p.material, p.rock, p.inspection, p.creep, p.rePair].all classInRange

/-- The marker table: ids strictly rising, at most 48 entries, each in its ranges (R24). -/
def markersInRange (l : List Marker) : Bool :=
  (l.map (·.id)).Pairwise (· < ·) && decide (l.length ≤ 48) &&
  l.all (fun m => between 1 255 m.id && depthInRange m.depth && between 5 50 m.accuracy)

/-- Envelope settings in their ranges (R149). -/
def EnvelopeSettings.inRange (e : EnvelopeSettings) : Bool :=
  [0, 100, 250, 500].contains e.hysteresis && between 10 50 e.under && between 5 15 e.margin

/-- A working configuration whose every item is in range (chapters 1, 2, 5 to 9). -/
def Settings.inRange (c : Settings) : Bool :=
  between 3000 6000 c.pitch && between 2000000 3200000 c.span && (c.stations[0]).depth == some 0 &&
  c.stations.toList.all Station.inRange && c.rockPoints.inRange && c.classes.inRange &&
  [c.scales.service, c.scales.drum0, c.scales.drum1].all (between 1000 100000) &&
  [c.references.service, c.references.drum0, c.references.drum1].all (fun r => depthInRange r.depth) &&
  markersInRange c.markers &&
  trackingOk c.tracking && [c.offerLimit.service, c.offerLimit.rock].all (between 1 6) &&
  [c.reportInterval.service, c.reportInterval.rock].all (between 20 500) &&
  [c.settle.service, c.settle.rock].all (fun x => between 500 5000 x.base && between 0 3 x.cap) &&
  between 200 3000 c.payloadTolerance && c.envelope.service.inRange && c.envelope.rock.inRange

/-- The working configuration, the current stored copy and the copy of a commit in progress are all in range. -/
def State.settingsInRange (s : State) : Bool :=
  s.work.inRange && s.storedCurrent.settings.inRange && s.commit.all (·.copy.settings.inRange)

end Sys2Proof.Machine
end

