-- ==== Sys2Proof/Certificates/Slice0/Obligations.lean ====
section
/-! DEFINITION. The statements for the provers, in the order of OBLIGATIONS.json. -/

open Sys2Proof Sys2Proof.Machine

/-! ## The machine -/

/-- A step takes the command at the front of the queue. -/
def Obligations.StepTakesTheFrontCommand : Prop :=
  ∀ (c : Instr) (rest : List Instr) (s : State),
    s.pending = c :: rest → step s = exec c { s with pending := rest }

/-- A step on an empty queue is one millisecond of the time base; the model's choice of log 1. The expiry commands of the
timers that are due then, and no others, come to wait (R64, R68, R85, R92, R102, R111, R116, R141, R146, R170, R171, R176,
R178); a write's end carries a free value (log 6). That a DRIVE SILENT Note which stands does not keep back the Trip of a
silence counted from a motion state's entry is log 33, and when an expiry kept as a reading is reached log 44. -/
def Obligations.IdleStepIsOneMillisecond : Prop :=
  ∀ s : State, s.pending = [] → ∃ t, step s = .next t ∧
    t = { s with now := s.now + 1, sent := [], pending := t.pending, draws := t.draws, pipes := t.pipes } ∧
    t.pending = ({ t with pending := [], draws := s.draws } : State).dueCommands ∧
    ∀ w, t.pipe w =
      { s.pipe w with
        active := (s.pipe w).active.map (fun a =>
          if (s.winder w).state = .running ∨ (s.winder w).state = .settling ∨ (s.winder w).state = .stopping then
            { a with motionTime := a.motionTime + 1 }
          else a) } ∧
    ∀ c, c ∈ t.pending ↔ ({ t with pending := [], draws := s.draws } : State).IsDue c

/-- No command stops the part, none but the step itself touches the queue, and none but POWER_ON the time base. -/
def Obligations.EveryCommandCompletes : Prop :=
  ∀ (c : Instr) (s : State), ∃ t, exec c s = .next t ∧ t.pending = s.pending ∧ (c ≠ .powerOn → t.now = s.now)

/-- The values of State.reset, the whole of it. That it is the start-up of a unit whose two stores fail their checks is the
model's choice of log 4, that its input lines are inactive that of log 5, and the reading 0 of each port's last byte that of
log 30; the frames sent, the count of free values used and the queue are the model's own (logs 3, 7 and 1). -/
def Obligations.ResetHoldsTheNamedValues : Prop :=
  State.reset.now = 0 ∧ State.reset.generation = 0 ∧ State.reset.unconfigured = true ∧
  State.reset.emergencyLine = ⟨false, false⟩ ∧ State.reset.maintenanceKey = false ∧
  State.reset.commissioningLine = false ∧ State.reset.commissioning = false ∧
  State.reset.storedCurrent = StoredConfig.blank ∧ State.reset.storedSpare = StoredConfig.blank ∧
  State.reset.recordCurrent = ShaftRecord.blank ∧ State.reset.recordSpare = ShaftRecord.blank ∧
  State.reset.commit = none ∧ State.reset.recordWrite = none ∧
  (∀ w, State.reset.winder w = WinderRecord.atPowerOn ∧ State.reset.pipe w = Pipe.atPowerOn ∧
    State.reset.monitor w = Monitor.atPowerOn ∧ State.reset.queues.get w = [] ∧ State.reset.ended.get w = [] ∧
    State.reset.lastCallId.get w = 250 ∧ State.reset.reports.get w = none ∧ State.reset.caps.get w = ⟨0, none⟩ ∧
    State.reset.drives.get w = ⟨0, [], []⟩ ∧ State.reset.restricted.get w = false ∧
    State.reset.counters.get w = ⟨0, 0, 0, 0, 0⟩) ∧
  (∀ c, State.reset.position c = Position.atPowerOn 600 0 ∧ State.reset.metres.get c = 0 ∧
    State.reset.remainders.get c = 0 ∧ State.reset.lastPass.get c = none) ∧
  (∀ d, State.reset.drumDepth.get d = none ∧ State.reset.metresFrom.get d = none) ∧
  (∀ l, State.reset.ports.get l = ⟨.hunting, 0⟩ ∧ State.reset.frameErrors.get l = 0) ∧
  (∀ k, State.reset.skips.get k = ⟨.unknown, 0⟩) ∧
  State.reset.pairing = .unpaired ∧ State.reset.clutch = none ∧ State.reset.repair = none ∧
  State.reset.clutchTimer = none ∧ State.reset.startupCheck = true ∧ State.reset.pairBeyond = false ∧
  State.reset.assembly = none ∧ State.reset.snapshot = none ∧ State.reset.primary = none ∧ State.reset.overflow = 0 ∧
  State.reset.faults = [FaultEntry.startupStoreInvalid, FaultEntry.startupStoreInvalid] ∧
  State.reset.zones = [] ∧ State.reset.bars = Vector.replicate 16 true ∧ State.reset.work = Settings.defaults ∧
  State.reset.sent = [] ∧ State.reset.draws = 0 ∧ State.reset.pending = []

/-- Every invariant stated below holds at reset. -/
def Obligations.InvariantsHoldAtReset : Prop :=
  State.reset.outputsAgree = true ∧ State.reset.fieldsAgree = true ∧ State.reset.faultsBounded = true ∧
  State.reset.endedBounded = true ∧ State.reset.zonesSound = true ∧ State.reset.settingsInRange = true ∧
  State.reset.tripsAgree = true ∧ State.reset.queuesBounded = true

/-- Every step keeps the outputs in agreement with the winder states (R97). -/
def Obligations.OutputsAgreeWithTheStates : Prop :=
  ∀ s t : State, s.outputsAgree = true → step s = .next t → t.outputsAgree = true

/-- Every step keeps the fields that a winder state gives meaning to clear outside it (R96, R109, R113), and the slots as the
states have them: the active slot occupied in RUNNING, SETTLING, DWELLING, STOPPING and CLUTCHING alone, the staged slot empty
outside IDLE, RUNNING, SETTLING and DWELLING (R76). -/
def Obligations.RecordFieldsAgreeWithTheStates : Prop :=
  ∀ s t : State, step s = .next t →
    (s.fieldsAgree = true → t.fieldsAgree = true) ∧ (s.tripsAgree = true → t.tripsAgree = true)

/-- Every step keeps the bounds of the fault list, the overflow count and the ended-call lists (R64, R155), and that of each
queue with its staged slot (R59). -/
def Obligations.ListsStayBounded : Prop :=
  ∀ s t : State, step s = .next t →
    (s.faultsBounded = true → t.faultsBounded = true) ∧ (s.endedBounded = true → t.endedBounded = true) ∧
    (s.queuesBounded = true → t.queuesBounded = true) ∧
    (s.queuesBounded = true ↔ ∀ w, (s.queues.get w).length + (if (s.pipe w).staged = none then 0 else 1) ≤
      (match w with
       | .service => 24
       | .rock => 4))

/-- Every step keeps the zone table and the copies of its entries ordered, each entry in its partition (R36). -/
def Obligations.ZoneTablesStaySound : Prop :=
  ∀ s t : State, s.zonesSound = true → step s = .next t → t.zonesSound = true

/-- Every step keeps every item of the working configuration and of its copies in range. -/
def Obligations.SettingsStayInRange : Prop :=
  ∀ s t : State, s.settingsInRange = true → step s = .next t → t.settingsInRange = true

/-! ## Links -/

/-- What the arrival of a request does whatever the request asks (R68, R165, R171). That the frames sent are emptied is log 3,
and that a frame left unfinished counts as damaged when a whole one arrives is log 26, the model's choices. -/
def Obligations.ArrivalOfARequest : Prop :=
  ∀ (s : State) (h : Head) (k : Kind),
    s.heard h k =
      { s with
        sent := []
        ports := s.ports.set h.link ⟨.hunting, s.now⟩
        frameErrors := s.frameErrors.set h.link
          (saturate (s.frameErrors.get h.link + (if (s.ports.get h.link).reception = .hunting then 0 else 1)))
        assembly := if h.link = .signal ∧ k ≠ .addDeck ∧ k ≠ .closeCall then none else s.assembly
        snapshot := if h.link = .console then none else s.snapshot } ∧
    (s.abandoning h k = true ↔ h.link = .signal ∧ k ≠ .addDeck ∧ k ≠ .closeCall ∧ s.assembly ≠ none)

/-- The order of the screen's tests, for a request, a paged read and a request of a drive, and what a request that they turn
away is answered (R167, R168); the answer to a winder field, or a skip field of QUERY SKIP, whose code names nothing (R167),
and to a presence byte that no code assigns (R174, log 46), at which CLOSE CALL closes its assembly all the same (R67). That the
speed cap of WRITE ZONE stands behind a presence byte is log 53, and that a drive's request is answered before its block's work
log 11. -/
def Obligations.ScreenOrder : Prop :=
  (∀ (s : State) (h : Head) (k : Kind) (length : Nat) (winder : Option Nat),
     let away (code : Code) := s.answering (s.heard h k) h k (code, .nothing)
     screen (s.heard h k) h k length winder = s.turnedAway h k length winder ∧
     (∀ act : State → State × (Code × Answer), request s h k length winder act =
       match s.turnedAway h k length winder with
       | some code => away code
       | none => s.answering (act (s.heard h k)).1 h k (act (s.heard h k)).2) ∧
     ((k = .readQueue ∨ k = .readFaults ∨ k = .readPosition) → ∀ act : State → State × (Code × Answer),
       pageRequest s h k length winder act =
         match s.turnedAway h k length winder with
         | some code => away code
         | none =>
           let unread := { s.heard h k with snapshot := s.snapshot }
           s.answering (act unread).1 h k (act unread).2) ∧
     ∀ (answer : State → Code × Answer) (act : State → State), driveRequest s h k length answer act =
       match s.turnedAway h k length none with
       | some code => away code
       | none => act (s.answering (s.heard h k) h k (answer (s.heard h k)))) ∧
  (∀ (s : State) (h : Head) (code : Code),
     (∀ n first, s.turnedAway h .readQueue 2 (some n) = some code →
       s.Reads (.readQueue h n first) h .readQueue (code, .nothing)) ∧
     (∀ first, s.turnedAway h .readFaults 1 none = some code → s.Reads (.readFaults h first) h .readFaults (code, .nothing)) ∧
     (∀ first, s.turnedAway h .readPosition 1 none = some code →
       s.Reads (.readPosition h first) h .readPosition (code, .nothing)) ∧
     (∀ b, s.turnedAway h .positionReport (if h.link = .rockDrive then 20 else 12) none = some code →
       s.Reads (.positionReport h b) h .positionReport (code, .nothing)) ∧
     (∀ trip leg, s.turnedAway h .legComplete 3 none = some code →
       s.Reads (.legComplete h trip leg) h .legComplete (code, .nothing)) ∧
     (∀ fault, s.turnedAway h .driveFault 1 none = some code →
       s.Reads (.driveFault h fault) h .driveFault (code, .nothing))) ∧
  ((∀ (s : State) (h : Head) (k : Kind) (length n : Nat) (act : Winder → State → State × (Code × Answer)),
     2 ≤ n → s.admits h k length (some n) →
       winderRequest s h k length n act = s.answering (s.heard h k) h k (.refused .outOfRange, .nothing)) ∧
   (∀ (s : State) (h : Head) (n : Nat), 2 ≤ n → s.admits h .querySkip 1 none →
     s.Reads (.querySkip h n) h .querySkip (.refused .outOfRange, .nothing))) ∧
  (∀ (s : State) (h : Head),
     let no (c : Instr) (k : Kind) := s.Reads c h k (.refused .outOfRange, .nothing)
     (∀ n k decks riders payload p, riders.read = none ∨ payload.read = none →
       (s.admits h .call (callSize decks riders payload) none → no (.call h n k decks riders payload p) .call) ∧
       (s.admits h .closeCall (ridersSize riders + optionalSize 2 payload) none → ∀ a, s.assembly = some a → a.decks ≠ [] →
         s.Answers (.closeCall h riders payload) h .closeCall { s.heard h .closeCall with assembly := none }
           (.refused .outOfRange, .nothing)) ∧
       (s.admits h .manualTrip (manualSize h (.service n decks k riders payload)) none →
         no (.manualTrip h (.service n decks k riders payload)) .manualTrip)) ∧
     (∀ number k mask upper lower cap label, number.read = none ∨ cap.read = none →
       s.admits h .writeZone (optionalSize 1 number + 10 + optionalSize 2 cap + listSize label) none →
       no (.writeZone h number k mask upper lower cap label) .writeZone) ∧
     (∀ pitch span, pitch.read = none ∨ span.read = none →
       s.admits h .writeGeometry (optionalSize 2 pitch + optionalSize 4 span) none →
       no (.writeGeometry h pitch span) .writeGeometry) ∧
     (∀ n depth window decks flag, depth.read = none → s.admits h .writeStation (4 + optionalSize 4 depth) none →
       no (.writeStation h n depth window decks flag) .writeStation) ∧
     (∀ n depth window, depth.read = none ∨ window.read = none →
       s.admits h .writeRockPoint (1 + optionalSize 4 depth + optionalSize 1 window) none →
       no (.writeRockPoint h n depth window) .writeRockPoint) ∧
     (∀ n contents mass, mass.read = none → s.admits h .setSkipContents (2 + optionalSize 2 mass) none →
       no (.setSkipContents h n contents mass) .setSkipContents))

/-- A frame laid out as section 11.6 gives it is received whole, and one whose last byte is wrong, whose length is above 96 or
that a gap ends is damaged; outside a frame only a start byte is taken (R165). -/
def Obligations.FramesAreReceivedByTheirCrc : Prop :=
  (∀ (kind tag : Nat) (body : List Byte), body.length ≤ 96 →
     let covered := u8 body.length ++ u8 kind ++ u8 tag ++ body
     let hi := (crcOf covered).extractLsb' 8 8
     let lo := (crcOf covered).extractLsb' 0 8
     let begun := (0xA5#8 :: covered ++ [hi]).map (RxByte.mk false)
     frameBytes kind tag body = (0xA5#8 :: covered ++ [hi]) ++ [lo] ∧
     receiveBytes .hunting begun = (.inFrame (covered ++ [hi]), []) ∧
     receiveBytes .hunting (begun ++ [⟨false, lo⟩]) = (.hunting, [.frame (covered ++ [hi] ++ [lo])]) ∧
     ∀ b, b ≠ lo → receiveBytes .hunting (begun ++ [⟨false, b⟩]) = (.hunting, [.damaged])) ∧
  (∀ (bytes : List Byte) (late : Bool) (b : Byte),
     receiveByte (.inFrame bytes) ⟨true, b⟩ = (if b = 0xA5#8 then .inFrame [] else .hunting, .damaged) ∧
     receiveByte .hunting ⟨late, b⟩ = (if b = 0xA5#8 then .inFrame [] else .hunting, .nothing) ∧
     (96 < b.toNat → receiveByte (.inFrame []) ⟨false, b⟩ = (.hunting, .damaged))) ∧
  (crcOf [] = 0xFFFF#16 ∧
    ∀ (bytes : List Byte) (b : Byte), crcOf (bytes ++ [b]) =
      [7, 6, 5, 4, 3, 2, 1, 0].foldl
        (fun (r : BitVec 16) i => (r <<< 1) ^^^ (if r.getLsbD 15 = b.getLsbD i then 0#16 else 1#16 <<< 12 ||| 1#16 <<< 5 ||| 1#16))
        (crcOf bytes))

/-- Damaged frames are counted, stray replies discarded, and requests of no listed kind refused (R162, R165 to R167); a whole
frame among the bytes of DAMAGED_FRAME is the command that its kind byte and body give, and is taken as that command (R165,
R166); a gap that the port's reading of its last byte shows ends a frame like one that the first byte is marked with (R164,
R165). That DAMAGED_FRAME carries the bytes, that readings must differ by two to show a gap, and that an unfinished frame
counts when a whole one arrives, are log 26; the kind of a reply above 255 is log 35; nothing sent before the event is log 3;
a reply with no body, taken as one that is not Done, is log 46. -/
def Obligations.FramesThatAreNoListedRequest : Prop :=
  ∀ (s : State) (l : Link),
    let port := s.ports.get l
    let gap := decide (2 ≤ (s.now - port.lastByteAt).toNat)
    let come (bytes : List RxByte) : List RxByte := bytes.modifyHead (fun x => ⟨x.late || gap, x.byte⟩)
    (∀ bytes r ends, receiveBytes port.reception (come bytes) = (r, ends) → (∀ x ∈ ends, x = .damaged) →
      exec (.damagedFrame l bytes) s =
        .next { s with
          sent := []
          frameErrors :=
            if ends = [] then s.frameErrors else s.frameErrors.set l (saturate (s.frameErrors.get l + ends.length))
          ports := s.ports.set l ⟨r, if bytes = [] then port.lastByteAt else s.now⟩ }) ∧
    (∀ bytes r f, receiveBytes port.reception (come bytes) = (r, [.frame f]) →
      ∃ t, exec (readFrame l f) { s with sent := [], ports := s.ports.set l ⟨.hunting, s.now⟩ } = .next t ∧
        exec (.damagedFrame l bytes) s = .next { t with ports := t.ports.set l ⟨r, t.now⟩ }) ∧
    (∀ (number tag : Nat) (body : List Byte) (hi lo : Byte), number < 256 → tag < 256 → body.length ≤ 96 →
      let command := readFrame l (u8 body.length ++ u8 number ++ u8 tag ++ body ++ [hi] ++ [lo])
      (∀ k, kindNumber k = number → kindListed k l = true → command = requestOf ⟨l, tag, body.length⟩ k body) ∧
      (isReplyKind number = false → kindNumberListed number l = false → command = .unlistedKindRequest l number tag) ∧
      (isReplyKind number = true → driveWinder l = none → command = .strayReplyFrame l number tag) ∧
      (∀ k w, kindNumber k + 128 = number → driveWinder l = some w →
        command = readDriveReply w k tag (body.headD 0#8).toNat)) ∧
    (∀ kind tag, exec (.strayReplyFrame l kind tag) s =
      .next { s with
        sent := []
        frameErrors := s.frameErrors.set l
          (saturate (s.frameErrors.get l + (if (s.ports.get l).reception = .hunting then 0 else 1)))
        ports := s.ports.set l ⟨.hunting, s.now⟩ }) ∧
    (∀ kind tag, exec (.unlistedKindRequest l kind tag) s =
      .next { s with
        sent := [.reply l (kind + 128) tag
          ⟨.refused .notForThisLink, l == .signal && s.assembly.isSome, .nothing⟩]
        frameErrors := s.frameErrors.set l
          (saturate (s.frameErrors.get l + (if (s.ports.get l).reception = .hunting then 0 else 1)))
        ports := s.ports.set l ⟨.hunting, s.now⟩
        assembly := if l = .signal then none else s.assembly
        snapshot := if l = .console then none else s.snapshot })

/-- A request sent to a drive takes the tag count, which then rises by one, and its reply is awaited for 500 ms (R170); the trip
and leg of a GRANT are those that a GRANT VOID for its tag names, until the tag is used again (R86). -/
def Obligations.RequestsToTheDriveAreTagged : Prop :=
  ∀ (s : State) (w : Winder) (o : Order),
    ((s.sendOrder w o).drives.get w).tagCount = ((s.drives.get w).tagCount + 1) % 256 ∧
    ((s.sendOrder w o).drives.get w).awaited =
      (s.drives.get w).awaited ++ [⟨o.kind, (s.drives.get w).tagCount, s.now + 500#32⟩] ∧
    (s.sendOrder w o).sent = s.sent ++ [.order w (s.drives.get w).tagCount o] ∧
    (∀ trip leg speed decel drums tag, o = .grant trip leg speed decel drums →
      (s.sendOrder w o).grantOf w tag = if tag = (s.drives.get w).tagCount then (trip, leg) else s.grantOf w tag) ∧
    (∀ tag, (∀ trip leg speed decel drums, o ≠ .grant trip leg speed decel drums) →
      (s.sendOrder w o).grantOf w tag = s.grantOf w tag) ∧
    (∀ v tag, v ≠ w → (s.sendOrder w o).grantOf v tag = s.grantOf v tag) ∧
    s.sendOrder w o = { s with drives := (s.sendOrder w o).drives, sent := (s.sendOrder w o).sent } ∧
    ∀ v, v ≠ w → (s.sendOrder w o).drives.get v = s.drives.get v

/-- The replies to GRANT VOID, the notices and the clutch requests, and the expiry of any awaited request but a GRANT, only
empty the awaited list (R86, R114, R138, R170). That an early expiry only empties the frames sent is log 2, and the arrival of
the reply's frame is that of log 26. -/
def Obligations.OtherRepliesHaveNoFurtherEffect : Prop :=
  ∀ (s : State) (w : Winder) (tag code : Nat),
    exec (.grantVoidReply w tag code) s = .next (s.replyMatched w .grantVoid tag) ∧
    (∀ n, exec (.noticeReply w n tag code) s = .next (s.replyMatched w (noticeKind n) tag)) ∧
    (∀ o, exec (.clutchReply w o tag code) s = .next (s.replyMatched w (clutchKind o) tag)) ∧
    ∀ k, k ≠ .grant → exec (.requestReplyTimeout w k tag) s =
      .next (if ∃ a ∈ (s.drives.get w).awaited, a.kind = k ∧ a.tag = tag ∧ reached s.now a.expiry = true then
          { s with
            sent := []
            drives := s.drives.set w
              { s.drives.get w with
                awaited := (s.drives.get w).awaited.filter (fun a => !(a.kind == k && a.tag == tag)) } }
        else { s with sent := [] })

/-! ## Reads -/

/-- The reads of the settings answer with them and change nothing; that READ MARKER refuses an id that is not in the table is
log 48. -/
def Obligations.SettingsReadsAnswer : Prop :=
  ∀ (s : State) (h : Head),
    (s.admits h .readGeometry 0 none →
      s.Reads (.readGeometry h) h .readGeometry (.done, .geometry s.work.pitch s.work.span)) ∧
    (∀ n, s.admits h .readStation 1 none →
      s.Reads (.readStation h n) h .readStation
        (if hn : n < 16 then (.done, .station (s.work.stations[n])) else (.refused .outOfRange, .nothing))) ∧
    (∀ n, s.admits h .readRockPoint 1 none →
      s.Reads (.readRockPoint h n) h .readRockPoint
        (match rockPointCode n with
         | some p => (.done, .rockPoint (s.work.rockPoints.get p))
         | none => (.refused .outOfRange, .nothing))) ∧
    (∀ n, s.admits h .readClass 1 none →
      s.Reads (.readClass h n) h .readClass
        (match classCode n with
         | some c => (.done, .cls (s.work.classes.get c))
         | none => (.refused .outOfRange, .nothing))) ∧
    (s.admits h .readTracking 0 none → s.Reads (.readTracking h) h .readTracking (.done, .tracking s.work.tracking)) ∧
    (∀ id, s.admits h .readMarker 1 none →
      s.Reads (.readMarker h id) h .readMarker
        (match s.work.markers.find? (fun m => m.id == id) with
         | some m => (.done, .marker m)
         | none => (.refused .noSuchMarker, .nothing))) ∧
    (s.admits h .readPayload 0 none →
      s.Reads (.readPayload h) h .readPayload (.done, .payload s.work.payloadTolerance s.work.payloadAction)) ∧
    (∀ n, s.admits h .readSettle 1 (some n) →
      s.Reads (.readSettle h n) h .readSettle
        (match winderCode n with
         | some w => (.done, .settle (s.work.settle.get w))
         | none => (.refused .outOfRange, .nothing)))

/-- The reads of the part's condition answer with it and change nothing; that READ ZONE refuses a number above 63 is log 19. -/
def Obligations.StatusReadsAnswer : Prop :=
  ∀ (s : State) (h : Head),
    (∀ n w, winderCode n = some w → s.admits h .readWinder 1 (some n) →
      s.Reads (.readWinder h n) h .readWinder
        (.done, .winder (s.winder w) ((s.reports.get w).map (·.brake)) ((s.reports.get w).map (·.drive)))) ∧
    (∀ n w, winderCode n = some w → s.admits h .readCap 1 (some n) →
      s.Reads (.readCap h n) h .readCap
        (.done, .cap (s.caps.get w)
          (if (s.winder w).state = .running then (s.activeLeg w).map (fun l => (s.toGo l, s.approachLimit l)) else none))) ∧
    (∀ n w, winderCode n = some w → s.admits h .readEnvelope 1 (some n) →
      s.Reads (.readEnvelope h n) h .readEnvelope
        (.done, .envelope (s.work.envelope.get w) (s.monitor w)
          ((s.monitor w).underTimer.map (fun e => (e - s.now).toNat)))) ∧
    (∀ n w, winderCode n = some w → s.admits h .tripStatus 1 (some n) →
      s.Reads (.tripStatus h n) h .tripStatus
        (.done, .tripStatus (s.winder w).state
          ((s.pipe w).active.map (fun t => ⟨t.number, t.kind, t.current, t.legs.length⟩))
          ((s.pipe w).staged.map (fun t => ⟨t.number, t.source.map (·.id), t.ready⟩))
          (s.pipe w).latest (s.pipe w).prior)) ∧
    (∀ n k, skipCode n = some k → s.admits h .querySkip 1 none →
      s.Reads (.querySkip h n) h .querySkip
        (.done, .skip (s.skips.get k) (s.standsAt k .tip) (s.standsAt k .pocketA) (s.standsAt k .pocketB) s.pairing
          s.clutch (s.repair.map (·.phase)))) ∧
    (∀ n, s.admits h .queryBar 1 none →
      s.Reads (.queryBar h n) h .queryBar
        (if hn : n < 16 then (.done, .bar (s.bars[n])) else (.refused .outOfRange, .nothing))) ∧
    (∀ n, s.admits h .readZone 1 none →
      s.Reads (.readZone h n) h .readZone
        (if n < 64 then (.done, .zone ((tableGet s.zones n).map (fun z => (n, z)))) else (.refused .outOfRange, .nothing))) ∧
    (s.admits h .readCounters 0 none →
      s.Reads (.readCounters h) h .readCounters (.done, .counters s.counters s.metres (s.heard h .readCounters).frameErrors)) ∧
    (s.admits h .identify 0 none →
      s.Reads (.identify h) h .identify
        (.done, .identity (textCodes "Falwen") (textCodes "Vatrun VSA-6") Config.hardwareRevision s.generation
          s.commissioning s.unconfigured))

/-- The three long reads answer in pages from one moment (R171); that the snapshot holds the whole answer, so that a
continuation from an item already shown is answered, is log 57. The refusals of a first item of 0 or beyond the total, and of
a continuation of another read (R171), and of a winder of READ QUEUE that none names (R167). What the reads hold and repeat
(R34, R57, R159, R171); a page holds as many whole items as fit in a body of 96 bytes, and its first always (log 21), which for
a position record fits (R171); the bytes of a page and of each kind of item (R174), the order of a page's parts, the deck list
of a cycle behind its presence byte and the map of a zone set whose list would not fit being log 47, the cap of an OVERSPEED
entry log 32, and the size of a field that R174 gives by its range log 20. -/
def Obligations.LongReadsAnswerInPages : Prop :=
  (∀ (s : State) (h : Head),
    (∀ n w, winderCode n = some w → s.admits h .readQueue 2 (some n) →
      s.Answers (.readQueue h n 1) h .readQueue
        { s.heard h .readQueue with snapshot := s.restOfRead (.queue w) (s.queueItems w) }
        (.done, pageAnswer (s.queueItems w).2 (s.queueItems w).1 1)) ∧
    (s.admits h .readFaults 1 none →
      s.Answers (.readFaults h 1) h .readFaults
        { s.heard h .readFaults with snapshot := s.restOfRead .faults s.faultItems }
        (.done, pageAnswer s.faultItems.2 s.faultItems.1 1)) ∧
    (s.admits h .readPosition 1 none →
      s.Answers (.readPosition h 1) h .readPosition
        { s.heard h .readPosition with snapshot := s.restOfRead .positions s.positionItems }
        (.done, pageAnswer s.positionItems.2 s.positionItems.1 1)) ∧
    (∀ x first, s.snapshot = some x → 1 < first → first ≤ x.items.length →
      (∀ n w, winderCode n = some w → x.kind = .queue w → s.admits h .readQueue 2 (some n) →
        s.Answers (.readQueue h n first) h .readQueue { s.heard h .readQueue with snapshot := x.restAfter first }
          (.done, pageAnswer x.common x.items first)) ∧
      (x.kind = .faults → s.admits h .readFaults 1 none →
        s.Answers (.readFaults h first) h .readFaults { s.heard h .readFaults with snapshot := x.restAfter first }
          (.done, pageAnswer x.common x.items first)) ∧
      (x.kind = .positions → s.admits h .readPosition 1 none →
        s.Answers (.readPosition h first) h .readPosition { s.heard h .readPosition with snapshot := x.restAfter first }
          (.done, pageAnswer x.common x.items first))) ∧
    (∀ first, s.snapshot = none → 1 < first →
      (∀ n w, winderCode n = some w → s.admits h .readQueue 2 (some n) →
        s.Reads (.readQueue h n first) h .readQueue (.refused .noSnapshot, .nothing)) ∧
      (s.admits h .readFaults 1 none → s.Reads (.readFaults h first) h .readFaults (.refused .noSnapshot, .nothing)) ∧
      (s.admits h .readPosition 1 none →
        s.Reads (.readPosition h first) h .readPosition (.refused .noSnapshot, .nothing))) ∧
    (let late (x : Snapshot) (kind : ReadKind) (cmd : Instr) (k : Kind) (first : Nat) : Prop :=
       (x.kind ≠ kind → s.Reads cmd h k (.refused .noSnapshot, .nothing)) ∧
       (x.kind = kind → x.items.length < first →
         s.Answers cmd h k { s.heard h k with snapshot := some x } (.refused .outOfRange, .nothing))
     (∀ n, s.admits h .readQueue 2 (some n) →
       s.Reads (.readQueue h n 0) h .readQueue (.refused .outOfRange, .nothing) ∧
       (2 ≤ n → ∀ first, s.Reads (.readQueue h n first) h .readQueue (.refused .outOfRange, .nothing)) ∧
       ∀ x w first, s.snapshot = some x → winderCode n = some w → 1 < first →
         late x (.queue w) (.readQueue h n first) .readQueue first) ∧
     (s.admits h .readFaults 1 none →
       s.Reads (.readFaults h 0) h .readFaults (.refused .outOfRange, .nothing) ∧
       ∀ x first, s.snapshot = some x → 1 < first → late x .faults (.readFaults h first) .readFaults first) ∧
     (s.admits h .readPosition 1 none →
       s.Reads (.readPosition h 0) h .readPosition (.refused .outOfRange, .nothing) ∧
       ∀ x first, s.snapshot = some x → 1 < first → late x .positions (.readPosition h first) .readPosition first)) ∧
    (∀ x, s.snapshot = some x → 2000 ≤ (s.now - x.formedAt).toNat →
      exec .snapshotExpiry s = .next { s with sent := [], snapshot := none })) ∧
  (∀ (s : State) (w : Winder),
    s.queueItems w =
      ((s.queues.get w).mapIdx (fun i c => .call (i + 1) c),
        .queue (s.pipe w).staged.isSome
          ((s.queues.get w).length + if (s.pipe w).staged.isSome = true then 1 else 0)) ∧
    s.faultItems = (.primary s.primary :: s.faults.mapIdx (fun i e => .fault (i + 1) e), .faults s.overflow) ∧
    let common : PageCommon :=
      .positions ⟨(s.reports.get .service).map (·.at_), (s.reports.get .rock).map (·.at_)⟩ s.lastPass
    s.positionItems =
      ([.position .cage (s.position .cage), .position .counterweight (s.position .counterweight),
        .position .skip0 (s.position .skip0), .position .skip1 (s.position .skip1)], common) ∧
    ∀ c, 3 + 1 + (itemBytes (90 - (commonBytes common).length) (.position c (s.position c))).length +
      (commonBytes common).length + 1 + 1 ≤ 96) ∧
  (∀ (common : PageCommon) (items : List PageItem) (first : Nat),
    let left := items.drop (first - 1)
    let page := pageItems common items first
    let item := itemBytes (90 - (commonBytes common).length)
    let size (n : Nat) : Nat := 3 + 1 + ((left.take n).flatMap item).length + (commonBytes common).length + 1 + 1
    page = left.take page.length ∧
    (left ≠ [] → 1 ≤ page.length) ∧ (2 ≤ page.length → size page.length ≤ 96) ∧
    (page.length < left.length → 96 < size (page.length + 1)) ∧
    ∀ abandoned, replyBytes ⟨.done, abandoned, pageAnswer common items first⟩ =
      u8 1 ++ u8 0 ++ flag abandoned ++ u8 page.length ++ page.flatMap item ++ commonBytes common ++ u8 items.length ++
        u8 first) ∧
  (∀ (occupied : Bool) (admission overflow : Nat) (reports : PerWinder (Option Time)) (passes : PerConveyance (Option Time)),
    commonBytes (.queue occupied admission) = flag occupied ++ u8 admission ∧
    commonBytes (.faults overflow) = u8 overflow ∧
    commonBytes (.positions reports passes) =
      [reports.service, reports.rock, passes.cage, passes.counterweight, passes.skip0, passes.skip1].flatMap
        (optional timeBytes)) ∧
  (∀ (room n : Nat) (c : Call),
    let origin := placeIn [Link.console, .signal, .ore, .rockDrive, .serviceDrive] c.origin
    let ending := flag c.priority ++ placeIn [CallState.waiting, .heldBar, .heldWork, .heldPairing] c.state ++
      timeBytes c.arrival ++ u8 n
    (∀ station cls decks riders payload, c.work = .cage station cls decks riders payload →
      itemBytes room (.call n c) =
        u8 c.id ++ origin ++ u8 0 ++ placeIn [Machine.Class.men, .material, .rock, .inspection, .creep, .rePair] cls ++
          u8 1 ++ u8 station.val ++ u8 1 ++ listed (placeIn [Deck.upper, .middle, .lower]) decks ++
          optional (listed u8) riders ++ optional u16 payload ++ u8 0 ++ ending) ∧
    (∀ k, c.work = .cycle k →
      itemBytes room (.call n c) =
        u8 c.id ++ origin ++ u8 1 ++ u8 2 ++ u8 0 ++ u8 0 ++ u8 0 ++ u8 0 ++ u8 1 ++ placeIn [Skip.skip0, .skip1] k ++
          ending)) ∧
  (∀ (room n : Nat) (e : FaultEntry),
    let entry :=
      placeIn [FaultKind.emergencyStop, .overspeed, .overwind, .workZoneEntry, .inspectZoneEntry, .positionLost,
        .markerDisagreement, .pairDisagreement, .unpermittedMotion, .driveSilent, .driveFault, .tripOvertime,
        .stopNotAchieved, .clutchFault, .landingNotAchieved, .overFault, .underFault, .payloadMismatch, .driveRefused,
        .unknownMarker, .storeInvalid] e.kind ++
      placeIn [Severity.trip, .stop, .note] e.severity ++ optional (placeIn [Winder.service, .rock]) e.winder ++
      optional (placeIn [Conveyance.cage, .counterweight, .skip0, .skip1]) e.conveyance ++ optional i32 e.depth ++
      u32 e.band ++ i16 e.speed ++ optional u16 e.trip ++ optional u8 e.zone ++ optional i32 e.detail ++ timeBytes e.time ++
      optional u16 e.cap
    itemBytes room (.primary none) = u8 0 ∧ itemBytes room (.primary (some e)) = u8 1 ++ entry ∧
    itemBytes room (.fault n e) = entry ++ u8 n) ∧
  (∀ (room : Nat) (c : Conveyance) (p : Position),
    let head :=
      placeIn [RecordState.cold, .valid, .lost] p.state ++ optional i32 p.estimate ++ u32 p.band ++ u16 p.base ++
        u32 p.travel ++ optional u8 p.lastMarker ++ i32 p.correction ++ i16 p.speed ++
        placeIn [Direction.descending, .ascending, .stationary] p.direction ++ flag p.rest
    (head.length + 1 + p.zoneSet.length ≤ room → itemBytes room (.position c p) = head ++ listed u8 p.zoneSet) ∧
    (room < head.length + 1 + p.zoneSet.length →
      ∃ map : List Byte, map.length = 8 ∧ itemBytes room (.position c p) = head ++ 255#8 :: map ∧
        ∀ n < 64, ((map.getD (n / 8) 0#8).getLsbD (n % 8) = true ↔ n ∈ p.zoneSet)))

/-- QUERY CALL answers with the one place where the call is (R64). -/
def Obligations.QueryCallFindsTheCall : Prop :=
  ∀ (s : State) (h : Head) (n id : Nat) (w : Winder), winderCode n = some w → s.admits h .queryCall 2 (some n) →
    (∀ q c rest, s.queues.get w = q ++ c :: rest → c.id = id → (∀ x ∈ q, x.id ≠ id) →
      s.Reads (.queryCall h n id) h .queryCall (.done, .whereabouts (.queued c.state (q.length + 1)))) ∧
    ((∀ x ∈ s.queues.get w, x.id ≠ id) →
      (∀ t c, (s.pipe w).staged = some t → t.source = some c → c.id = id →
        s.Reads (.queryCall h n id) h .queryCall (.done, .whereabouts (.staged t.number t.ready))) ∧
      ((∀ t c, (s.pipe w).staged = some t → t.source = some c → c.id ≠ id) →
        (∀ t c, (s.pipe w).active = some t → t.source = some c → c.id = id →
          s.Reads (.queryCall h n id) h .queryCall (.done, .whereabouts (.active t.number t.current))) ∧
        ((∀ t c, (s.pipe w).active = some t → t.source = some c → c.id ≠ id) →
          s.Reads (.queryCall h n id) h .queryCall
            (match (s.ended.get w).find? (fun e => e.id == id) with
             | some e => (.done, .whereabouts (.ended e.reason))
             | none => (.refused .noSuchCall, .nothing)))))

/-! ## Writes of the settings -/

/-- The writes of the shaft's geometry, stations, rock points and classes: what they write where their tests pass, the
refusals of the tests (R4, R5, R8, R10, R12), and the station entry that a request's fields give (R7, R8). The order of the
tests, where these rules give none, is that of log 23, and a code that names no entry is refused before them (log 19); the byte
that codes a deck set is log 58. -/
def Obligations.ShaftWritesFollowTheirTests : Prop :=
  (∀ (s : State) (h : Head),
     (∀ p, between 3000 6000 p = true → s.isIn .service .parked = true → s.admits h .writeGeometry 4 none →
       s.Answers (.writeGeometry h (.present p) .absent) h .writeGeometry
         { s.heard h .writeGeometry with work := { s.work with pitch := p } } (.done, .nothing)) ∧
     (∀ pitch span, Option.all (between 3000 6000) pitch = true → between 2000000 3200000 span = true →
       s.commissioning = true → s.isIn .service .parked = true →
       s.admits h .writeGeometry (optionalSize 2 (Presence.of pitch) + 5) none →
       Completes (.writeGeometry h (.of pitch) (.present span)) s (fun t =>
         t.work = { s.work with pitch := pitch.getD s.work.pitch, span := span } ∧
         (t.position .counterweight).state = .cold ∧
         (t.position .counterweight).band = s.work.tracking.coldBand ∧
         (t.position .counterweight).base = s.work.tracking.coldBand ∧ (t.position .counterweight).travel = 0 ∧
         (t.position .counterweight).lastMarker = none ∧
         (t.position .counterweight).correction = (s.position .counterweight).correction ∧
         (∀ c, c ≠ .counterweight → t.position c = s.position c) ∧
         t.sent.getLast? = some (s.replyTo h .writeGeometry (.done, .nothing)) ∧
         t = { s with ports := t.ports, frameErrors := t.frameErrors, snapshot := none, sent := t.sent, work := t.work,
                      positions := t.positions, caps := t.caps, restricted := t.restricted, winders := t.winders,
                      drives := t.drives })) ∧
     (∀ n st depth window decks flag e, stationCode n = some st → s.isIn .service .parked = true →
       (∀ c ∈ s.queues.get .service, c.work.names st = false) → readStation st depth window decks flag = some e →
       (e.inService = true → e.depth ≠ none) → s.admits h .writeStation (4 + optionalSize 4 (Presence.of depth)) none →
       s.Answers (.writeStation h n (.of depth) window decks flag) h .writeStation
         { s.heard h .writeStation with work := { s.work with stations := s.work.stations.set st e } }
         (.done, .nothing)) ∧
     (∀ n r depth window, rockPointCode n = some r → s.isIn .rock .parked = true →
       (depth ≠ none → s.commissioning = true) → ¬(depth = none ∧ window = none) →
       Option.all depthInRange depth = true → Option.all (between 10 250) window = true →
       (s.work.rockPoints.write r depth window).ordered = true →
       s.admits h .writeRockPoint (1 + optionalSize 4 (Presence.of depth) + optionalSize 1 (Presence.of window)) none →
       Completes (.writeRockPoint h n (.of depth) (.of window)) s (fun t =>
         t.work = { s.work with rockPoints := s.work.rockPoints.write r depth window } ∧
         (t.pairing = s.pairing ∨ t.pairing = .unpaired) ∧
         (∀ p, s.pairing = .paired p →
           (t.pairing = s.pairing ↔
             (s.work.rockPoints.write r depth window).tip.depth +
                 ((s.work.rockPoints.write r depth window).get p.point).depth =
               s.work.rockPoints.tip.depth + (s.work.rockPoints.get p.point).depth)) ∧
         t.sent.getLast? = some (s.replyTo h .writeRockPoint (.done, .nothing)) ∧
         t = { s with ports := t.ports, frameErrors := t.frameErrors, snapshot := none, sent := t.sent, work := t.work,
                      pairing := t.pairing, pairBeyond := t.pairBeyond, queues := t.queues, ended := t.ended,
                      pipes := t.pipes } ∧
         (t.pairing = s.pairing → t.pairBeyond = s.pairBeyond ∧ t.queues = s.queues ∧ t.ended = s.ended ∧ t.pipes = s.pipes)) ∧
       (let written : State :=
          { s.heard h .writeRockPoint with work := { s.work with rockPoints := s.work.rockPoints.write r depth window } }
        let cmd := Instr.writeRockPoint h n (.of depth) (.of window)
        let kept : Prop := ∀ p, s.pairing = .paired p →
          written.work.rockPoints.tip.depth + (written.work.rockPoints.get p.point).depth =
            s.work.rockPoints.tip.depth + (s.work.rockPoints.get p.point).depth
        (kept → s.Answers cmd h .writeRockPoint written (.done, .nothing)) ∧
        (¬kept → s.Answers cmd h .writeRockPoint written.unpair (.done, .nothing)))) ∧
     (∀ n c speed decel limit, classCode n = some c → classInRange ⟨speed, decel, limit⟩ = true →
       (s.work.classes.set c ⟨speed, decel, limit⟩).creepLeast = true →
       (∀ w ∈ classWinders c, s.isIn w .parked = true) → s.admits h .writeClass 7 none →
       Completes (.writeClass h n speed decel limit) s (fun t =>
         t.work = { s.work with classes := s.work.classes.set c ⟨speed, decel, limit⟩ } ∧
         t.sent.getLast? = some (s.replyTo h .writeClass (.done, .nothing)) ∧
         s.Answers (.writeClass h n speed decel limit) h .writeClass
           ((({ s.heard h .writeClass with work := { s.work with classes := s.work.classes.set c ⟨speed, decel, limit⟩ } } :
             State).handAndCompare .service).handAndCompare .rock) (.done, .nothing) ∧
         (s.inMotion .service = false → s.inMotion .rock = false →
           t = { s with ports := t.ports, frameErrors := t.frameErrors, snapshot := none, sent := t.sent, work := t.work,
                        caps := ⟨⟨0, none⟩, ⟨0, none⟩⟩, winders := t.winders, drives := t.drives })))) ∧
  (∀ (s : State) (h : Head),
     (∀ pitch span : Option Nat,
       s.admits h .writeGeometry (optionalSize 2 (Presence.of pitch) + optionalSize 4 (Presence.of span)) none →
       let no (r : Reason) : Prop :=
         s.Reads (.writeGeometry h (.of pitch) (.of span)) h .writeGeometry (.refused r, .nothing)
       (span ≠ none → s.commissioning = false → no .notCommissioning) ∧
       ((span ≠ none → s.commissioning = true) → s.isIn .service .parked = false → no .notParked) ∧
       ((span ≠ none → s.commissioning = true) → s.isIn .service .parked = true →
         (pitch = none ∧ span = none) ∨ (∃ p, pitch = some p ∧ (p < 3000 ∨ 6000 < p)) ∨
           (∃ x, span = some x ∧ (x < 2000000 ∨ 3200000 < x)) → no .outOfRange)) ∧
     (∀ n depth window decks flag, s.admits h .writeStation (4 + optionalSize 4 (Presence.of depth)) none →
       let no (r : Reason) : Prop :=
         s.Reads (.writeStation h n (.of depth) window decks flag) h .writeStation (.refused r, .nothing)
       (16 ≤ n → no .outOfRange) ∧
       ∀ st, stationCode n = some st →
         (s.isIn .service .parked = false → no .notParked) ∧
         (s.isIn .service .parked = true →
           ((∃ c ∈ s.queues.get .service, c.work.names st = true) → no .stationInUse) ∧
           ((∀ c ∈ s.queues.get .service, c.work.names st = false) →
             (readStation st depth window decks flag = none → no .outOfRange) ∧
             (∀ e, readStation st depth window decks flag = some e → e.inService = true → e.depth = none →
               no .noLandingDepth)))) ∧
     (∀ n depth window,
       s.admits h .writeRockPoint (1 + optionalSize 4 (Presence.of depth) + optionalSize 1 (Presence.of window)) none →
       let no (r : Reason) : Prop :=
         s.Reads (.writeRockPoint h n (.of depth) (.of window)) h .writeRockPoint (.refused r, .nothing)
       (3 ≤ n → no .outOfRange) ∧
       ∀ r, rockPointCode n = some r →
         (s.isIn .rock .parked = false → no .notParked) ∧
         (s.isIn .rock .parked = true → depth ≠ none → s.commissioning = false → no .notCommissioning) ∧
         (s.isIn .rock .parked = true → (depth ≠ none → s.commissioning = true) →
           (depth = none ∧ window = none) ∨ (∃ d, depth = some d ∧ (d < -60000 ∨ 3200000 < d)) ∨
             (∃ x, window = some x ∧ (x < 10 ∨ 250 < x)) ∨
             (s.work.rockPoints.write r depth window).ordered = false → no .outOfRange)) ∧
     (∀ n speed decel limit, s.admits h .writeClass 7 none →
       let no (r : Reason) : Prop := s.Reads (.writeClass h n speed decel limit) h .writeClass (.refused r, .nothing)
       (6 ≤ n → no .outOfRange) ∧
       ∀ c, classCode n = some c →
         (classInRange ⟨speed, decel, limit⟩ = false ∨ (s.work.classes.set c ⟨speed, decel, limit⟩).creepLeast = false →
           no .outOfRange) ∧
         (classInRange ⟨speed, decel, limit⟩ = true → (s.work.classes.set c ⟨speed, decel, limit⟩).creepLeast = true →
           (∃ w ∈ classWinders c, s.isIn w .parked = false) → no .notParked))) ∧
  (∀ (st : Fin 16) (depth : Option Int) (window decks flag : Nat) (e : Station),
    readStation st depth window decks flag = some e ↔
      e.depth = depth ∧ e.window = window ∧ (flag = 0 ∧ e.inService = false ∨ flag = 1 ∧ e.inService = true) ∧
      1 ≤ decks ∧ decks ≤ 7 ∧ (e.decks.upper = decks.testBit 0 ∧ e.decks.middle = decks.testBit 1 ∧
        e.decks.lower = decks.testBit 2) ∧
      10 ≤ window ∧ window ≤ 150 ∧ (st = 0 → depth = some 0) ∧ (∀ d, depth = some d → 0 ≤ d ∧ d ≤ 3200000))

/-- The writes of the tracking settings and the markers, and their refusals (R24, R33). The order of the tests, to which these
rules give none, is log 23, and a compartment that no code names, refused before them, log 19. -/
def Obligations.TrackingWritesAreTaken : Prop :=
  ∀ (s : State) (h : Head),
    (∀ x, s.admits h .writeTracking 17 none →
      TestsInOrder (fun r => s.Reads (.writeTracking h x) h .writeTracking (.refused r, .nothing))
        [((s.winder .service).state ≠ .parked ∨ (s.winder .rock).state ≠ .parked, .notParked),
         (x.growth < 5 ∨ 100 < x.growth ∨ x.coldBand < 200 ∨ 1500 < x.coldBand ∨ x.creepThreshold < 50 ∨
            1000 < x.creepThreshold ∨ x.ambiguity < 200 ∨ 3000 < x.ambiguity ∨ x.warn < 20 ∨ 1000 < x.warn ∨ x.trip < 100 ∨
            3000 < x.trip ∨ x.standstill < 10 ∨ 200 < x.standstill ∨ x.unpermitted < 50 ∨ 500 < x.unpermitted ∨
            x.pair < 500 ∨ 10000 < x.pair ∨ x.coldBand ≤ x.creepThreshold ∨ x.ambiguity < x.coldBand ∨ x.trip ≤ x.warn,
          .outOfRange)]
        (s.Answers (.writeTracking h x) h .writeTracking
          { s.heard h .writeTracking with work := { s.work with tracking := x } } (.done, .nothing))) ∧
    (∀ id n depth accuracy, s.admits h .writeMarker 7 none →
      let cmd := Instr.writeMarker h id n depth accuracy
      let no (r : Reason) : Prop := s.Reads cmd h .writeMarker (.refused r, .nothing)
      (4 ≤ n → no .outOfRange) ∧
      ∀ c, conveyanceCode n = some c →
        TestsInOrder no
          [(s.commissioning = false, .notCommissioning),
           ((s.winder (ownerOf c)).state ≠ .parked, .notParked),
           (id < 1 ∨ 255 < id ∨ depth < -60000 ∨ 3200000 < depth ∨ accuracy < 5 ∨ 50 < accuracy, .outOfRange),
           ((∀ m ∈ s.work.markers, m.id ≠ id) ∧ 48 ≤ s.work.markers.length, .tableFull)]
          (Completes cmd s (fun t =>
            (∀ j, t.work.markers.find? (fun m => m.id == j) =
              if j = id then some ⟨id, c, depth, accuracy⟩ else s.work.markers.find? (fun m => m.id == j)) ∧
            t = s.answering { s.heard h .writeMarker with work := { s.work with markers := t.work.markers } } h .writeMarker
              (.done, .nothing)))) ∧
    (∀ id, s.admits h .removeMarker 1 none →
      let entry := s.work.markers.find? (fun m => m.id == id)
      TestsInOrder (fun r => s.Reads (.removeMarker h id) h .removeMarker (.refused r, .nothing))
        [(s.commissioning = false, .notCommissioning),
         (entry = none, .noSuchMarker),
         (∃ m, entry = some m ∧ (s.winder (ownerOf m.compartment)).state ≠ .parked, .notParked)]
        (s.Answers (.removeMarker h id) h .removeMarker
          { s.heard h .removeMarker with
            work := { s.work with markers := s.work.markers.filter (fun m => m.id != id) } } (.done, .nothing)))

/-- The writes of the offer limit, the report interval, the settle settings and the payload settings, and their refusals (R85,
R111, R116, R134). The order of the tests, to which these rules give none, is log 23. -/
def Obligations.WinderSettingsAreWritten : Prop :=
  ∀ (s : State) (h : Head),
    (∀ n w, winderCode n = some w →
      let unparked : Prop := (s.winder w).state ≠ .parked
      (∀ limit, s.admits h .writeOfferLimit 2 (some n) →
        TestsInOrder (fun r => s.Reads (.writeOfferLimit h n limit) h .writeOfferLimit (.refused r, .nothing))
          [(unparked, .notParked), (limit < 1 ∨ 6 < limit, .outOfRange)]
          (s.Answers (.writeOfferLimit h n limit) h .writeOfferLimit
            { s.heard h .writeOfferLimit with work := { s.work with offerLimit := s.work.offerLimit.set w limit } }
            (.done, .nothing))) ∧
      (∀ ms, s.admits h .writeReportInterval 3 (some n) →
        TestsInOrder (fun r => s.Reads (.writeReportInterval h n ms) h .writeReportInterval (.refused r, .nothing))
          [(unparked, .notParked), (ms < 20 ∨ 500 < ms, .outOfRange)]
          (s.Answers (.writeReportInterval h n ms) h .writeReportInterval
            { s.heard h .writeReportInterval with
              work := { s.work with reportInterval := s.work.reportInterval.set w ms } }
            (.done, .nothing))) ∧
      (∀ base cap, s.admits h .writeSettle 4 (some n) →
        TestsInOrder (fun r => s.Reads (.writeSettle h n base cap) h .writeSettle (.refused r, .nothing))
          [(unparked, .notParked), (base < 500 ∨ 5000 < base ∨ 3 < cap, .outOfRange)]
          (s.Answers (.writeSettle h n base cap) h .writeSettle
            { s.heard h .writeSettle with work := { s.work with settle := s.work.settle.set w ⟨base, cap⟩ } }
            (.done, .nothing)))) ∧
    (∀ tolerance code, s.admits h .writePayload 3 none →
      TestsInOrder (fun r => s.Reads (.writePayload h tolerance code) h .writePayload (.refused r, .nothing))
        [((s.winder .rock).state ≠ .parked, .notParked), (2 ≤ code ∨ tolerance < 200 ∨ 3000 < tolerance, .outOfRange)]
        (∀ a, payloadActionCode code = some a →
          s.Answers (.writePayload h tolerance code) h .writePayload
            { s.heard h .writePayload with
              work := { s.work with payloadTolerance := tolerance, payloadAction := a } } (.done, .nothing)))

/-- A record that has entered Cold from another: the cold band, travel 0, no last marker, speed and rest kept (R27); the
estimates recomputed at once, where they are in range, for the conveyances hung from the drum and kept for the others; the
refusals in the order of their tests (R23, R27, R28). That a drum code that names none is refused first is log 19, that
RESTART TRACKING before any report gives the cold band now in force is log 55, that WRITE DRUM SCALE rounds the quotient
before it adds the reference depth log 43, and that the metres of a drum rescaled or referenced are counted afresh from the
next report log 16. -/
def Obligations.DrumsAndRestartMakeRecordsCold : Prop :=
  let cold (s : State) (before after : Position) : Prop :=
    after.state = .cold ∧ after.band = s.work.tracking.coldBand ∧ after.base = s.work.tracking.coldBand ∧
    after.travel = 0 ∧ after.lastMarker = none ∧ after.speed = before.speed ∧ after.rest = before.rest
  let frame (s t : State) : Prop :=
    t = { s with ports := t.ports, frameErrors := t.frameErrors, snapshot := none, sent := t.sent, work := t.work,
                 positions := t.positions, drumDepth := t.drumDepth, metresFrom := t.metresFrom, caps := t.caps,
                 restricted := t.restricted, winders := t.winders, drives := t.drives }
  ∀ (s : State) (h : Head) (n : Nat),
    (∀ w, winderCode n = some w → s.isIn w .parked = true → s.admits h .restartTracking 1 (some n) →
      Completes (.restartTracking h n) s (fun t =>
        (∀ c ∈ conveyancesOf w, cold s (s.position c) (t.position c) ∧
          (t.position c).correction = (s.position c).correction ∧
          (s.drumDepth.get (drumOf c) = none → (t.position c).estimate = (s.position c).estimate) ∧
          (∀ d, s.drumDepth.get (drumOf c) = some d →
            (t.position c).estimate =
              if depthInRange (s.depthOf c d) = true then some (s.depthOf c d) else (s.position c).estimate)) ∧
        (∀ c, ownerOf c ≠ w → t.position c = s.position c) ∧
        t.work = s.work ∧ t.drumDepth = s.drumDepth ∧ t.metresFrom = s.metresFrom ∧ frame s t ∧
        t.sent.getLast? = some (s.replyTo h .restartTracking (.done, .nothing)))) ∧
    (∀ w, winderCode n = some w → (s.winder w).state ≠ .parked → s.admits h .restartTracking 1 (some n) →
      s.Reads (.restartTracking h n) h .restartTracking (.refused .notParked, .nothing)) ∧
    (∀ scale, s.admits h .writeDrumScale 5 none →
      let no (r : Reason) : Prop := s.Reads (.writeDrumScale h n scale) h .writeDrumScale (.refused r, .nothing)
      (3 ≤ n → no .outOfRange) ∧
      ∀ d, drumCode n = some d →
        TestsInOrder no
          [(s.commissioning = false, .notCommissioning),
           ((s.winder (drumWinder d)).state ≠ .parked, .notParked),
           ((s.monitor (drumWinder d)).running = true, .monitorRunning),
           (scale < 1000 ∨ 100000 < scale, .outOfRange)]
          (Completes (.writeDrumScale h n scale) s (fun t =>
            t.work = { s.work with scales := s.work.scales.set d scale } ∧
            (∀ c ∈ conveyancesOf (drumWinder d), cold s (s.position c) (t.position c) ∧
              (t.position c).correction = (s.position c).correction ∧
              (c ∉ hungFrom d → (t.position c).estimate = (s.position c).estimate ∧
                (t.position c).motionRef = (s.position c).motionRef)) ∧
            (∀ c, ownerOf c ≠ drumWinder d → t.position c = s.position c) ∧
            (s.reports.get (drumWinder d) = none →
              t.drumDepth = s.drumDepth ∧ t.metresFrom = s.metresFrom ∧
              (s.drumDepth.get d = none → ∀ c ∈ hungFrom d, (t.position c).estimate = (s.position c).estimate)) ∧
            (∀ r, s.reports.get (drumWinder d) = some r →
              let depth := (s.work.references.get d).depth +
                roundDiv (((r.reading d).count - (s.work.references.get d).count) * 1000) scale
              t.drumDepth = s.drumDepth.set d (some depth) ∧ t.metresFrom = s.metresFrom.set d none ∧
              ∀ c ∈ hungFrom d, (t.position c).motionRef = some depth ∧
                (t.position c).estimate =
                  if depthInRange (s.depthOf c depth) = true then some (s.depthOf c depth) else (s.position c).estimate) ∧
            frame s t ∧ t.sent.getLast? = some (s.replyTo h .writeDrumScale (.done, .nothing))))) ∧
    (∀ depth, s.admits h .setReference 5 none →
      let no (r : Reason) : Prop := s.Reads (.setReference h n depth) h .setReference (.refused r, .nothing)
      (3 ≤ n → no .outOfRange) ∧
      ∀ d, drumCode n = some d →
        TestsInOrder no
          [(s.commissioning = false, .notCommissioning),
           ((s.winder (drumWinder d)).state ≠ .parked, .notParked),
           (s.reports.get (drumWinder d) = none ∨ (∃ c ∈ conveyancesOf (drumWinder d), (s.position c).rest = false),
            .notAtRest),
           (depth < -60000 ∨ 3200000 < depth, .outOfRange)]
          (∀ r, s.reports.get (drumWinder d) = some r →
            Completes (.setReference h n depth) s (fun t =>
              t.work = { s.work with references := s.work.references.set d ⟨depth, (r.reading d).count⟩ } ∧
              (∀ c ∈ hungFrom d, cold s (s.position c) (t.position c) ∧ (t.position c).correction = 0 ∧
                (t.position c).motionRef = some depth ∧
                let x : Int := if c = .counterweight then s.work.span - depth else depth
                (t.position c).estimate = if depthInRange x = true then some x else (s.position c).estimate) ∧
              (∀ c ∈ conveyancesOf (drumWinder d), c ∉ hungFrom d →
                t.position c =
                  { s.position c with zoneSet := s.touched c, suppressed := (t.position c).suppressed }) ∧
              (∀ c, ownerOf c ≠ drumWinder d → t.position c = s.position c) ∧
              t.drumDepth = s.drumDepth.set d (some depth) ∧ t.metresFrom = s.metresFrom.set d none ∧ frame s t ∧
              t.sent.getLast? = some (s.replyTo h .setReference (.done, .nothing)))))

/-! ## Position Tracker -/

/-- The uncorrected drum depth is the quotient rounded to the nearest millimetre, a half away from zero (R17), the depths of
the conveyances follow from it (R17, R18), a record takes estimate, travel, band, rest and direction (R18 to R20), and the
metres travelled are counted (R162). That the quotient is rounded before the reference depth is added is log 43. -/
def Obligations.RecordsFollowTheDrums : Prop :=
  ((∀ (s : State) (d : Drum) (count : Int), 0 < s.work.scales.get d →
     let q := s.uncorrected d count - (s.work.references.get d).depth
     let scale : Int := s.work.scales.get d
     let x := (count - (s.work.references.get d).count) * 1000
     2 * |q * scale - x| ≤ scale ∧ (2 * |q * scale - x| = scale → |x| ≤ |q * scale|)) ∧
   (∀ (s : State) (u : Int),
     s.depthOf .cage u = u + (s.position .cage).correction ∧
     s.depthOf .skip0 u = u + (s.position .skip0).correction ∧
     s.depthOf .skip1 u = u + (s.position .skip1).correction ∧
     s.depthOf .counterweight u = (s.work.span : Int) - u + (s.position .counterweight).correction)) ∧
  (∀ (p : Position) (x : Tracking) (depth speed : Int),
     let q := p.takeReport x depth speed
     (depthInRange depth = true → q.estimate = some depth) ∧
     (depthInRange depth = false → q.estimate = p.estimate ∧ (p.travel ≤ 10000000 → q.travel = p.travel)) ∧
     (p.estimate = none → q.travel = p.travel) ∧
     (∀ old, p.estimate = some old → depthInRange depth = true →
       q.travel = min 10000000 (p.travel + (depth - old).natAbs)) ∧
     p.base ≤ q.band ∧ x.growth * q.travel ≤ 10000 * (q.band - p.base) ∧
     10000 * (q.band - p.base) < x.growth * q.travel + 10000 ∧
     q.speed = speed ∧ (q.rest = true ↔ speed.natAbs ≤ x.standstill) ∧
     (q.rest = true → q.direction = .stationary) ∧
     (q.rest = false → (0 < speed → q.direction = .descending) ∧ (speed < 0 → q.direction = .ascending)) ∧
     q.base = p.base ∧ q.correction = p.correction ∧ q.lastMarker = p.lastMarker ∧ q.state = p.state) ∧
  (∀ (s : State) (r : Report) (d : Drum),
     let depth := s.uncorrected d (r.reading d).count
     let mm : Nat :=
       match s.metresFrom.get d with
       | none => 0
       | some old => (depth - old).natAbs
     let u := s.takeDrum r d
     u.drumDepth = s.drumDepth.set d (some depth) ∧ u.metresFrom = s.metresFrom.set d (some depth) ∧
     (∀ c ∈ hungFrom d,
       u.metres.get c = min 4294967295 (s.metres.get c + (s.remainders.get c + mm) / 1000) ∧
       u.remainders.get c = (s.remainders.get c + mm) % 1000) ∧
     (∀ c, c ∉ hungFrom d → u.metres.get c = s.metres.get c ∧ u.remainders.get c = s.remainders.get c) ∧
     u = { s with drumDepth := u.drumDepth, metresFrom := u.metresFrom, metres := u.metres, remainders := u.remainders })

/-- A taken report brings the records of its winder up to date and touches no record of the other (R16 to R22), and a report
with a code that nothing assigns is refused (R173); the unpermitted motion check that follows (R29, R30), the pair check (R31,
R32), the POSITION LOST of each record made Lost (R21), and the order in which the report is taken and handed on (R15, R16).
That the reply is sent first is log 11; the order, where the rules give none, is log 13 (POSITION LOST of two records too,
R21), and the closing run of planner and offer log 12; that the first Closed report uses up the start-up check even where it
makes none is log 25. -/
def Obligations.ReportsUpdateTheRecords : Prop :=
  (∀ (s : State) (h : Head) (b : ReportBody) (w : Winder), driveWinder h.link = some w →
    h.length = (if h.link = .rockDrive then 20 else 12) →
    (∀ r, readReport w s.now b = some r →
      exec (.positionReport h b) s =
        .next ((s.answering (s.heard h .positionReport) h .positionReport (.done, .nothing)).takeReport w r) ∧
      Completes (.positionReport h b) s (fun t =>
        t.reports = s.reports.set w (some r) ∧ (t.winder w).silent = .clear ∧
        (∀ d ∈ drumsOf w, t.drumDepth.get d = some (s.uncorrected d (r.reading d).count)) ∧
        (∀ c ∈ conveyancesOf w,
          let depth := s.depthOf c (s.uncorrected (drumOf c) (r.reading (drumOf c)).count)
          let q := (s.position c).takeReport s.work.tracking depth
            (if c = .counterweight then -(r.reading (drumOf c)).speed else (r.reading (drumOf c)).speed)
          let p := t.position c
          p.estimate = q.estimate ∧ p.band = q.band ∧ p.base = q.base ∧ p.travel = q.travel ∧ p.speed = q.speed ∧
          p.rest = q.rest ∧ p.direction = q.direction ∧ p.correction = q.correction ∧ p.lastMarker = q.lastMarker ∧
          p.state = (if (s.position c).state ≠ .lost ∧ (s.work.tracking.ambiguity < q.band ∨ depthInRange depth = false)
            then .lost else (s.position c).state)) ∧
        (∀ c, ownerOf c ≠ w → t.position c = s.position c) ∧
        t.sent.head? = some (s.replyTo h .positionReport (.done, .nothing)))) ∧
    (readReport w s.now b = none →
      s.Reads (.positionReport h b) h .positionReport (.refused .outOfRange, .nothing))) ∧
  (∀ (s before : State) (w : Winder) (r : Report),
     let checked := ((s.storeReport w r).updateRecords w r).motionCheck (s.winder w).state w
     let zoned := ((s.rebuildAtReport before w).handAndCompare w).handTouch w
     let stopped := zoned.stopAtRest (before.winder w).state w
     let clutched := match r.clutch with
       | none => stopped
       | some c => stopped.takeClutch c
     s.takeReport w r = ((checked.pairCheck r.clutch).handReport s w r).settle w ∧
     s.handReport before w r =
       (match w with
        | .service => clutched.takeDriveState w r
        | .rock => (clutched.takeDriveState w r).formReadiness)) ∧
  (∀ (s : State) (w : Winder) (r : Report),
     let a := firstConveyance w
     let b := secondConveyance w
     let drums := (drumsOf w).foldl (fun s d => s.takeDrum r d) s
     let records := (drums.takeRecord r a).takeRecord r b
     let lost (c : Conveyance) : Prop := (s.position c).state ≠ .lost ∧ (records.position c).state = .lost
     let report (c : Conveyance) : FaultReport := ⟨.positionLost, .trip, w, some c, none, none, none⟩
     let u := s.updateRecords w r
     (conveyancesOf w = [a, b] ∧ records = { drums with positions := records.positions } ∧
       ∀ c ∈ conveyancesOf w,
         let depth := s.depthOf c (s.uncorrected (drumOf c) (r.reading (drumOf c)).count)
         (lost c ↔ (s.position c).state ≠ .lost ∧
           (s.work.tracking.ambiguity < (records.position c).band ∨ depthInRange depth = false))) ∧
     (¬lost a → ¬lost b → u = records) ∧ (lost a → ¬lost b → u = records.deliver (report a)) ∧
     (¬lost a → lost b → u = records.deliver (report b)) ∧
     (lost a → lost b → u = (records.deliver (report a)).deliver (report b))) ∧
  (∀ (s : State) (st : WinderState) (w : Winder),
     let u := s.motionCheck st w
     let found (c : Conveyance) : Prop :=
       ownerOf c = w ∧ c ≠ .counterweight ∧ (s.position c).armed = true ∧
         ((s.position c).rest = false ∨ ∃ a d, (s.position c).motionRef = some a ∧
           s.drumDepth.get (drumOf c) = some d ∧ s.work.tracking.unpermitted < (d - a).natAbs)
     let rested := (conveyancesOf w).all (fun c => (s.position c).rest)
     let takes (p : Position) : Bool :=
       if p.armed then p.motionRef.isNone else (st == .tripped || st == .lockout) && rested
     let referred (armed : Bool) (c : Conveyance) : Position :=
       let p := s.position c
       if ownerOf c ≠ w then p
       else if takes p then { p with motionRef := s.drumDepth.get (drumOf c), armed := armed }
       else { p with armed := p.armed && armed }
     let after (armed : Bool) : State :=
       { s with
         positions := ⟨referred armed .cage, referred armed .counterweight, referred armed .skip0, referred armed .skip1⟩ }
     ((∀ c, ¬found c) → u = after true) ∧
     (∀ c, found c → (c = .skip1 → ¬found .skip0) →
       u = (after false).deliver ⟨.unpermittedMotion, .trip, w, some c, none, none, none⟩)) ∧
  (∀ (s : State) (c : Option Clutch),
     let u := s.pairCheck c
     let checked : State := { s with startupCheck := false }
     (c ≠ some .closed → u = s) ∧
     (c = some .closed →
       (s.pairing = .unpaired ∨ (s.position .skip0).estimate = none ∨ (s.position .skip1).estimate = none →
         u = checked) ∧
       (∀ p a b, s.pairing = .paired p → (s.position .skip0).estimate = some a → (s.position .skip1).estimate = some b →
         let d := a + b - (s.work.rockPoints.tip.depth + (s.work.rockPoints.get p.point).depth)
         let report (v : Severity) : FaultReport := ⟨.pairDisagreement, v, .rock, none, none, none, some d⟩
         (d.natAbs ≤ s.work.tracking.pair →
           u = { checked with pairBeyond := if s.startupCheck = true then s.pairBeyond else false }) ∧
         (s.work.tracking.pair < d.natAbs → s.startupCheck = true → u = (checked.deliver (report .note)).unpair) ∧
         (s.work.tracking.pair < d.natAbs → s.startupCheck = false → s.pairBeyond = true → u = checked) ∧
         (s.work.tracking.pair < d.natAbs → s.startupCheck = false → s.pairBeyond = false →
           u = ({ checked with pairBeyond := true } : State).deliver (report .trip)))))

/-- What a marker pass does: applied (R25), with the disagreement it delivers, of an unknown code, or on a record that no pass
may correct (R26). That the pass estimate starts from the estimate at the latest report is log 17, that its quotient takes a
half away from zero log 43, the order of the work log 13, and the closing run of planner and offer log 12. -/
def Obligations.MarkerPassesCorrectTheRecord : Prop :=
  (∀ (s : State) (c : Conveyance) (code : Nat),
    (∀ m e r, s.work.markers.find? (fun m => m.id == code && m.compartment == c) = some m →
      (s.position c).state ≠ .lost → (s.position c).reportEstimate = some e → s.reports.get (ownerOf c) = some r →
      let d := m.depth - (e + roundDiv ((s.position c).speed * (((s.now - r.at_).toNat : Nat) : Int)) 1000)
      Completes (.markerPass c code) s (fun t =>
        let p := t.position c
        p.estimate = some m.depth ∧ p.base = m.accuracy ∧ p.band = m.accuracy ∧ p.travel = 0 ∧
        p.lastMarker = some m.id ∧ p.correction = (s.position c).correction + d ∧ p.state = .valid ∧
        p.speed = (s.position c).speed ∧ p.rest = (s.position c).rest ∧
        t.lastPass = s.lastPass.set c (some s.now) ∧
        (∀ x, x ≠ c → (t.position x).correction = (s.position x).correction ∧
          (t.position x).estimate = (s.position x).estimate)) ∧
      (let w := ownerOf c
       let corrected : State :=
         { s with
           sent := []
           lastPass := s.lastPass.set c (some s.now)
           positions := s.positions.set c
             { s.position c with
               estimate := some m.depth, base := m.accuracy, band := m.accuracy, travel := 0, lastMarker := some m.id
               correction := (s.position c).correction + d, state := .valid } }
       let rebuilt := (corrected.raiseDisagreement c d).rebuildSet c
       exec (.markerPass c code) s =
         .next ((((rebuilt.deliverAll (rebuilt.entryFaults w c (s.position c) false)).handOn w).readyStaged w).settle w))) ∧
    (s.work.markers.find? (fun m => m.id == code && m.compartment == c) = none →
      exec (.markerPass c code) s =
        .next (({ s with sent := [], lastPass := s.lastPass.set c (some s.now) } : State).deliver
          ⟨.unknownMarker, .note, ownerOf c, some c, none, none, some code⟩)) ∧
    (∀ m, s.work.markers.find? (fun m => m.id == code && m.compartment == c) = some m →
      ((s.position c).state = .lost ∨ (s.position c).reportEstimate = none) →
      exec (.markerPass c code) s = .next { s with sent := [], lastPass := s.lastPass.set c (some s.now) })) ∧
  (∀ (s : State) (c : Conveyance) (d : Int),
    let x := s.work.tracking
    let report (v : Severity) : FaultReport := ⟨.markerDisagreement, v, ownerOf c, some c, none, none, some d⟩
    (x.trip < d.natAbs → s.raiseDisagreement c d = s.deliver (report .trip)) ∧
    (x.warn < d.natAbs → d.natAbs ≤ x.trip → s.raiseDisagreement c d = s.deliver (report .note)) ∧
    (d.natAbs ≤ x.warn → d.natAbs ≤ x.trip → s.raiseDisagreement c d = s))

/-! ## Zone Table -/

/-- A conveyance touches a zone that applies to it when the zone's depths meet its interval, which is to share a depth; its
zone set, at each rebuild, is the ascending list of the numbers of the zones it touches, empty where its record holds no
estimate (R37). -/
def Obligations.TouchingIsSharingADepth : Prop :=
  (∀ (c : Conveyance) (p : Position) (z : Zone),
    (touches c p z = true ↔
      z.mask.get c = true ∧ ∃ e, p.estimate = some e ∧ e - p.band ≤ z.lower ∧ z.upper ≤ e + p.band) ∧
    (z.upper ≤ z.lower →
      (touches c p z = true ↔
        z.mask.get c = true ∧ ∃ e, p.estimate = some e ∧
          ∃ x : Int, e - p.band ≤ x ∧ x ≤ e + p.band ∧ z.upper ≤ x ∧ x ≤ z.lower))) ∧
  (∀ (s : State) (c : Conveyance),
    ((s.rebuildSet c).position c).zoneSet = s.touched c ∧
    (∀ n, n ∈ s.touched c ↔ ∃ z, (n, z) ∈ s.zones ∧ touches c (s.position c) z = true) ∧
    (zonesOrdered s.zones = true → (s.touched c).Pairwise (· < ·)) ∧
    ((s.position c).estimate = none → s.touched c = []))

/-- The cap is the least of its terms that are present in RUNNING and STOPPING, the term named the first of those that give
that value in the order of the table, and 0 in every other state (R47). -/
def Obligations.CapIsTheLeastTerm : Prop :=
  ∀ (s : State) (w : Winder),
    (s.inMotion w = false → s.capOf w = ⟨0, none⟩) ∧
    (∀ l, s.inMotion w = true → s.activeLeg w = some l →
      let inSet (n : Nat) (c : Conveyance) : Prop := n ∈ (s.position c).zoneSet
      let wide := ∃ c ∈ conveyancesOf w, s.work.tracking.creepThreshold < (s.position c).band
      let cap := s.capOf w
      let place : CapTerm → Nat
        | .cls => 0
        | .slow _ => 1
        | .passing _ => 2
        | .creepBand => 3
        | .approach => 4
        | .inspection => 5
      let least (row value : Nat) : Prop := cap.speed ≤ value ∧ (∀ t, cap.term = some t → row < place t → cap.speed < value)
      least 0 (s.work.classes.get l.cls).maxSpeed ∧
      (∀ n z v, (n, z) ∈ s.zones → z.kind = .slow → z.cap = some v → (∃ c ∈ conveyancesOf w, inSet n c) → least 1 v) ∧
      (∀ n z v, (n, z) ∈ s.zones → z.kind = .passing → z.cap = some v → (∀ c ∈ conveyancesOf w, inSet n c) →
        least 2 v) ∧
      (wide → least 3 s.work.classes.creep.maxSpeed) ∧
      ((s.winder w).state = .running → least 4 (s.approachLimit l)) ∧
      ((s.winder w).mode = .inspection → least 5 s.work.classes.inspection.maxSpeed) ∧
      (match cap.term with
       | none => False
       | some .cls => cap.speed = (s.work.classes.get l.cls).maxSpeed
       | some (.slow n) =>
         (∃ c ∈ conveyancesOf w, inSet n c) ∧ ∃ z, (n, z) ∈ s.zones ∧ z.kind = .slow ∧ z.cap = some cap.speed
       | some (.passing n) =>
         (∀ c ∈ conveyancesOf w, inSet n c) ∧ ∃ z, (n, z) ∈ s.zones ∧ z.kind = .passing ∧ z.cap = some cap.speed
       | some .creepBand => wide ∧ cap.speed = s.work.classes.creep.maxSpeed
       | some .approach => (s.winder w).state = .running ∧ cap.speed = s.approachLimit l
       | some .inspection => (s.winder w).mode = .inspection ∧ cap.speed = s.work.classes.inspection.maxSpeed))

/-- The approach limit is the greater of the Creep speed and the whole square root of 2ad, and the approach distance the
least d that reaches the class maximum speed; d is the distance from the leading conveyance's estimate to its target, in the
sense of the leg's direction, and 0 past the target (R48). That d is 0 without an estimate is log 49. -/
def Obligations.ApproachLimitIsTheWholeRoot : Prop :=
  (∀ (s : State) (l : Leg), 2 * (s.work.classes.get l.cls).decel * s.toGo l < 2 ^ 64 →
    ∃ r, r * r ≤ 2 * (s.work.classes.get l.cls).decel * s.toGo l ∧
      2 * (s.work.classes.get l.cls).decel * s.toGo l < (r + 1) * (r + 1) ∧
      s.approachLimit l = max s.work.classes.creep.maxSpeed r) ∧
  (∀ c : ClassSettings, 0 < c.decel →
    c.maxSpeed * c.maxSpeed ≤ 2 * c.decel * c.approachDistance ∧
    ∀ d, c.maxSpeed * c.maxSpeed ≤ 2 * c.decel * d → c.approachDistance ≤ d) ∧
  (∀ (s : State) (l : Leg) (m : LegMotion), l.motions.find? (fun m => m.conveyance == l.leading) = some m →
    (∀ e, (s.position l.leading).estimate = some e →
      (l.direction = .descending → (s.toGo l : Int) = max (m.target - e) 0) ∧
      (l.direction = .ascending → (s.toGo l : Int) = max (e - m.target) 0)) ∧
    ((s.position l.leading).estimate = none → s.toGo l = 0))

/-- WRITE ZONE and REMOVE ZONE: their tests in order, the entry that is placed or freed, and the zone sets that are rebuilt,
those of the old mask and the new (R38, R39, R40). That the speed cap stands behind a presence byte, and that a SLOW or
PASSING zone without one is out of range, is log 53; the byte that codes a class mask log 58; that a code that names nothing,
a number above 63 or a label that is not printable fails with the range test, or with REMOVE ZONE first, log 19. Both winders
being PARKED, both caps are 0 and neither holds a slow cap; what a slow cap held all the same would become, and the SLOW that
would be sent, is left open. -/
def Obligations.ZonesAreWrittenAndRemoved : Prop :=
  let frame (s t : State) : Prop :=
    t = { s with ports := t.ports, frameErrors := t.frameErrors, snapshot := none, sent := t.sent, zones := t.zones,
                 positions := t.positions, caps := ⟨⟨0, none⟩, ⟨0, none⟩⟩, restricted := t.restricted,
                 winders := t.winders, drives := t.drives } ∧
    (∀ w, t.restricted.get w = t.restrictedTouch w ∧
      t.winder w =
        { s.winder w with
          recovery := (s.winder w).recovery && t.restrictedTouch w
          slowCap := (t.winder w).slowCap }) ∧
    ((∀ w, (s.winder w).slowCap = none) → t.drives = s.drives ∧ t.sent.length = 1 ∧ ∀ w, (t.winder w).slowCap = none)
  let rebuilt (s t : State) (c : Conveyance) (masked : Prop) : Prop :=
    (masked → (t.position c).zoneSet = t.touched c) ∧ (¬masked → (t.position c).zoneSet = (s.position c).zoneSet) ∧
    t.position c =
      { s.position c with zoneSet := (t.position c).zoneSet, suppressed := (t.position c).suppressed }
  ∀ (s : State) (h : Head),
    let unparked : Prop := ∃ w, (s.winder w).state ≠ .parked
    let isWork (n : Nat) : Prop := ∃ z, tableGet s.zones n = some z ∧ z.kind = .work
    (∀ number kind mask upper lower cap label,
      s.admits h .writeZone
        (optionalSize 1 (Presence.of number) + 10 + optionalSize 2 (Presence.of cap) + listSize label) none →
      let cmd := Instr.writeZone h (.of number) kind mask upper lower (.of cap) label
      let no (r : Reason) : Prop := s.Reads cmd h .writeZone (.refused r, .nothing)
      let masked (c : Conveyance) : Bool := mask.testBit c.ctorIdx
      let capped : Prop := kind = 0 ∨ kind = 1
      TestsInOrder no
        [(kind = 2, .wrongKind),
         ((∃ n, number = some n ∧ n < 16) ∧ s.commissioning = false, .notCommissioning),
         (unparked, .notParked),
         (∃ n, number = some n ∧ isWork n, .workZone),
         (number = none ∧ (∀ n, 16 ≤ n → n < 64 → tableGet s.zones n ≠ none), .tableFull),
         ((∃ n, number = some n ∧ 64 ≤ n) ∨ 5 ≤ kind ∨ 16 ≤ mask ∨ labelOk label = false ∨ upper < -60000 ∨ 3200000 < upper ∨
            lower < -60000 ∨ 3200000 < lower ∨ lower ≤ upper ∨ mask = 0 ∨
            (capped ∧ (cap = none ∨ ∃ v, cap = some v ∧ (v < 100 ∨ 18000 < v))), .outOfRange),
         (kind = 1 ∧ ¬(masked .cage = true ∧ masked .counterweight = true) ∧ ¬(masked .skip0 = true ∧ masked .skip1 = true),
          .outOfRange)]
        (∃ n z k, (number = some n ∨ number = none ∧ 16 ≤ n ∧ n < 64 ∧ tableGet s.zones n = none ∧
            ∀ m, 16 ≤ m → m < n → tableGet s.zones m ≠ none) ∧
          zoneKindCode kind = some k ∧ z.kind = k ∧ (∀ c, z.mask.get c = masked c) ∧ z.upper = upper ∧ z.lower = lower ∧
          (capped → z.cap = cap) ∧ (¬capped → z.cap = none) ∧ z.label = label ∧
          Completes cmd s (fun t =>
            (∀ m, tableGet t.zones m = if m = n then some z else tableGet s.zones m) ∧
            (∀ c, rebuilt s t c (z.mask.get c = true ∨ ∃ old, tableGet s.zones n = some old ∧ old.mask.get c = true)) ∧
            frame s t ∧ t.sent.getLast? = some (s.replyTo h .writeZone (.done, .zoneNumber n))))) ∧
    (∀ n, s.admits h .removeZone 1 none →
      let no (r : Reason) : Prop := s.Reads (.removeZone h n) h .removeZone (.refused r, .nothing)
      TestsInOrder no
        [(64 ≤ n, .outOfRange),
         (n < 16 ∧ s.commissioning = false, .notCommissioning),
         (unparked, .notParked),
         (tableGet s.zones n = none, .noSuchZone),
         (isWork n, .workZone)]
        (∀ z, tableGet s.zones n = some z →
          Completes (.removeZone h n) s (fun t =>
            (∀ m, tableGet t.zones m = if m = n then none else tableGet s.zones m) ∧
            (∀ c, n ∉ (t.position c).suppressed ∧ rebuilt s t c (z.mask.get c = true)) ∧
            frame s t ∧ t.sent.getLast? = some (s.replyTo h .removeZone (.done, .nothing)))))

/-- ADD WORK ZONE and REMOVE WORK ZONE (R41, R43, R44), the zone sets rebuilt and the caps and the restricted touch handed on
(R38, R49, R53), and the planner's run after the Held-work calls are released; the entry that ADD WORK ZONE proposes and the lowest free ordinary
number (R41); when a proposed zone is occupied (R41); the path of a conveyance, the paths of an active trip, and what the path
check answers (R45, R46). A label that is not printable or a mask above 15, which fails with the range test, and a number above
63 are log 19; that the printable characters are the codes 32 to 126 is log 28, the model's choice; the byte that codes a class
mask log 58; the closing run of planner and offer log 12. -/
def Obligations.WorkZonesAreAddedAndRemoved : Prop :=
  let rebuilt (s u : State) (z : Zone) : Prop :=
    (∀ c, (z.mask.get c = true → (u.position c).zoneSet = u.touched c) ∧
      (z.mask.get c = false → (u.position c).zoneSet = (s.position c).zoneSet) ∧
      u.position c = { s.position c with zoneSet := (u.position c).zoneSet, suppressed := (u.position c).suppressed }) ∧
    ∀ w, u.caps.get w = u.capOf w ∧ u.restricted.get w = u.restrictedTouch w ∧
      u.winder w =
        { s.winder w with
          recovery := (s.winder w).recovery && u.restrictedTouch w
          slowCap := (u.winder w).slowCap }
  (∀ (s : State) (h : Head),
    (∀ mask upper lower label z n, readWorkZone mask upper lower label = some z → lowestFreeOrdinary s.zones = some n →
      s.admits h .addWorkZone (9 + listSize label) none →
      (s.zoneOccupied z = true →
        s.Reads (.addWorkZone h mask upper lower label) h .addWorkZone (.refused .zoneOccupied, .nothing)) ∧
      (s.zoneOccupied z = false →
        Completes (.addWorkZone h mask upper lower label) s (fun t =>
          16 ≤ n ∧ n < 64 ∧ tableGet s.zones n = none ∧
          (∀ m, tableGet t.zones m = if m = n then some z else tableGet s.zones m) ∧
          t.recordWrite = some ⟨⟨s.bars, workEntries t.zones, true⟩, s.now + 10#32⟩ ∧
          rebuilt (s.heard h .addWorkZone) t z ∧
          t = { s.heard h .addWorkZone with
                sent := t.sent, zones := t.zones, positions := t.positions, caps := t.caps, restricted := t.restricted
                winders := t.winders, drives := t.drives, recordWrite := t.recordWrite } ∧
          t.sent.getLast? = some (s.replyTo h .addWorkZone (.done, .zoneNumber n))))) ∧
    (∀ n z, n < 64 → tableGet s.zones n = some z →
      s.admits h .removeWorkZone 1 none →
      (z.kind ≠ .work → s.Reads (.removeWorkZone h n) h .removeWorkZone (.refused .notAWorkZone, .nothing)) ∧
      (z.kind = .work →
        (∃ u : State,
          s.Answers (.removeWorkZone h n) h .removeWorkZone ((u.settle .service).settle .rock) (.done, .nothing) ∧
          (∀ m, tableGet u.zones m = if m = n then none else tableGet s.zones m) ∧
          (∀ c, n ∉ (u.position c).suppressed) ∧ rebuilt (s.heard h .removeWorkZone) u z ∧
          (∀ w, u.queues.get w =
            (s.queues.get w).map (fun c => if c.state = .heldWork then { c with state := .waiting } else c)) ∧
          u.recordWrite = some ⟨⟨s.bars, workEntries u.zones, true⟩, s.now + 10#32⟩ ∧
          u = { s.heard h .removeWorkZone with
                sent := u.sent, zones := u.zones, positions := u.positions, caps := u.caps, restricted := u.restricted
                winders := u.winders, drives := u.drives, queues := u.queues, recordWrite := u.recordWrite }) ∧
        Completes (.removeWorkZone h n) s (fun t =>
          (∀ m, tableGet t.zones m = if m = n then none else tableGet s.zones m) ∧
          t.recordWrite = some ⟨⟨s.bars, workEntries t.zones, true⟩, s.now + 10#32⟩ ∧ t.bars = s.bars ∧
          (∀ c, n ∉ (t.position c).suppressed) ∧
          (∀ w, s.isIn w .parked = true →
            t.queues.get w = (s.queues.get w).map (fun c => if c.state = .heldWork then { c with state := .waiting } else c)) ∧
          t.sent.getLast? = some (s.replyTo h .removeWorkZone (.done, .nothing))))) ∧
    (∀ n, n < 64 → tableGet s.zones n = none → s.admits h .removeWorkZone 1 none →
      s.Reads (.removeWorkZone h n) h .removeWorkZone (.refused .noSuchZone, .nothing)) ∧
    (∀ n, 64 ≤ n → s.admits h .removeWorkZone 1 none →
      s.Reads (.removeWorkZone h n) h .removeWorkZone (.refused .outOfRange, .nothing)) ∧
    (∀ mask upper lower label, s.admits h .addWorkZone (9 + listSize label) none →
      (readWorkZone mask upper lower label = none →
        s.Reads (.addWorkZone h mask upper lower label) h .addWorkZone (.refused .outOfRange, .nothing)) ∧
      (∀ z, readWorkZone mask upper lower label = some z → lowestFreeOrdinary s.zones = none →
        s.Reads (.addWorkZone h mask upper lower label) h .addWorkZone (.refused .tableFull, .nothing)))) ∧
  (∀ (mask : Nat) (upper lower : Int) (label : List Nat) (z : Zone),
    readWorkZone mask upper lower label = some z ↔
      z.kind = .work ∧ (∀ c, z.mask.get c = mask.testBit c.ctorIdx) ∧ z.upper = upper ∧ z.lower = lower ∧ z.cap = none ∧
      z.label = label ∧ 1 ≤ mask ∧ mask ≤ 15 ∧ -60000 ≤ upper ∧ upper < lower ∧ lower ≤ 3200000 ∧ label.length ≤ 12 ∧
      ∀ x ∈ label, 32 ≤ x ∧ x ≤ 126) ∧
  (∀ (t : List (Nat × Zone)) (n : Nat),
    (lowestFreeOrdinary t = some n ↔
      16 ≤ n ∧ n < 64 ∧ tableGet t n = none ∧ ∀ m, 16 ≤ m → m < n → tableGet t m ≠ none) ∧
    (lowestFreeOrdinary t = none ↔ ∀ m, 16 ≤ m → m < 64 → tableGet t m ≠ none)) ∧
  (∀ (s : State) (z : Zone),
    s.zoneOccupied z = true ↔
      (∃ c, z.mask.get c = true ∧ ((s.position c).estimate = none ∨ touches c (s.position c) z = true)) ∨
      (∃ w t p, z.meetsPath p = true ∧
        (((s.pipe w).active = some t ∧ p ∈ s.activePaths t) ∨ ((s.pipe w).staged = some t ∧ p ∈ s.stagedPaths t.legs)))) ∧
  (∀ (s : State) (c : Conveyance) (origin : Int) (targets : List Int),
    let p := s.path c origin targets
    let band : Int := (s.position c).band
    p.conveyance = c ∧
    ((s.position c).estimate = none → p.interval = ⟨-60000, 3200000⟩) ∧
    ((s.position c).estimate ≠ none →
      (∃ a ∈ origin :: targets, p.interval.lo = a - band) ∧ (∃ a ∈ origin :: targets, p.interval.hi = a + band) ∧
      ∀ a ∈ origin :: targets, p.interval.lo ≤ a - band ∧ a + band ≤ p.interval.hi)) ∧
  (∀ (s : State) (t : Trip) (p : Path),
    p ∈ s.activePaths t ↔ ∃ c, (∃ l ∈ t.legs.drop (t.current - 1), c ∈ l.conveyances) ∧
      p = s.path c ((s.position c).estimate.getD 0) ((t.legs.drop (t.current - 1)).filterMap (fun l => l.target c))) ∧
  (∀ (z : Zone) (p : Path),
    z.meetsPath p = true ↔ z.mask.get p.conveyance = true ∧ p.interval.lo ≤ z.lower ∧ z.upper ≤ p.interval.hi) ∧
  (∀ (s : State) (kind : ZoneKind) (paths : List Path) (skips : Conveyance → Nat → Bool), zonesOrdered s.zones = true →
    let met (n : Nat) : Prop :=
      ∃ z, (n, z) ∈ s.zones ∧ z.kind = kind ∧ ∃ p ∈ paths, z.meetsPath p = true ∧ skips p.conveyance n = false
    (s.pathCheck kind paths skips = none ↔ ∀ n, ¬met n) ∧
    ∀ n, s.pathCheck kind paths skips = some n ↔ met n ∧ ∀ m, met m → n ≤ m)

/-- The faults of a rebuild at a report or marker pass: each zone that joins the set, or in which motion begins
(R50, R51), in ascending zone number, motion beginning where the rest flag was set at the report before and is clear at this
one; the suppression lists, filled as a recovery leg is accepted and thinned by each rebuild (R52); the restricted touch
condition, which clears Recovery when it is false, and the targets it bars (R53, R110). -/
def Obligations.EntryFaultsAreThoseOfTheZonesJoined : Prop :=
  let restricted (k : ZoneKind) : Prop := k = .overwind ∨ k = .work ∨ k = .inspect
  (∀ (s : State) (w : Winder) (c : Conveyance) (before : Position) (moves : Bool) (f : FaultReport),
    f ∈ s.entryFaults w c before moves ↔
      (s.position c).state ≠ .lost ∧ before.estimate ≠ none ∧
      ∃ n z k, (n, z) ∈ s.zones ∧ n ∈ (s.position c).zoneSet ∧ n ∉ (s.position c).suppressed ∧
        (n ∉ before.zoneSet ∨ moves = true) ∧
        ((z.kind = .overwind ∧ k = .overwind) ∨
          (z.kind = .work ∧ (s.position c).rest = false ∧ k = .workZoneEntry) ∨
          (z.kind = .inspect ∧ (s.winder w).mode ≠ .inspection ∧ k = .inspectZoneEntry)) ∧
        f = ⟨k, .trip, w, some c, none, some n, none⟩) ∧
  (∀ (s : State) (w : Winder) (c : Conveyance) (before : Position) (moves : Bool), zonesOrdered s.zones = true →
    ((s.entryFaults w c before moves).filterMap (·.zone)).Pairwise (· < ·)) ∧
  (∀ (s before : State) (w : Winder),
     let a := firstConveyance w
     let b := secondConveyance w
     let t := (s.rebuildSet a).rebuildSet b
     let moves (c : Conveyance) : Bool := decide ((before.position c).rest = true ∧ (s.position c).rest = false)
     s.rebuildAtReport before w =
       (t.entryFaults w a (before.position a) (moves a) ++ t.entryFaults w b (before.position b) (moves b)).foldl
         State.deliver t) ∧
  (∀ (s : State) (w : Winder),
     let u := s.suppressWinder w
     let accepted : State := { s with pipes := s.pipes.set w (s.pipe w).accept }
     (∀ c ∈ conveyancesOf w,
       (∀ n, n ∈ (u.position c).suppressed ↔ ∃ z, (n, z) ∈ s.zones ∧
         (n ∈ (s.position c).suppressed ∨ (n ∈ (s.position c).zoneSet ∧ restricted z.kind))) ∧
       u.position c = { s.position c with suppressed := (u.position c).suppressed }) ∧
     (∀ c, ownerOf c ≠ w → u.position c = s.position c) ∧ u = { s with positions := u.positions } ∧
     (∀ t, (accepted.pipe w).active = some t →
       (t.recovery = true → s.acceptOffer w = ((accepted.suppressWinder w).changeState w .running).handAndCompare w) ∧
       (t.recovery = false → s.acceptOffer w = (accepted.changeState w .running).handAndCompare w))) ∧
  (∀ (s : State) (c : Conveyance),
     let p := (s.rebuildSet c).position c
     (∀ n, n ∈ p.suppressed ↔ n ∈ (s.position c).suppressed ∧ n ∈ s.touched c) ∧
     p = { s.position c with zoneSet := s.touched c, suppressed := p.suppressed }) ∧
  (∀ (s : State) (w : Winder),
     (s.restrictedTouch w = true ↔
       ∃ c ∈ conveyancesOf w, ∃ n ∈ (s.position c).zoneSet, ∃ z, tableGet s.zones n = some z ∧ restricted z.kind) ∧
     s.handTouch w =
       { s with
         restricted := s.restricted.set w (s.restrictedTouch w)
         winders := s.winders.set w
           { s.winder w with recovery := (s.winder w).recovery && s.restrictedTouch w } }) ∧
  (∀ (s : State) (c : Conveyance) (target : Int),
     s.targetRestricted c target = true ↔
       ∃ n z, (n, z) ∈ s.zones ∧ n ∈ (s.position c).zoneSet ∧ restricted z.kind ∧ z.upper ≤ target ∧ target ≤ z.lower)

/-! ## Call Manager -/

/-- A cage call is tested in the order of R58 and refused by the first test that fails, and one that passes is merged,
admitted or refused "Queue full" (R58, R59, R61), and so is a cycle (R60); when two calls ask the same (R59, R60), the order
of decks and of their rider counts (R55), the admission count (R59), the ids that are live, and the id of an admitted call,
the first after the last assigned that is not (R56). The number of decks that a link allows, and that a priority field on the
signal link has no effect, are log 40, and so is that a priority byte which no code assigns is refused before "Deck
repeated", on that link too; the closing run of planner and offer is log 12. A priority call that merges moves its entry to the
head, its priority flag set (R59, R61); a skip that names none is out of range (R60). -/
def Obligations.CallsAreMergedOrAdmitted : Prop :=
  (∀ (s : State) (h : Head) (n k : Nat) (decks : List Nat) (riders : Option (List Nat)) (payload : Option Nat) (p : Nat),
     s.admits h .call (callSize decks (.of riders) (.of payload)) none →
     let cmd := Instr.call h n k decks (.of riders) (.of payload) p
     (16 ≤ n ∨ 2 ≤ k ∨ (∃ d ∈ decks, 3 ≤ d) ∨ 2 ≤ p ∨ (h.link = .signal ∧ decks.length ≠ 1) ∨
         (h.link ≠ .signal ∧ (decks.length < 1 ∨ 3 < decks.length)) ∨
         (∃ l, riders = some l ∧ ∃ x ∈ l, 255 < x) ∨ (∃ m, payload = some m ∧ 65535 < m) →
       s.Reads cmd h .call (.refused .outOfRange, .nothing)) ∧
     (∀ st c ds prio r, stationCode n = some st → cageClassCode k = some c → codes deckCode decks = some ds →
       flagCode p = some prio → deckCountOk h.link decks = true → countsInRange riders payload = true →
       s.cageCallTests st c ds riders payload = some r →
       s.Answers cmd h .call ((s.heard h .call).settle .service) (.refused r, .nothing))) ∧
  (∀ (s : State) (st : Fin 16) (c : Machine.Class) (ds : List Deck) (riders : Option (List Nat)) (payload : Option Nat),
     c = .men ∨ c = .material →
     let tests := s.cageCallTests st c ds riders payload
     TestsInOrder (fun r => tests = some r)
       [((c = .material ∧ riders ≠ none) ∨ (c = .men ∧ payload ≠ none) ∨ (∃ l, riders = some l ∧ l.length ≠ ds.length),
         .outOfRange),
        (¬ds.Nodup, .deckRepeated),
        ((s.work.stations[st]).inService = false, .notInService),
        ((∃ d ∈ ds, (s.work.stations[st]).decks.has d = false), .deckNotServed)]
       (tests = none)) ∧
  ((∀ st st' c c' ds ds' riders riders' payload payload',
      (CallWork.cage st c ds riders payload).merges (.cage st' c' ds' riders' payload') = true ↔
        st = st' ∧ c = c' ∧ ∀ d, d ∈ ds ↔ d ∈ ds') ∧
   (∀ k k', (CallWork.cycle k).merges (.cycle k') = true ↔ k = k') ∧
   (∀ (q : List Call) (id : Nat),
      moveToHead q id =
        (match q.find? (fun c => c.id == id) with
         | some c => { c with priority := true } :: q.filter (fun c => c.id != id)
         | none => q.filter (fun c => c.id != id))) ∧
   (∀ st c ds riders payload k, (CallWork.cage st c ds riders payload).merges (.cycle k) = false ∧
      (CallWork.cycle k).merges (.cage st c ds riders payload) = false) ∧
   (∀ ds : List Deck, orderedDecks ds = [Deck.upper, .middle, .lower].filter (fun d => decide (d ∈ ds))) ∧
   (∀ (ds : List Deck) (l : List Nat), ds.Nodup → l.length = ds.length →
      (orderedRiders ds l).length = ds.length ∧
      ∀ d x, (d, x) ∈ (orderedDecks ds).zip (orderedRiders ds l) ↔ (d, x) ∈ ds.zip l)) ∧
  (∀ (s : State) (w : Winder) (id : Nat),
     s.admissionCount w = (s.queues.get w).length + (if (s.pipe w).staged = none then 0 else 1) ∧
     (id ∈ s.liveIds w ↔
       (∃ c ∈ s.queues.get w, c.id = id) ∨ (∃ t c, (s.pipe w).staged = some t ∧ t.source = some c ∧ c.id = id) ∨
       (∃ t c, (s.pipe w).active = some t ∧ t.source = some c ∧ c.id = id) ∨ (∃ e ∈ s.ended.get w, e.id = id))) ∧
  (∀ (s : State) (h : Head),
     (∀ n k decks riders payload p st c ds prio, stationCode n = some st → cageClassCode k = some c →
       codes deckCode decks = some ds → flagCode p = some prio → deckCountOk h.link decks = true →
       countsInRange riders payload = true → countsOk c ds riders payload = true → ds.Nodup →
       (s.work.stations[st]).inService = true → (∀ d ∈ ds, (s.work.stations[st]).decks.has d = true) →
       s.admits h .call (callSize decks (.of riders) (.of payload)) none →
       let work := CallWork.cage st c (orderedDecks ds) (riders.map (orderedRiders ds)) payload
       let q := s.queues.get .service
       let first := prio && h.link == .console
       let cmd := Instr.call h n k decks (.of riders) (.of payload) p
       (∀ e, q.find? (fun x => x.work.merges work) = some e →
         s.Answers cmd h .call
           (({ s.heard h .call with queues := s.queues.set .service (if first then moveToHead q e.id else q) } :
             State).settle .service) (.merged, .callId e.id)) ∧
       ((∀ x ∈ q, x.work.merges work = false) → s.admissionCount .service < 24 →
         let call : Call := ⟨s.nextCallId .service, h.link, work, first, if s.bars[st] then .heldBar else .waiting, s.now⟩
         s.Answers cmd h .call
           (({ s.heard h .call with
               queues := s.queues.set .service (if first then call :: q else q ++ [call])
               lastCallId := s.lastCallId.set .service call.id } : State).settle .service) (.done, .callId call.id)) ∧
       ((∀ x ∈ q, x.work.merges work = false) → 24 ≤ s.admissionCount .service →
         s.Answers cmd h .call ((s.heard h .call).settle .service) (.refused .queueFull, .nothing))) ∧
     (∀ n, 2 ≤ n → s.admits h .cycle 1 none → s.Reads (.cycle h n) h .cycle (.refused .outOfRange, .nothing)) ∧
     (∀ n k, skipCode n = some k → s.admits h .cycle 1 none →
       let q := s.queues.get .rock
       (∀ e, q.find? (fun x => x.work.merges (.cycle k)) = some e →
         s.Answers (.cycle h n) h .cycle ((s.heard h .cycle).settle .rock) (.merged, .callId e.id)) ∧
       ((∀ x ∈ q, x.work.merges (.cycle k) = false) → s.admissionCount .rock < 4 →
         let call : Call :=
           ⟨s.nextCallId .rock, h.link, .cycle k, false, if s.pairing = .unpaired then .heldPairing else .waiting, s.now⟩
         s.Answers (.cycle h n) h .cycle
           (({ s.heard h .cycle with
               queues := s.queues.set .rock (q ++ [call])
               lastCallId := s.lastCallId.set .rock call.id } : State).settle .rock) (.done, .callId call.id)) ∧
       ((∀ x ∈ q, x.work.merges (.cycle k) = false) → 4 ≤ s.admissionCount .rock →
         s.Answers (.cycle h n) h .cycle ((s.heard h .cycle).settle .rock) (.refused .queueFull, .nothing)))) ∧
  (∀ (s : State) (w : Winder), (s.liveIds w).length < 250 → 1 ≤ s.lastCallId.get w → s.lastCallId.get w ≤ 250 →
     1 ≤ s.nextCallId w ∧ s.nextCallId w ≤ 250 ∧ s.nextCallId w ∉ s.liveIds w ∧
     ∃ k, s.nextCallId w = (s.lastCallId.get w + k) % 250 + 1 ∧
       ∀ j < k, (s.lastCallId.get w + j) % 250 + 1 ∈ s.liveIds w)

/-- The assembly is opened, added to, closed into a call, merged or refused, and abandoned at 20 s (R65 to R68), the call that
it closes into tested as R58 states, in an order that is spelled out for CALL and again here; a presence byte of CLOSE CALL
that no code assigns is refused out of range, after "No decks", as the assembly closes (log 46). A station, class or deck that
no code names is out of range (R65, R66). That an early ASSEMBLY_TIMEOUT only empties the frames sent is log 2; the closing run
of planner and offer is log 12. -/
def Obligations.AssemblyBuildsACall : Prop :=
  ∀ (s : State) (h : Head),
    (∀ n k st c, stationCode n = some st → cageClassCode k = some c → s.admits h .openCall 2 none →
      ((s.work.stations[st]).inService = true →
        s.Answers (.openCall h n k) h .openCall { s.heard h .openCall with assembly := some ⟨st, c, [], s.now⟩ }
          (.done, .nothing)) ∧
      ((s.work.stations[st]).inService = false →
        s.Reads (.openCall h n k) h .openCall (.refused .notInService, .nothing))) ∧
    (∀ n k, 16 ≤ n ∨ 2 ≤ k → s.admits h .openCall 2 none →
      s.Reads (.openCall h n k) h .openCall (.refused .outOfRange, .nothing)) ∧
    (∀ n a, s.assembly = some a → 3 ≤ n → s.admits h .addDeck 1 none →
      s.Reads (.addDeck h n) h .addDeck (.refused .outOfRange, .nothing)) ∧
    (∀ n a d, s.assembly = some a → deckCode n = some d → s.admits h .addDeck 1 none →
      s.Answers (.addDeck h n) h .addDeck
        (if d ∈ a.decks ∨ (s.work.stations[a.station]).decks.has d = false ∨ 3 ≤ a.decks.length then s.heard h .addDeck
          else { s.heard h .addDeck with assembly := some { a with decks := a.decks ++ [d] } })
        (if d ∈ a.decks then (.refused .deckRepeated, .nothing)
          else if (s.work.stations[a.station]).decks.has d = false then (.refused .deckNotServed, .nothing)
          else if 3 ≤ a.decks.length then (.refused .assemblyFull, .nothing)
          else (.done, .nothing))) ∧
    (s.assembly = none →
      (∀ n, s.admits h .addDeck 1 none → s.Reads (.addDeck h n) h .addDeck (.refused .noAssembly, .nothing)) ∧
      (∀ riders payload, s.admits h .closeCall (ridersSize riders + optionalSize 2 payload) none →
        s.Reads (.closeCall h riders payload) h .closeCall (.refused .noAssembly, .nothing))) ∧
    (∀ a riders payload, s.assembly = some a → s.admits h .closeCall (ridersSize riders + optionalSize 2 payload) none →
      let closed : State := { s.heard h .closeCall with assembly := none }
      (a.decks = [] → s.Answers (.closeCall h riders payload) h .closeCall closed (.refused .noDecks, .nothing)) ∧
      (a.decks ≠ [] → riders.read = none ∨ payload.read = none →
        s.Answers (.closeCall h riders payload) h .closeCall closed (.refused .outOfRange, .nothing))) ∧
    (∀ a riders payload, s.assembly = some a →
      s.admits h .closeCall (ridersSize (Presence.of riders) + optionalSize 2 (Presence.of payload)) none →
      let cmd := Instr.closeCall h (.of riders) (.of payload)
      let closed : State := { s.heard h .closeCall with assembly := none }
      let q := s.queues.get .service
      let work := CallWork.cage a.station a.cls (orderedDecks a.decks) (riders.map (orderedRiders a.decks)) payload
      let tests := s.cageCallTests a.station a.cls a.decks riders payload
      (a.decks ≠ [] → countsInRange riders payload = false →
        s.Answers cmd h .closeCall closed (.refused .outOfRange, .nothing)) ∧
      (∀ r, a.decks ≠ [] → countsInRange riders payload = true → tests = some r →
        s.Answers cmd h .closeCall (closed.settle .service) (.refused r, .nothing)) ∧
      (a.cls = .men ∨ a.cls = .material →
        TestsInOrder (fun r => tests = some r)
          [((a.cls = .material ∧ riders ≠ none) ∨ (a.cls = .men ∧ payload ≠ none) ∨
              (∃ l, riders = some l ∧ l.length ≠ a.decks.length), .outOfRange),
           (¬a.decks.Nodup, .deckRepeated),
           ((s.work.stations[a.station]).inService = false, .notInService),
           ((∃ d ∈ a.decks, (s.work.stations[a.station]).decks.has d = false), .deckNotServed)]
          (tests = none)) ∧
      (a.decks ≠ [] → countsInRange riders payload = true → tests = none →
        (∀ e, q.find? (fun x => x.work.merges work) = some e →
          s.Answers cmd h .closeCall (closed.settle .service) (.merged, .callId e.id)) ∧
        ((∀ x ∈ q, x.work.merges work = false) → 24 ≤ s.admissionCount .service →
          s.Answers cmd h .closeCall (closed.settle .service) (.refused .queueFull, .nothing)) ∧
        ((∀ x ∈ q, x.work.merges work = false) → s.admissionCount .service < 24 →
          let call : Call :=
            ⟨s.nextCallId .service, h.link, work, false, if s.bars[a.station] then .heldBar else .waiting, s.now⟩
          s.Answers cmd h .closeCall
            (({ closed with
                queues := s.queues.set .service (q ++ [call])
                lastCallId := s.lastCallId.set .service call.id } : State).settle .service) (.done, .callId call.id)))) ∧
    (∀ a, s.assembly = some a →
      exec .assemblyTimeout s =
        .next { s with
          sent := []
          assembly := if 20000 ≤ (s.now - a.openedAt).toNat then none else some a })

/-- CANCEL CALL by the place where the call is (R63), and the expiry of an ended call after 60 s (R64); the end of an active
trip and of a staged one, with the outcome records, the ended call and the counter that it brings (R64, R86 to R88, R161); a
staged trip withdrawn, and a call returned, which absorbs an equal entry (R62, R90); the state in which the end of an active
trip leaves its winder (R98). That an early expiry only empties the frames sent is log 2; the closing run of planner and offer
is log 12. -/
def Obligations.CallsAreCancelledAndExpire : Prop :=
  (∀ (s : State) (h : Head) (n id : Nat) (w : Winder), winderCode n = some w →
    s.admits h .cancelCall 2 (some n) →
    let cmd := Instr.cancelCall h n id
    ((∃ c ∈ s.queues.get w, c.id = id) →
      s.Answers cmd h .cancelCall
        (({ s.heard h .cancelCall with
            queues := s.queues.set w ((s.queues.get w).filter (fun c => c.id != id))
            ended := s.ended.set w (addEnded (s.ended.get w) ⟨id, s.now, .cancelled⟩) } : State).settle w)
        (.done, .nothing)) ∧
    ((∀ c ∈ s.queues.get w, c.id ≠ id) →
      (∀ t c, (s.pipe w).staged = some t → t.source = some c → c.id = id →
        s.Answers cmd h .cancelCall (((s.heard h .cancelCall).discardStaged w .withdrawn).settle w) (.done, .nothing)) ∧
      ((∀ t c, (s.pipe w).staged = some t → t.source = some c → c.id ≠ id) →
        (∀ t c, (s.pipe w).active = some t → t.source = some c → c.id = id →
          s.Reads cmd h .cancelCall (.refused .inProgress, .nothing)) ∧
        ((∀ t c, (s.pipe w).active = some t → t.source = some c → c.id ≠ id) →
          s.Reads cmd h .cancelCall (.refused .noSuchCall, .nothing))))) ∧
  (∀ (s : State) (w : Winder) (id : Nat),
    exec (.endedCallExpiry w id) s =
      .next { s with
        sent := []
        ended := s.ended.set w
          ((s.ended.get w).filter (fun e => !(e.id == id && decide (60000 ≤ (s.now - e.at_).toNat)))) }) ∧
  (∀ (l : List Ended) (e : Ended), addEnded l e = (l ++ [e]).drop (l.length + 1 - 16)) ∧
  (∀ (s : State) (w : Winder) (o : TripOutcome),
    let p := s.pipe w
    let k := s.counters.get w
    let counted : Counters :=
      match o with
      | .completed | .completedRelevelled => { k with completed := min (k.completed + 1) 4294967295 }
      | .aborted => { k with aborted := min (k.aborted + 1) 4294967295 }
      | .landingFailed => { k with landingFailures := min (k.landingFailures + 1) 4294967295 }
      | .heldPartial | .stopped | .stoppedBar | .driveRefused | .payloadRefused | .withdrawn => k
    let ended (t : Trip) : PerWinder (List Ended) :=
      match t.source with
      | none => s.ended
      | some c => s.ended.set w (addEnded (s.ended.get w) ⟨c.id, s.now, .tripEnded t.number o⟩)
    (p.active = none → s.endActive w o = s) ∧
    (∀ t, p.active = some t → s.endActive w o =
      { s with
        pipes := s.pipes.set w
          { p with active := none, offer := none, settle := none, prior := p.latest, latest := some ⟨t.number, o⟩ }
        repair := if t.kind = .rePair then none else s.repair
        clutchTimer := if t.kind = .rePair then none else s.clutchTimer
        ended := ended t
        counters := s.counters.set w counted }) ∧
    (p.staged = none → s.discardStaged w o = s) ∧
    (∀ t, p.staged = some t → s.discardStaged w o =
      { s with
        pipes := s.pipes.set w
          { p with
            staged := none
            offer := if p.active = none then none else p.offer
            prior := p.latest
            latest := some ⟨t.number, o⟩ }
        ended := ended t
        counters := s.counters.set w counted })) ∧
  (∀ (s : State) (w : Winder) (st : CallState),
    let p := s.pipe w
    let emptied : State :=
      { s with
        pipes := s.pipes.set w { p with staged := none, offer := if p.active = none then none else p.offer } }
    (∀ t c, p.staged = some t → t.source = some c → s.withdrawStaged w st = emptied.returnCall w c st) ∧
    ((∀ t, p.staged = some t → t.source = none) → s.withdrawStaged w st = s.discardStaged w .withdrawn)) ∧
  (∀ (s : State) (w : Winder) (c : Call) (st : CallState),
    let q := s.queues.get w
    let unpaired := (∃ k, c.work = .cycle k) ∧ st = .waiting ∧ s.pairing = .unpaired
    ∀ placed, (unpaired → placed = .heldPairing) → (¬unpaired → placed = st) →
      ((∀ x ∈ q, x.work.merges c.work = false) →
        s.returnCall w c st = { s with queues := s.queues.set w ({ c with state := placed } :: q) }) ∧
      (∀ e, q.find? (fun x => x.work.merges c.work) = some e →
        s.returnCall w c st =
          { s with
            queues := s.queues.set w
              ({ c with state := placed, priority := c.priority || e.priority } :: q.filter (fun x => x.id != e.id))
            ended := s.ended.set w (addEnded (s.ended.get w) ⟨e.id, s.now, .absorbed c.id⟩) })) ∧
  (∀ (s : State) (w : Winder) (o : TripOutcome),
    let t := s.endActive w o
    let parked := t.changeState w .parked
    ((s.winder w).holdPending = true → s.endAndPark w o =
      { parked with
        winders := parked.winders.set w { parked.winder w with held := true, holdPending := false } }) ∧
    ((s.winder w).holdPending = false → s.endAndPark w o = t.changeState w .idle))

/-- BAR STATION and CLEAR BARS (R70, R71, R178), what a bar newly set does to the staged and the active trip that land at its
station (R91), and the entry to STOPPING (R101). The closing run of planner and offer is log 12, and STOP as the first frame
of the entry log 37. -/
def Obligations.BarsAreSetAndCleared : Prop :=
  (∀ (s : State) (h : Head),
    (∀ n, 16 ≤ n → s.admits h .barStation 1 none →
      s.Reads (.barStation h n) h .barStation (.refused .outOfRange, .nothing)) ∧
    (∀ n st, stationCode n = some st → s.admits h .barStation 1 none →
      (s.bars[st] = true → s.Reads (.barStation h n) h .barStation (.done, .nothing)) ∧
      (s.bars[st] = false →
        s.Answers (.barStation h n) h .barStation
          ((((s.heard h .barStation).setBar st).startRecordWrite).settle .service) (.done, .nothing) ∧
        Completes (.barStation h n) s (fun t =>
          t.bars = s.bars.set st true ∧
          t.recordWrite = some ⟨⟨s.bars.set st true, workEntries s.zones, true⟩, s.now + 10#32⟩ ∧
          t.queues.get .rock = s.queues.get .rock ∧ t.zones = s.zones ∧ t.work = s.work ∧
          (s.isIn .service .parked = true → (s.pipe .service).staged = none →
            t.queues.get .service = (s.queues.get .service).map (fun c =>
              if c.state = .waiting ∧ c.work.names st = true then { c with state := .heldBar } else c)) ∧
          t.sent.getLast? = some (s.replyTo h .barStation (.done, .nothing))))) ∧
    (s.admits h .clearBars 0 none →
      (s.bars = Vector.replicate 16 false → s.Reads (.clearBars h) h .clearBars (.done, .nothing)) ∧
      (s.bars ≠ Vector.replicate 16 false →
        s.Answers (.clearBars h) h .clearBars
          (({ s.heard h .clearBars with
              bars := Vector.replicate 16 false
              queues := s.queues.set .service
                ((s.queues.get .service).map (fun c => if c.state = .heldBar then { c with state := .waiting } else c))
              recordWrite := some ⟨⟨Vector.replicate 16 false, workEntries s.zones, true⟩, s.now + 10#32⟩ } :
            State).settle .service) (.done, .nothing) ∧
        Completes (.clearBars h) s (fun t =>
          t.bars = Vector.replicate 16 false ∧
          t.recordWrite = some ⟨⟨Vector.replicate 16 false, workEntries s.zones, true⟩, s.now + 10#32⟩ ∧
          t.queues.get .rock = s.queues.get .rock ∧ t.zones = s.zones ∧ t.work = s.work ∧
          (s.isIn .service .parked = true →
            t.queues.get .service = (s.queues.get .service).map (fun c =>
              if c.state = .heldBar then { c with state := .waiting } else c)) ∧
          t.sent.getLast? = some (s.replyTo h .clearBars (.done, .nothing)))))) ∧
  (∀ (s : State) (st : Fin 16),
     let held : State := { s with
       bars := s.bars.set st true
       queues := s.queues.set .service ((s.queues.get .service).map (fun c =>
         if c.state = .waiting ∧ c.work.names st = true then { c with state := .heldBar } else c)) }
     let lands (slot : Option Trip) : Bool := slot.any (fun t => t.station == some st)
     let state := (s.winder .service).state
     let u := if lands (s.pipe .service).staged then held.withdrawStaged .service .heldBar else held
     (lands (s.pipe .service).active = false → s.setBar st = u) ∧
     (lands (s.pipe .service).active = true →
       (state = .running → s.setBar st = u.enterStopping .service .bar) ∧
       (state = .stopping →
         s.setBar st = { u with winders := s.winders.set .service { s.winder .service with stopCause := some .bar } }) ∧
       (state = .settling ∨ state = .dwelling → s.setBar st = u.endAndPark .service .stoppedBar) ∧
       (state ≠ .running → state ≠ .stopping → state ≠ .settling → state ≠ .dwelling → s.setBar st = u))) ∧
  (∀ (s : State) (w : Winder) (cause : StopCause) (a : Trip), (s.winder w).state = .running →
     ({ s with winders := s.winders.set w { s.winder w with state := .stopping } } : State).belowCritical w = true →
     (s.pipe w).active = some a →
     let u := s.enterStopping w cause
     (u.winder w).state = .stopping ∧ (u.winder w).permit = true ∧ (u.winder w).stopCause = some cause ∧
     (u.winder w).stopStarted = some s.now ∧ (u.pipe w).active = some a ∧ (u.pipe w).staged = none ∧ s.Withdrawn u w ∧
     ∃ later, u.sent = s.sent ++ .order w (s.drives.get w).tagCount (.stop a.number) :: later)

/-! ## Trip Pipeline -/

/-- A planner that may not run does nothing; one that runs stages the trip of the first Waiting call that passes (R77, R78),
with the next trip number (R74), after each Waiting call before it has been put in its held state where it stands or removed
to the ended-call list (R57, R64); the trip built from a call, the legs of a cage trip and of a rock cycle (R79, R80), the
ratings (R13), and the origins and paths of a planned trip (R45, R78). That the counterweight's target takes both corrections
is log 36, that a first leg of a cage whose record holds no estimate is not of zero length log 59, and that a cycle staged while
another is active is not ready log 54. -/
def Obligations.ThePlannerStagesTheFirstWaitingCall : Prop :=
  (∀ (s : State) (w : Winder),
    (s.plannerRuns w = true ↔
      (s.winder w).mode = .automatic ∧ (s.pipe w).staged = none ∧ (s.winder w).holdPending = false ∧
      ((s.winder w).state = .idle ∨ (s.winder w).state = .running ∨ (s.winder w).state = .settling ∨
        (s.winder w).state = .dwelling) ∧
      (w = .rock → s.pairing ≠ .unpaired)) ∧
    (s.plannerRuns w = false → s.plan w = s) ∧
    (∀ work, s.barred work = true ↔ ∃ st k decks riders payload, work = .cage st k decks riders payload ∧ s.bars[st] = true) ∧
    (∀ c n, overNone c n = false) ∧
    (∀ c work, c.work = work →
      s.validate w c =
        if s.barred work = true then .hold .heldBar
        else if s.pathCheck .work (s.stagedPaths (s.callLegs work)) overNone ≠ none then .hold .heldWork
        else
          match s.pathCheck .inspect (s.stagedPaths (s.callLegs work)) overNone with
          | some n => .remove (.refusedZone n)
          | none => if work.overRating = true then .remove .refusedLoad else .stage (s.callTrip w c)) ∧
    (∀ c t, s.plannerRuns w = true → (s.queues.get w).find? (fun c => c.state == .waiting) = some c →
      s.validate w c = .stage t →
      t = s.callTrip w c ∧ t.number = (if 65535 ≤ (s.pipe w).lastTrip then 1 else (s.pipe w).lastTrip + 1) ∧
      t.source = some c ∧
      ((s.plan w).pipe w).lastTrip = t.number ∧
      (∃ u, ((s.plan w).pipe w).staged = some u ∧ u = { t with ready := u.ready } ∧
        (w = .service → u.ready = false) ∧
        (∀ k, w = .rock → c.work = .cycle k → (u.ready = true ↔ s.ReadyToRise k))) ∧
      (s.plan w).queues = s.queues.set w ((s.queues.get w).filter (fun x => x.id != c.id))) ∧
    (s.plannerRuns w = true → (∀ c ∈ s.queues.get w, c.state ≠ .waiting) → s.plan w = s) ∧
    (∀ c, s.plannerRuns w = true → (s.queues.get w).find? (fun c => c.state == .waiting) = some c →
      (∀ st, s.validate w c = .hold st →
        s.plan w =
          ({ s with
            queues := s.queues.set w
              ((s.queues.get w).map (fun x => if x.id = c.id then { x with state := st } else x)) } : State).plan w) ∧
      (∀ reason, s.validate w c = .remove reason →
        s.plan w =
          ({ s with
            queues := s.queues.set w ((s.queues.get w).filter (fun x => x.id != c.id))
            ended := s.ended.set w (addEnded (s.ended.get w) ⟨c.id, s.now, reason⟩) } : State).plan w))) ∧
  (∀ (s : State) (w : Winder) (c : Call),
    (∀ st k decks riders payload, c.work = .cage st k decks riders payload →
      s.callLegs c.work = s.cageLegs (s.work.stations[st]) decks k ∧
      (c.work.overRating = true ↔
        (∃ l n, riders = some l ∧ n ∈ l ∧ 60 < n) ∨ (∃ mass, payload = some mass ∧ 12000 < mass)) ∧
      s.callTrip w c = ⟨s.nextTrip w, .cage, k, some c, some st, s.callLegs c.work, 1, false, false, 0, 0, false⟩) ∧
    (∀ k, c.work = .cycle k →
      s.callLegs c.work = s.cycleLegs k ∧ c.work.overRating = false ∧
      s.callTrip w c = ⟨s.nextTrip w, .rockCycle, .rock, some c, none, s.cycleLegs k, 1, false, false, 0, 0, false⟩)) ∧
  (∀ (s : State) (st : Station) (decks : List Deck) (k : Machine.Class) (depth : Int) (highest lowest : Deck),
    st.depth = some depth → decks.Sublist [.upper, .middle, .lower] → decks.head? = some highest →
    decks.getLast? = some lowest →
    let index : Deck → Int
      | .upper => 0
      | .middle => 1
      | .lower => 2
    let target (d : Deck) : Int := depth - index d * (s.work.pitch : Int)
    let other (d : Deck) : Int :=
      (s.work.span : Int) - target d + (s.position .cage).correction + (s.position .counterweight).correction
    let origin := s.planOrigin .cage
    let down := origin < target lowest ∨ (origin ≤ target highest ∧ origin - target lowest ≤ target highest - origin)
    let leg (d : Deck) (cls : Machine.Class) (dir : Direction) : Leg :=
      ⟨[⟨.cage, target d, some st.window⟩, ⟨.counterweight, other d, some st.window⟩], .cage, some d, cls, dir, 0, .pending⟩
    let moved := ∃ t l x, (s.pipe .service).active = some t ∧ t.legs.getLast? = some l ∧ l.target .cage = some x
    let standsIn (d : Deck) : Prop :=
      (moved ∧ (origin - target d).natAbs ≤ st.window) ∨
      (¬moved ∧ ∃ e, (s.position .cage).estimate = some e ∧ target d - st.window ≤ e - (s.position .cage).band ∧
        e + (s.position .cage).band ≤ target d + st.window)
    ∀ first later approach, (down → first :: later = decks.reverse ∧ approach = .descending) →
      (¬down → first :: later = decks ∧ approach = .ascending) →
      ∃ head, s.cageLegs st decks k = head :: later.map (fun d => leg d k approach) ∧
        (standsIn first → head = leg first .creep approach) ∧
        (¬standsIn first → head = leg first k head.direction ∧
          (origin < target first → head.direction = .descending) ∧
          (target first < origin → head.direction = .ascending))) ∧
  (∀ (s : State) (k : Skip) (p : Pocket), s.pairing = .paired p →
    let tip := s.work.rockPoints.tip
    let low := s.work.rockPoints.get p.point
    s.cycleLegs k =
      [⟨[⟨k.conveyance, tip.depth, some tip.window⟩, ⟨k.other.conveyance, low.depth, some low.window⟩], k.conveyance, none,
        .rock, .ascending, 0, .pending⟩]) ∧
  (∀ (s : State) (c : Conveyance),
    (∀ t l x, (s.pipe (ownerOf c)).active = some t → t.legs.getLast? = some l → l.target c = some x →
      s.planOrigin c = x) ∧
    ((∀ t l, (s.pipe (ownerOf c)).active = some t → t.legs.getLast? = some l → l.target c = none) →
      ∀ e, (s.position c).estimate = some e → s.planOrigin c = e)) ∧
  (∀ (s : State) (legs : List Leg) (p : Path),
    p ∈ s.stagedPaths legs ↔ ∃ c, (∃ l ∈ legs, c ∈ l.conveyances) ∧
      p = s.path c (s.planOrigin c) (legs.filterMap (fun l => l.target c)))

/-- READY by the slot of the trip it names (R81, R126), and the end of a back-off (R85); when the first leg of a staged trip is
offered (R6, R83, R135), and the run of the planner and the offer that end an event, taken again where the offer has emptied
the staged slot (R77, R88; log 12). That an early BACKOFF_END changes nothing but the frames sent is log 2. -/
def Obligations.ReadyLeadsToOffers : Prop :=
  (∀ (s : State) (h : Head) (trip leg : Nat), s.admits h .ready 3 none →
    let cmd := Instr.ready h trip leg
    let p := s.pipe .service
    (∀ t, p.staged = some t → t.number = trip →
      (leg ≠ 1 → s.Reads cmd h .ready (.refused .wrongLeg, .nothing)) ∧
      (leg = 1 → p.active ≠ none → s.Reads cmd h .ready (.refused .notAtRest, .nothing)) ∧
      (leg = 1 → p.active = none →
        s.Answers cmd h .ready
          (({ s.heard h .ready with
              pipes := s.pipes.set .service { p with staged := some { t with ready := true } } } : State).settle .service)
          (.done, .nothing))) ∧
    ((∀ t, p.staged = some t → t.number ≠ trip) →
      (∀ t, p.active = some t → t.number = trip →
        ((s.winder .service).state ≠ .dwelling → s.Reads cmd h .ready (.refused .notAtRest, .nothing)) ∧
        ((s.winder .service).state = .dwelling → leg ≠ t.current →
          s.Reads cmd h .ready (.refused .wrongLeg, .nothing)) ∧
        ((s.winder .service).state = .dwelling → leg = t.current → p.offer ≠ none →
          s.Reads cmd h .ready (.done, .nothing)) ∧
        ((s.winder .service).state = .dwelling → leg = t.current → p.offer = none →
          s.Answers cmd h .ready (((s.heard h .ready).offerLeg .service).settle .service) (.done, .nothing))) ∧
      ((∀ t, p.active = some t → t.number ≠ trip) → s.Reads cmd h .ready (.refused .noSuchTrip, .nothing)))) ∧
  (∀ (s : State) (w : Winder) (e : Time), (s.pipe w).offer = some (.backoff e) →
    (reached s.now e = true → exec (.backoffEnd w) s = .next ((({ s with sent := [] } : State).offerLeg w).settle w)) ∧
    (reached s.now e = false → exec (.backoffEnd w) s = .next (({ s with sent := [] } : State).settle w))) ∧
  (∀ (s : State) (w : Winder),
    s.canOffer w = true ↔
      ∃ t, (s.pipe w).staged = some t ∧ t.ready = true ∧ (s.pipe w).active = none ∧ (s.winder w).state = .idle ∧
        (s.monitor w).running = true ∧ (s.winder w).holdPending = false ∧ (s.pipe w).offer = none ∧
        ∀ l, t.leg = some l → .skip0 ∈ l.conveyances → .skip1 ∈ l.conveyances → s.pairing ≠ .unpaired) ∧
  (∀ (s : State) (w : Winder),
    let planned := s.plan w
    let offered := planned.offerLeg w
    (planned.canOffer w = false → s.settle w = planned) ∧
    (planned.canOffer w = true → (offered.pipe w).staged ≠ none → s.settle w = offered) ∧
    (planned.canOffer w = true → (offered.pipe w).staged = none → s.settle w = offered.settle w))

/-- An offer whose checks pass sends GRANT and awaits its reply for 500 ms; a WORK zone on its path ends the trip or its offer
(R83, R90, R139); the first offer of a rock cycle is preceded by the payload check (R134); the drums of GRANT and their
target counts (R83); the paths of a single leg, and the WORK zones that a recovery trip passes over (R45, R83). A coupled leg
found Unpaired is offered no further (R135, log 27). That the quotient is rounded before
the reference count is added is log 43. -/
def Obligations.OffersSendGrant : Prop :=
  let grants (s u : State) (w : Winder) (t : Trip) (l : Leg) : Prop :=
    let tag := (s.drives.get w).tagCount
    let c := s.work.classes.get l.cls
    (u.pipe w).offer = some (.awaiting tag (s.now + 500#32)) ∧
    (∃ x, (u.pipe w).onOffer = some x ∧ x.granted = true ∧ x.leg = some { l with state := .offered } ∧
      x.number = t.number ∧ x.current = t.current ∧ x.offerCount = t.offerCount) ∧
    u.sent = s.sent ++ [.order w tag (.grant t.number t.current c.maxSpeed c.decel (s.grantDrums w l))] ∧
    u.winders = s.winders ∧ u.positions = s.positions ∧ u.queues = s.queues ∧ u.faults = s.faults
  (∀ (s : State) (w : Winder) (t : Trip) (l : Leg), (s.pipe w).onOffer = some t → t.leg = some l →
     let u := s.offerLeg w
     let coupling := l.isCoupled = true ∧ s.pairing = .unpaired
     let clear := s.pathCheck .work (s.legPaths l) (s.overOwn t.recovery) = none
     (coupling → u = { s with pipes := s.pipes.set w { s.pipe w with offer := none } }) ∧
     (¬coupling → clear → (t.isRockCycle = true → t.granted = true) → grants s u w t l) ∧
     (¬coupling → ¬clear → (s.pipe w).active = none →
       u = s.withdrawStaged w .heldWork ∧ (u.pipe w).staged = none ∧ (u.pipe w).offer = none ∧ u.sent = s.sent ∧
       (∀ c, t.source = some c → (∀ x ∈ s.queues.get w, x.work.merges c.work = false) →
         u.queues.get w = { c with state := .heldWork } :: s.queues.get w) ∧
       (t.source = none → u.queues = s.queues ∧ (u.pipe w).latest = some ⟨t.number, .withdrawn⟩)) ∧
     (¬coupling → ¬clear → (s.pipe w).active ≠ none →
       (w = .rock → (s.winder .rock).state = .clutching → t.kind = .rePair →
         u = { s with
           pipes := s.pipes.set .rock { s.pipe .rock with offer := none }
           repair := s.repair.map (fun r => { r with offerEnd := some .stopped })
           clutchTimer := some (s.clutchTimer.getD (s.now + 20000#32)) }) ∧
       (¬((s.winder w).state = .clutching ∧ t.kind = .rePair) → u = s.endAndPark w .stopped)) ∧
     (∀ k r m, ¬coupling → clear → w = .rock → (s.pipe .rock).active = none → t.isRockCycle = true → t.granted = false →
       skipOf l.leading = some k → s.reports.get .rock = some r → (s.skips.get k).contents = .loaded m →
       let measured := (r.reading (drumOf k.conveyance)).load
       let apart := s.work.payloadTolerance < max measured m - min measured m
       let note : FaultReport := ⟨.payloadMismatch, .note, .rock, some k.conveyance, some t.number, none, none⟩
       (Config.skipRating < measured ∨ (apart ∧ s.work.payloadAction = .refuse) →
         (u.pipe .rock).staged = none ∧ (u.pipe .rock).latest = some ⟨t.number, .payloadRefused⟩ ∧
         (u.pipe .rock).prior = (s.pipe .rock).latest ∧ u.skips = s.skips.set k ⟨.suspect, s.now⟩ ∧ u.sent = s.sent ∧
         u.winders = s.winders ∧ u.queues = s.queues ∧
         (s.faults.length < 16 → ∃ e, u.faults = s.faults ++ [e] ∧ e.kind = .payloadMismatch ∧ e.severity = .note ∧
           e.conveyance = some k.conveyance ∧ e.trip = some t.number)) ∧
       (measured ≤ Config.skipRating → apart → s.work.payloadAction = .flag →
         grants (s.deliver note) u .rock t l ∧ u.skips = s.skips) ∧
       (measured ≤ Config.skipRating → ¬apart → grants s u .rock t l ∧ u.skips = s.skips))) ∧
  (∀ (s : State) (w : Winder) (l : Leg),
     (s.grantDrums w l).map (·.drum) = (drumsOf w).filter (fun d => (l.target (drumOwner d)).isSome) ∧
     ∀ g, g ∈ s.grantDrums w l ↔
       g.drum ∈ drumsOf w ∧ l.target (drumOwner g.drum) = some g.target ∧ g.count = s.targetCount g.drum g.target) ∧
  (∀ (s : State) (d : Drum) (target : Int),
     let ref := s.work.references.get d
     let q := s.targetCount d target - ref.count
     let x := (target - (s.position (drumOwner d)).correction - ref.depth) * (s.work.scales.get d : Int)
     2 * |q * 1000 - x| ≤ 1000 ∧ (2 * |q * 1000 - x| = 1000 → |x| ≤ |q * 1000|)) ∧
  (∀ (s : State) (l : Leg) (p : Path),
     p ∈ s.legPaths l ↔
       ∃ c ∈ l.conveyances, p = s.path c ((s.position c).estimate.getD 0) (l.target c).toList) ∧
  (∀ (s : State) (recovery : Bool) (c : Conveyance) (n : Nat),
     s.overOwn recovery c n = true ↔ recovery = true ∧ n ∈ (s.position c).zoneSet)

/-- Replies to GRANT: an acceptance, a refusal or a late reply (R84, R85, R86), and the expiry of the wait, a refusal where
the GRANT is still the offer's and otherwise only the end of its entry (R85, R170); an early one only empties the frames sent
(log 2). A refusal raises the offer count and the refusals counter, and below the eighth backs off by a whole number of 250 ms
slots below 2 to the lesser of the count and the limit, offering again at once where that number is 0; the eighth ends the
offer DRIVE REFUSED with its Note (R85, R139). The draw is the free value of log 7, the trip and leg of a GRANT VOID for a tag
never sent those of log 9; the arrival of a reply's frame is that of log 26, the Note after the trip has ended log 24, and the
closing run of planner and offer log 12. -/
def Obligations.GrantRepliesActOnTheOffer : Prop :=
  (∀ (s : State) (w : Winder) (tag code : Nat),
     let matched := s.replyMatched w .grant tag
     let awaited := ∃ a ∈ (s.drives.get w).awaited, a.kind = .grant ∧ a.tag = tag
     let due := ∃ a ∈ (s.drives.get w).awaited, a.kind = .grant ∧ a.tag = tag ∧ reached s.now a.expiry = true
     let expired : State :=
       { s with
         sent := []
         drives := s.drives.set w
           { s.drives.get w with awaited := (s.drives.get w).awaited.filter (fun a => !(a.kind == .grant && a.tag == tag)) } }
     (awaited → (∃ e, (s.pipe w).offer = some (.awaiting tag e)) →
       exec (.grantReply w tag code) s =
         .next ((if code = 1 then matched.acceptOffer w else matched.refuseOffer w).settle w)) ∧
     ((¬awaited ∨ (∀ e, (s.pipe w).offer ≠ some (.awaiting tag e))) →
       exec (.grantReply w tag code) s =
         .next ((if code = 1 then
             matched.sendOrder w (.grantVoid (s.grantOf w tag).1 (s.grantOf w tag).2)
           else matched).settle w)) ∧
     (s.isIn w .running = false →
       ({ s with
          pipes := s.pipes.set w (s.pipe w).accept
          winders := s.winders.set w { s.winder w with state := .running } } : State).belowCritical w = true →
       ∀ t l, (s.pipe w).active.or (s.pipe w).staged = some t → t.leg = some l →
         let u := s.acceptOffer w
         (u.winder w).state = .running ∧ (u.winder w).permit = true ∧ (u.winder w).brakeDemand = false ∧
         (u.pipe w).offer = none ∧
         (∃ x, (u.pipe w).active = some x ∧ x.number = t.number ∧ x.offerCount = 0 ∧
           x.leg = some { l with state := .moving }) ∧
         ((s.pipe w).active = none → (u.pipe w).staged = none)) ∧
     (due → (∃ e, (s.pipe w).offer = some (.awaiting tag e)) →
       exec (.grantReplyTimeout w tag) s = .next ((expired.refuseOffer w).settle w)) ∧
     (due → (∀ e, (s.pipe w).offer ≠ some (.awaiting tag e)) →
       exec (.grantReplyTimeout w tag) s = .next (expired.settle w)) ∧
     (¬due → exec (.grantReplyTimeout w tag) s = .next (({ s with sent := [] } : State).settle w))) ∧
  (∀ (s : State) (w : Winder) (t : Trip), (s.pipe w).onOffer = some t →
     let u := s.refuseOffer w
     let r := Config.backoffDraw s.draws % 2 ^ min (t.offerCount + 1) (s.work.offerLimit.get w)
     let counted : State :=
       { s with
         counters := s.counters.set w
           { s.counters.get w with driveRefusals := saturate ((s.counters.get w).driveRefusals + 1) }
         pipes := s.pipes.set w
           { (s.pipe w).withOffered (fun t => { t with offerCount := t.offerCount + 1 }) with offer := none } }
     let note : FaultReport := ⟨.driveRefused, .note, w, none, none, none, none⟩
     (counted.pipe w).onOffer = some { t with offerCount := t.offerCount + 1 } ∧
     (t.offerCount < 7 →
       u = if r = 0 then ({ counted with draws := s.draws + 1 } : State).offerLeg w
         else
           { counted with
             draws := s.draws + 1
             pipes := counted.pipes.set w
               { counted.pipe w with offer := some (.backoff (s.now + BitVec.ofNat 32 (250 * r))) } }) ∧
     (t.offerCount = 7 → (s.pipe w).active = none →
       u = (counted.discardStaged w .driveRefused).deliver note ∧
       (u.pipe w).staged = none ∧ (u.pipe w).offer = none ∧ (u.pipe w).latest = some ⟨t.number, .driveRefused⟩ ∧
       (u.pipe w).prior = (s.pipe w).latest ∧
       (u.counters.get w).driveRefusals = saturate ((s.counters.get w).driveRefusals + 1) ∧ u.winders = s.winders) ∧
     (t.offerCount = 7 → (s.pipe w).active ≠ none →
       (w = .rock → (s.winder .rock).state = .clutching → t.kind = .rePair →
         u = ({ counted with
             repair := s.repair.map (fun x => { x with offerEnd := some .driveRefused })
             clutchTimer := some (s.clutchTimer.getD (s.now + 20000#32)) } : State).deliver note) ∧
       (¬((s.winder w).state = .clutching ∧ t.kind = .rePair) →
         u = (counted.endAndPark w .driveRefused).deliver note ∧ (u.pipe w).active = none ∧
         (t.kind ≠ .rePair → (u.pipe w).latest = some ⟨t.number, .driveRefused⟩))))

/-- MANUAL TRIP and INSPECT TRIP are tested in the order of R93 and R94 and refused by the first test that fails; where all pass
they stage a trip with the next number (R74, R93, R94, R109); the fields of a trip as it is built (R78) and the leg of an
inspection trip (R94). That a MANUAL TRIP whose winder code names none is refused out of range with a body of any length is log
20, that the other service target takes both corrections log 36; the closing run of planner and offer is log 12. -/
def Obligations.ConsoleTripsAreStaged : Prop :=
  (∀ (s : State) (h : Head),
    let shared (w : Winder) (m : Mode) (r : Reason) (busy : Prop) : List (Prop × Reason) :=
      [((s.winder w).mode ≠ m, r),
       (((s.winder w).state ≠ .idle ∧ (s.winder w).state ≠ .running ∧ (s.winder w).state ≠ .settling ∧
          (s.winder w).state ≠ .dwelling) ∨ busy, .winderState),
       ((s.winder w).holdPending = true, .holdPending),
       ((s.pipe w).staged ≠ none, .stagedBusy),
       ((if w = .service then 24 else 4) ≤ s.admissionCount w, .queueFull)]
    let meets (kind : ZoneKind) (legs : List Leg) : Prop := s.pathCheck kind (s.stagedPaths legs) (fun _ _ => false) ≠ none
    (∀ n decks k riders payload,
      s.admits h .manualTrip (manualSize h (.service n decks k (.of riders) (.of payload))) none →
      let cmd := Instr.manualTrip h (.service n decks k (.of riders) (.of payload))
      let no (r : Reason) : Prop := s.Reads cmd h .manualTrip (.refused r, .nothing)
      (16 ≤ n ∨ 2 ≤ k ∨ (∃ d ∈ decks, 3 ≤ d) ∨ decks.length < 1 ∨ 3 < decks.length ∨
          (∃ l, riders = some l ∧ ∃ x ∈ l, 255 < x) ∨ (∃ m, payload = some m ∧ 65535 < m) → no .outOfRange) ∧
      (∀ st c ds, stationCode n = some st → cageClassCode k = some c → codes deckCode decks = some ds →
        between 1 3 decks.length = true → countsInRange riders payload = true →
        let station := s.work.stations[st]
        let legs := s.cageLegs station (orderedDecks ds) c
        let trip := { Trip.built (s.nextTrip .service) .manual c legs with station := some st }
        TestsInOrder no
          ([((c = .material ∧ riders ≠ none) ∨ (c = .men ∧ payload ≠ none) ∨ (∃ l, riders = some l ∧ l.length ≠ ds.length),
              .outOfRange),
            (¬ds.Nodup, .deckRepeated)] ++
           shared .service .manual .notManualMode False ++
           [(station.inService = false, .notInService),
            ((∃ d ∈ ds, station.decks.has d = false), .deckNotServed),
            (s.bars[st] = true, .stationBarred),
            (meets .work legs, .workZone),
            (meets .inspect legs, .inspectZone),
            ((∃ l, riders = some l ∧ ∃ x ∈ orderedRiders ds l, 60 < x) ∨ (∃ m, payload = some m ∧ 12000 < m), .overRating)])
          (s.Answers cmd h .manualTrip
            { s.heard h .manualTrip with
              pipes := s.pipes.set .service { s.pipe .service with staged := some trip, lastTrip := trip.number } }
            (.done, .tripNumber trip.number)))) ∧
    (∀ n, s.admits h .manualTrip 2 none →
      let no (r : Reason) : Prop := s.Reads (.manualTrip h (.rock n)) h .manualTrip (.refused r, .nothing)
      (2 ≤ n → no .outOfRange) ∧
      ∀ k, skipCode n = some k →
        let legs := s.cycleLegs k
        let trip := Trip.built (s.nextTrip .rock) .manual .rock legs
        TestsInOrder no
          (shared .rock .manual .notManualMode False ++
           [(s.pairing = .unpaired, .unpaired), (meets .work legs, .workZone), (meets .inspect legs, .inspectZone)])
          (s.Answers (.manualTrip h (.rock n)) h .manualTrip
            ((({ s.heard h .manualTrip with
                pipes := s.pipes.set .rock { s.pipe .rock with staged := some trip, lastTrip := trip.number } } :
              State).formReadiness).settle .rock)
            (.done, .tripNumber trip.number))) ∧
    (∀ code, s.admits h .manualTrip h.length none →
      s.Reads (.manualTrip h (.other code)) h .manualTrip (.refused .outOfRange, .nothing)) ∧
    (∀ n target, s.admits h .inspectTrip 5 none →
      let no (r : Reason) : Prop := s.Reads (.inspectTrip h n target) h .inspectTrip (.refused r, .nothing)
      (4 ≤ n ∨ target < -60000 ∨ 3200000 < target → no .outOfRange) ∧
      ∀ c, conveyanceCode n = some c → depthInRange target = true →
        let w := ownerOf c
        let recovery := (s.winder w).recovery
        let l := s.inspectionLeg c target (s.nextTrip w)
        let trip := { Trip.built (s.nextTrip w) .inspection .inspection [l] with ready := true, recovery := recovery }
        TestsInOrder no
          (shared w .inspection .notInspectionMode
              (w = .rock ∧ ∃ t, (s.pipe .rock).active = some t ∧ t.kind = .rePair) ++
           [(w = .rock ∧ (s.clutch = none ∨ s.clutch = some .moving), .clutchMoving),
            (w = .rock ∧ s.clutch = some .closed ∧ s.pairing = .unpaired, .unpaired),
            (recovery = true ∧ (∃ m ∈ l.motions, s.targetRestricted m.conveyance m.target = true), .recoveryDirection),
            (s.pathCheck .work (s.stagedPaths [l]) (s.overOwn recovery) ≠ none, .workZone)])
          (s.Answers (.inspectTrip h n target) h .inspectTrip
            (({ s.heard h .inspectTrip with
                pipes := s.pipes.set w { s.pipe w with staged := some trip, lastTrip := trip.number } } : State).settle w)
            (.done, .tripNumber trip.number)))) ∧
  (∀ (n : Nat) (kind : TripKind) (cls : Machine.Class) (legs : List Leg),
    Trip.built n kind cls legs = ⟨n, kind, cls, none, none, legs, 1, false, false, 0, 0, false⟩) ∧
  (∀ (s : State) (c : Conveyance) (target : Int) (number : Nat),
    let l := s.inspectionLeg c target number
    let service := (s.work.span : Int) - target + (s.position .cage).correction + (s.position .counterweight).correction
    l = ⟨l.motions, c, none, .inspection, l.direction, 0, .pending⟩ ∧
    (s.planOrigin c < target → l.direction = .descending) ∧ (target < s.planOrigin c → l.direction = .ascending) ∧
    (c = .cage → l.motions = [⟨.cage, target, none⟩, ⟨.counterweight, service, none⟩]) ∧
    (c = .counterweight → l.motions = [⟨.counterweight, target, none⟩, ⟨.cage, service, none⟩]) ∧
    ∀ k, skipOf c = some k →
      (∀ p, s.clutch = some .closed → s.pairing = .paired p →
        l.motions = [⟨k.conveyance, target, none⟩,
          ⟨k.other.conveyance, s.work.rockPoints.tip.depth + (s.work.rockPoints.get p.point).depth - target, none⟩]) ∧
      (s.clutch = some .opened → l.motions = [⟨k.conveyance, target, none⟩]))

/-- The timers that watch a motion raise their faults when they run out, and not before (R92, R102, R111, R141, R146), with the
active trip and the leading conveyance of its current leg; an expiry command taken early only empties `sent`, as log 2 says. -/
def Obligations.WatchingTimersRaiseTheirFaults : Prop :=
  ∀ (s : State) (w : Winder),
    let b : State := { s with sent := [] }
    let silent : Silent := if s.inMotion w then .tripRaised else .noteStanding
    let report (k : FaultKind) (v : Severity) : FaultReport := ⟨k, v, w, s.leading w, s.activeNumber w, none, none⟩
    (∀ t, (s.pipe w).active = some t →
      s.activeNumber w = some t.number ∧
      (∀ l, t.legs[t.current - 1]? = some l → s.leading w = some l.leading) ∧
      (t.legs[t.current - 1]? = none → s.leading w = none)) ∧
    ((s.pipe w).active = none → s.activeNumber w = none ∧ s.leading w = none) ∧
    exec (.tripOvertime w) s =
      .next (if (s.pipe w).active.any (fun t => decide ((s.work.classes.get t.cls).limit * 1000 < t.motionTime)) then
        b.deliver (report .tripOvertime .trip) else b) ∧
    exec (.stopNotAchieved w) s =
      .next (if (s.winder w).state = .stopping ∧ (s.winder w).stopStarted.any (fun x => decide (30000 ≤ (s.now - x).toNat)) then
        b.deliver (report .stopNotAchieved .trip) else b) ∧
    exec (.underTimerExpiry w) s =
      .next (if (s.monitor w).underTimer.any (reached s.now) then
        ({ b with monitors := s.monitors.set w { s.monitor w with underIndication := true, underTimer := none } } :
          State).deliver (report .underFault .note) else b) ∧
    exec .clutchTimerExpiry s =
      .next (if s.clutchTimer.any (reached s.now) then
        ({ b with clutchTimer := none } : State).deliver
          ⟨.clutchFault, .trip, .rock, s.leading .rock, s.activeNumber .rock, none, none⟩ else b) ∧
    exec (.driveReportTimeout w) s =
      .next (if s.silentDue w = true then
        ({ b with winders := s.winders.set w { s.winder w with silent := silent } } : State).deliver
          ⟨.driveSilent, if s.inMotion w then .trip else .note, w, none, none, none,
            (s.reports.get w).map (fun r => ((r.at_.toNat : Nat) : Int))⟩
        else b)

/-! ## Landing -/

/-- LEG COMPLETE by the table of R117, the settle wait of R118, and the landing test at its end (R119). That the reply is sent
before the effects is log 11; the closing run of planner and offer is log 12. -/
def Obligations.LegCompleteStartsTheSettleWait : Prop :=
  (∀ (s : State) (h : Head) (w : Winder) (trip leg : Nat), driveWinder h.link = some w → h.length = 3 →
    let cmd := Instr.legComplete h trip leg
    ((∀ t, (s.pipe w).active = some t → t.number ≠ trip) →
      s.Reads cmd h .legComplete (.refused .noSuchTrip, .nothing)) ∧
    (∀ t l, (s.pipe w).active = some t → t.number = trip → t.leg = some l →
      ((leg ≠ t.current ∨ l.state ≠ .moving) → s.Reads cmd h .legComplete (.refused .wrongLeg, .nothing)) ∧
      (leg = t.current → l.state = .moving →
        let heard := s.answering (s.heard h .legComplete) h .legComplete (.done, .nothing)
        ((s.winder w).state = .stopping → exec cmd s = .next (heard.settle w)) ∧
        ((s.winder w).state ≠ .stopping → t.kind = .inspection →
          exec cmd s = .next ((heard.endAndPark w .completed).settle w)) ∧
        ((s.winder w).state ≠ .stopping → t.kind ≠ .inspection →
          exec cmd s = .next ((heard.beginSettling w t l).settle w))))) ∧
  (∀ (s : State) (w : Winder) (t : Trip) (l : Leg), t.leg = some l → (s.winder w).state ≠ .settling →
    let u := s.beginSettling w t l
    let e := s.work.settle.get w
    (u.winder w).state = .settling ∧ (u.winder w).permit = false ∧ u.caps.get w = ⟨0, none⟩ ∧
    (u.pipe w).settle = some ⟨s.now + BitVec.ofNat 32 (e.base * 2 ^ min l.relevels e.cap), t.number, t.current⟩ ∧
    (u.pipe w).active = some (t.withLeg (fun l => { l with state := .settling })) ∧
    (∀ c ∈ conveyancesOf w, (u.position c).armed = true ∧ (u.position c).motionRef = s.drumDepth.get (drumOf c))) ∧
  (∀ (s : State) (w : Winder) (x : SettleTimer), (s.pipe w).settle = some x → reached s.now x.expiry = true →
    ∀ t l, (s.pipe w).active = some t → t.leg = some l →
    exec (.settleExpiry w) s =
      .next (((({ s with sent := [], pipes := s.pipes.set w { s.pipe w with settle := none } } : State)).landingTest w t
        l).settle w))

/-- The landing test of a leg that lands one conveyance, the cage at its target within its station's window or the free skip
of a re-pair at the target pocket, and of a rock cycle's leg, which lands both skips: too uncertain, landed or missed (R119 to
R122); how a missed pair is re-levelled and which skip is reported (R124); the re-level (R122, R123); what follows a landed
leg (R121), the free move of a re-pair among them (R140). That the rising skip is reported where both exceed their windows
alike is log 29, and that a record with no estimate is a miss, at which a pair fails, log 59; the direction of a re-level
from such a record is left open. -/
def Obligations.LandingTestAndWhatFollows : Prop :=
  (∀ (s : State) (w : Winder) (t : Trip) (l : Leg) (c : Conveyance) (target : Int) (window : Nat) (p : Position),
     s.examined t l = [⟨c, target, window⟩] → s.position c = p →
     let fail := ((s.endActive w .landingFailed).deliver
       ⟨.landingNotAchieved, .stop, w, some c, some t.number, none, none⟩).park w
     (window < p.band → s.landingTest w t l = fail) ∧
     (p.band ≤ window → p.estimate = none → l.relevels < 3 → s.landingTest w t l = s.relevel w t l l.motions c) ∧
     (p.band ≤ window → p.estimate = none → 3 ≤ l.relevels → s.landingTest w t l = fail) ∧
     (∀ e : Int, p.band ≤ window → p.estimate = some e →
       (target - window ≤ e - p.band ∧ e + p.band ≤ target + window → s.landingTest w t l = s.landLeg w t) ∧
       (¬(target - window ≤ e - p.band ∧ e + p.band ≤ target + window) →
         (3 ≤ l.relevels → s.landingTest w t l = fail) ∧
         (l.relevels < 3 → s.landingTest w t l = s.relevel w t l l.motions c ∧
           ((s.relevelLeg l l.motions).relevels = l.relevels + 1 ∧ (s.relevelLeg l l.motions).cls = .creep ∧
             (s.relevelLeg l l.motions).motions = l.motions))))) ∧
  (∀ (s : State) (t : Trip) (l : Leg),
     (∀ st x, t.isRockCycle = false → t.kind ≠ .rePair → t.station = some st →
       (l.motions.find? (fun m => m.conveyance == .cage)).map (·.target) = some x →
       s.examined t l = [⟨.cage, x, (s.work.stations[st]).window⟩]) ∧
     (∀ r, t.kind = .rePair → s.repair = some r →
       let e := s.work.rockPoints.get r.pocket.point
       s.examined t l = [⟨r.free.conveyance, e.depth, e.window⟩])) ∧
  (∀ (s : State) (t : Trip) (l : Leg) (k : Skip) (p : Pocket), t.isRockCycle = true → t.leg = some l →
     skipOf l.leading = some k → s.pairing = .paired p →
     let r := k.conveyance
     let d := k.other.conveyance
     let tip := s.work.rockPoints.tip
     let low := s.work.rockPoints.get p.point
     let excess (c : Conveyance) (e : RockPointEntry) : Nat := (s.position c).band - e.window
     let inside (c : Conveyance) (e : RockPointEntry) : Prop :=
       ∃ x, (s.position c).estimate = some x ∧ e.depth - e.window ≤ x - (s.position c).band ∧
         x + (s.position c).band ≤ e.depth + e.window
     let fail (c : Conveyance) := ((s.endActive .rock .landingFailed).deliver
       ⟨.landingNotAchieved, .stop, .rock, some c, some t.number, none, none⟩).park .rock
     (0 < excess r tip ∨ 0 < excess d low →
       s.landingTest .rock t l = fail (if excess r tip < excess d low then d else r)) ∧
     (excess r tip = 0 → excess d low = 0 →
       (inside r tip → inside d low → s.landingTest .rock t l = s.landLeg .rock t) ∧
       ((s.position r).estimate = none ∨ (s.position d).estimate = none →
         (inside r tip → s.landingTest .rock t l = fail d) ∧ (¬inside r tip → s.landingTest .rock t l = fail r)) ∧
       (∀ missed er ed, ¬(inside r tip ∧ inside d low) → (s.position r).estimate = some er →
         (s.position d).estimate = some ed → (inside r tip → missed = d) → (¬inside r tip → missed = r) →
         let a := er - tip.depth
         let b := low.depth - ed
         let m := if a.natAbs ≤ b.natAbs then a else b
         let targets := l.motions.map (fun x => { x with target := if x.conveyance = r then er - m else ed + m })
         ((0 < a ∧ 0 < b) ∨ (a < 0 ∧ b < 0) → s.landingTest .rock t l = s.relevel .rock t l targets missed) ∧
         (¬((0 < a ∧ 0 < b) ∨ (a < 0 ∧ b < 0)) → s.landingTest .rock t l = fail missed)))) ∧
  (∀ (s : State) (w : Winder) (t : Trip) (l : Leg) (targets : List LegMotion) (c : Conveyance),
     let leg := s.relevelLeg l targets
     leg = { l with motions := targets, cls := .creep, relevels := l.relevels + 1, direction := leg.direction } ∧
     (∀ e x, (s.position l.leading).estimate = some e →
       (targets.find? (fun m => m.conveyance == l.leading)).map (·.target) = some x →
       (e < x → leg.direction = .descending) ∧ (x < e → leg.direction = .ascending)) ∧
     (3 ≤ l.relevels → s.relevel w t l targets c =
       ((s.endActive w .landingFailed).deliver
         ⟨.landingNotAchieved, .stop, w, some c, some t.number, none, none⟩).park w) ∧
     (l.relevels < 3 → s.relevel w t l targets c =
       ({ s with
          counters := s.counters.set w { s.counters.get w with relevels := saturate ((s.counters.get w).relevels + 1) }
          pipes := s.pipes.set w
            { s.pipe w with active := some (t.withLeg (fun l => s.relevelLeg l targets)) } } : State).offerLeg w)) ∧
  (∀ (s : State) (w : Winder) (t : Trip), (s.pipe w).active = some t → t.kind ≠ .rePair →
     (s.winder w).state = .settling →
     let u := s.landLeg w t
     let outcome : TripOutcome := if ∃ l ∈ t.legs, 0 < l.relevels then .completedRelevelled else .completed
     (u.pipe w).settle = none ∧
     (t.legs.length ≤ t.current →
       (u.pipe w).active = none ∧ (u.pipe w).latest = some ⟨t.number, outcome⟩ ∧ (u.pipe w).prior = (s.pipe w).latest ∧
       (u.counters.get w).completed = saturate ((s.counters.get w).completed + 1) ∧
       (u.winder w).state = (if (s.winder w).holdPending = true then .parked else .idle) ∧
       ((s.winder w).holdPending = true → (u.winder w).held = true) ∧ (u.winder w).holdPending = false) ∧
     (t.current < t.legs.length → (s.winder w).holdPending = true →
       (u.pipe w).active = none ∧ (u.pipe w).latest = some ⟨t.number, .heldPartial⟩ ∧
       (u.winder w).state = .parked ∧ (u.winder w).held = true ∧ (u.winder w).holdPending = false) ∧
     (t.current < t.legs.length → (s.winder w).holdPending = false →
       (u.winder w).state = .dwelling ∧
       ∃ x, (u.pipe w).active = some x ∧ x.number = t.number ∧ x.current = t.current + 1 ∧
         x.legs = t.legs.modify (t.current - 1) (fun l => { l with state := .landed }))) ∧
  (∀ (s : State) (t : Trip) (r : RePair), t.kind = .rePair → (s.winder .rock).state = .settling → s.repair = some r →
     let u := s.landLeg .rock t
     (u.winder .rock).state = .clutching ∧ (u.winder .rock).permit = false ∧
     (u.winder .rock).holdPending = (s.winder .rock).holdPending ∧
     u.repair = some { r with phase := .closing } ∧ u.clutchTimer = some (s.now + 20000#32) ∧
     u.pipes = s.pipes.set .rock
       { s.pipe .rock with
         active := some { t with legs := t.legs.modify (t.current - 1) (fun l => { l with state := .landed }) }
         settle := none } ∧
     u.sent = s.sent ++ [.order .rock (s.drives.get .rock).tagCount .clutchClose] ∧
     (∀ c ∈ conveyancesOf .rock, (u.position c).armed = true ∧ (u.position c).motionRef = s.drumDepth.get (drumOf c)) ∧
     u.pairing = s.pairing ∧ u.queues = s.queues ∧ u.faults = s.faults ∧ u.counters = s.counters ∧
     u.winder .service = s.winder .service)

/-! ## Winder Controller -/

/-- RELEASE tests in the order of R99 and enters IDLE; with a hold pending it cancels the hold. The closing run of planner and
offer is log 12. -/
def Obligations.ReleaseFollowsItsTests : Prop :=
  ∀ (s : State) (h : Head) (n : Nat) (w : Winder), winderCode n = some w → s.admits h .release 1 (some n) →
    let cmd := Instr.release h n
    let heard := s.heard h .release
    let no (r : Reason) : Prop := s.Reads cmd h .release (.refused r, .nothing)
    let silent := s.reports.get w = none ∨ (s.winder w).silent ≠ .clear
    let lost := ∃ c ∈ conveyancesOf w, (s.position c).state = .lost
    ((s.winder w).state ≠ .parked → (s.winder w).holdPending = false → no .winderState) ∧
    ((s.winder w).state ≠ .parked → (s.winder w).holdPending = true →
      s.Answers cmd h .release
        (({ heard with winders := s.winders.set w { s.winder w with holdPending := false } } : State).settle w)
        (.done, .nothing)) ∧
    ((s.winder w).state = .parked →
      (s.unconfigured = true → no .unconfigured) ∧
      (s.unconfigured = false → (s.monitor w).running = false → no .monitorStopped) ∧
      (s.unconfigured = false → (s.monitor w).running = true →
        (s.emergencyLine.get w = true → no .emergencyStop) ∧
        (s.emergencyLine.get w = false → silent → no .driveSilent) ∧
        (s.emergencyLine.get w = false → ¬silent → lost → no .positionLost) ∧
        (s.emergencyLine.get w = false → ¬silent → ¬lost → (s.winder w).held = true → no .held) ∧
        (s.emergencyLine.get w = false → ¬silent → ¬lost → (s.winder w).held = false →
          Completes cmd s (fun t =>
            (t.winder w).state = .idle ∧ (t.winder w).permit = false ∧ (t.winder w).brakeDemand = false ∧
            (t.winder w).recovery = s.restricted.get w ∧
            (t.winder w).mode =
              (if s.restricted.get w = true ∨ s.commissioning = true then .inspection else (s.winder w).mode) ∧
            (∀ c ∈ conveyancesOf w, (t.position c).armed = true ∧
              (t.position c).motionRef = s.drumDepth.get (drumOf c)) ∧
            (∀ v, v ≠ w → t.winder v = s.winder v) ∧
            t.sent.getLast? = some (s.replyTo h .release (.done, .nothing))))))

/-- HOLD by the state of the winder, with the staged trip withdrawn as its call returns to the head of its queue, and CLEAR HELD
(R62, R90, R100). That a HOLD in DWELLING ends the active trip before it withdraws the staged one is log 38. -/
def Obligations.HoldActsByTheState : Prop :=
  ∀ (s : State) (h : Head) (n : Nat) (w : Winder), winderCode n = some w →
    (s.admits h .hold 1 (some n) →
      let cmd := Instr.hold h n
      let st := (s.winder w).state
      let pending : State :=
        { s.heard h .hold with winders := s.winders.set w { s.winder w with holdPending := true } }
      ((st = .tripped ∨ st = .lockout) → s.Reads cmd h .hold (.refused .winderState, .nothing)) ∧
      ((st = .running ∨ st = .settling ∨ st = .stopping ∨ st = .clutching) → (s.winder w).holdPending = true →
        s.Reads cmd h .hold (.done, .nothing)) ∧
      ((st = .running ∨ st = .settling ∨ st = .stopping ∨ st = .clutching) → (s.winder w).holdPending = false →
        Completes cmd s (fun t =>
          t.winder w = { s.winder w with holdPending := true } ∧ (t.pipe w).staged = none ∧
          s.Withdrawn t w ∧
          (t.pipe w).active = (s.pipe w).active ∧ t.positions = s.positions ∧ t.work = s.work ∧
          t.sent = [s.replyTo h .hold (.done, .nothing)]) ∧
        s.Answers cmd h .hold (pending.withdrawStaged w .waiting) (.done, .nothing)) ∧
      ((st = .parked ∨ st = .idle) →
        Completes cmd s (fun t =>
          (t.winder w).state = .parked ∧ (t.winder w).held = true ∧ (t.winder w).permit = (if st = .parked then
            (s.winder w).permit else false) ∧ (t.pipe w).staged = none ∧ s.Withdrawn t w ∧
          t.sent = [s.replyTo h .hold (.done, .nothing)])) ∧
      (st = .dwelling → ∀ a, (s.pipe w).active = some a →
        Completes cmd s (fun t =>
          (t.winder w).state = .parked ∧ (t.winder w).held = true ∧ (t.pipe w).active = none ∧
          (t.pipe w).staged = none ∧ (t.pipe w).offer = none ∧ s.Withdrawn t w ∧
          ((s.pipe w).staged = none → (t.pipe w).latest = some ⟨a.number, .heldPartial⟩) ∧
          t.sent = [s.replyTo h .hold (.done, .nothing)]))) ∧
    (s.admits h .clearHeld 1 (some n) →
      s.Answers (.clearHeld h n) h .clearHeld
        { s.heard h .clearHeld with winders := s.winders.set w { s.winder w with held := false } } (.done, .nothing))

/-- STOP by the state of the winder, with the staged trip withdrawn as its call returns to the head of its queue (R62, R90, R101)
and, in a free move, the offer ended and the clutch timer running (R139); and the report at rest that ends a stop (R102). That
STOP is the first frame sent in RUNNING is log 37; the closing run of planner and offer is log 12. -/
def Obligations.StopActsByTheState : Prop :=
  (∀ (s : State) (st : WinderState) (w : Winder),
     let ends := st = .stopping ∧ (s.winder w).state = .stopping ∧ ∀ c ∈ conveyancesOf w, (s.position c).rest = true
     (ends → s.stopAtRest st w =
       s.endAndPark w (if (s.winder w).stopCause = some .bar then .stoppedBar else .stopped)) ∧
     (¬ends → s.stopAtRest st w = s)) ∧
  ∀ (s : State) (h : Head) (n : Nat) (w : Winder), winderCode n = some w → s.admits h .stop 1 (some n) →
    let cmd := Instr.stop h n
    let heard := s.heard h .stop
    let st := (s.winder w).state
    (st = .stopping ∨ st = .parked ∨ st = .tripped ∨ st = .lockout →
      s.Answers cmd h .stop (heard.settle w) (.done, .nothing)) ∧
    (st = .settling ∨ st = .dwelling → s.Answers cmd h .stop ((heard.endAndPark w .stopped).settle w) (.done, .nothing)) ∧
    (st = .clutching →
      Completes cmd s (fun t => (t.winder w).stopPending = true ∧ (t.winder w).state = .clutching ∧
        (∀ r, w = .rock → s.repair = some r → r.phase = .freeMove →
          (t.pipe .rock).offer = none ∧
          ((s.pipe .rock).offer ≠ none →
            t.clutchTimer = some (s.clutchTimer.getD (s.now + 20000#32)) ∧
            t.repair = some { r with offerEnd := some .stopped }) ∧
          ((s.pipe .rock).offer = none → t.clutchTimer = s.clutchTimer ∧ t.repair = s.repair)) ∧
        (∀ r, w = .rock → s.repair = some r → r.phase ≠ .freeMove →
          t.clutchTimer = s.clutchTimer ∧ t.repair = s.repair ∧ t.pipes = s.pipes) ∧
        t.sent = [s.replyTo h .stop (.done, .nothing)])) ∧
    (st = .idle → s.Answers cmd h .stop ((heard.withdrawStaged w .waiting).settle w) (.done, .nothing)) ∧
    (st = .running →
      ({ s with winders := s.winders.set w { s.winder w with state := .stopping } } : State).belowCritical w = true →
      ∀ a, (s.pipe w).active = some a →
      Completes cmd s (fun t =>
        (t.winder w).state = .stopping ∧ (t.winder w).permit = true ∧ (t.winder w).stopCause = some .request ∧
        (t.winder w).stopStarted = some s.now ∧ (t.pipe w).active = some a ∧ (t.pipe w).staged = none ∧ s.Withdrawn t w ∧
        t.sent.head? = some (.order w (s.drives.get w).tagCount (.stop a.number)) ∧
        t.sent.getLast? = some (s.replyTo h .stop (.done, .nothing))))

/-- WINDER RESET (R73, R95, R103): its effects in PARKED, its refusal elsewhere, and what it keeps. That critical raised, which
R152 takes to be clear, is kept too is log 56. -/
def Obligations.WinderResetClearsWhatItNames : Prop :=
  ∀ (s : State) (h : Head) (n : Nat) (w : Winder), winderCode n = some w → s.admits h .winderReset 1 (some n) →
    ((s.winder w).state ≠ .parked →
      s.Reads (.winderReset h n) h .winderReset (.refused .winderState, .nothing)) ∧
    ((s.winder w).state = .parked →
      Completes (.winderReset h n) s (fun t =>
        t.queues = s.queues.set w [] ∧ t.ended = s.ended.set w [] ∧
        t.assembly = (if w = .service then none else (s.heard h .winderReset).assembly) ∧
        t.pipe w = { s.pipe w with latest := none, prior := none } ∧
        t.monitor w = { s.monitor w with overIndication := false, underIndication := false } ∧
        t.winder w = { s.winder w with held := false, recovery := false, slowCap := none } ∧
        (∀ c, t.position c = if ownerOf c = w then { s.position c with suppressed := [] } else s.position c) ∧
        (∀ v, v ≠ w → t.pipe v = s.pipe v ∧ t.monitor v = s.monitor v ∧ t.winder v = s.winder v) ∧
        t.sent = [.reply h.link (kindNumber .winderReset + 128) h.tag
          ⟨.done, decide (w = .service) && s.assembly.isSome, .nothing⟩] ∧
        t = { s with ports := t.ports, frameErrors := t.frameErrors, snapshot := t.snapshot, sent := t.sent,
                     queues := t.queues, ended := t.ended, assembly := t.assembly, pipes := t.pipes,
                     monitors := t.monitors, winders := t.winders, positions := t.positions }))

/-- SET MODE, ACKNOWLEDGE TRIP and RELEASE LOCKOUT test in the orders of R104, R105 and R106. That a mode code which names
nothing is refused before the tests of R104 is log 19, that a mode already held is tested like any other log 62,
what a report in the present state is log 14, and the closing run of planner and offer log 12. -/
def Obligations.ModeAcknowledgeAndLockout : Prop :=
  ∀ (s : State) (h : Head) (n : Nat) (w : Winder), winderCode n = some w →
    (∀ k m, modeCode k = some m → s.admits h .setMode 2 (some n) →
      let cmd := Instr.setMode h n k
      let no (r : Reason) : Prop := s.Reads cmd h .setMode (.refused r, .nothing)
      let st := (s.winder w).state
      (st ≠ .parked → st ≠ .idle → no .winderState) ∧
      (st = .idle → (s.pipe w).staged ≠ none → no .stagedBusy) ∧
      (st = .parked ∨ (st = .idle ∧ (s.pipe w).staged = none) →
        (s.commissioning = true → m ≠ .inspection → no .commissioning) ∧
        (s.commissioning = false → (s.winder w).recovery = true → m ≠ .inspection → no .recovery) ∧
        ((m = .inspection ∨ (s.commissioning = false ∧ (s.winder w).recovery = false)) →
          (s.winder w).slowCap = none →
          s.Answers cmd h .setMode
            (({ s.heard h .setMode with
                caps := s.caps.set w ⟨0, none⟩
                winders := s.winders.set w { s.winder w with mode := m } } : State).settle w) (.done, .nothing)))) ∧
    (∀ k, 3 ≤ k → s.admits h .setMode 2 (some n) →
      s.Reads (.setMode h n k) h .setMode (.refused .outOfRange, .nothing)) ∧
    (s.admits h .acknowledgeTrip 1 (some n) →
      let cmd := Instr.acknowledgeTrip h n
      let no (r : Reason) : Prop := s.Reads cmd h .acknowledgeTrip (.refused r, .nothing)
      let rested := (s.winder w).reportInState = true ∧ s.latestAtRest w = true
      ((s.winder w).state ≠ .tripped → no .winderState) ∧
      ((s.winder w).state = .tripped → s.emergencyLine.get w = true → no .emergencyStop) ∧
      ((s.winder w).state = .tripped → s.emergencyLine.get w = false → ¬rested → no .notAtRest) ∧
      ((s.winder w).state = .tripped → s.emergencyLine.get w = false → rested →
        s.Answers cmd h .acknowledgeTrip ((s.heard h .acknowledgeTrip).changeState w .parked) (.done, .nothing))) ∧
    (s.admits h .releaseLockout 1 (some n) →
      let cmd := Instr.releaseLockout h n
      let no (r : Reason) : Prop := s.Reads cmd h .releaseLockout (.refused r, .nothing)
      let rested := (s.winder w).reportInState = true ∧ s.latestAtRest w = true
      ((s.winder w).state ≠ .lockout → no .winderState) ∧
      ((s.winder w).state = .lockout → s.maintenanceKey = false → no .keyNotActive) ∧
      ((s.winder w).state = .lockout → s.maintenanceKey = true → ¬rested → no .notAtRest) ∧
      ((s.winder w).state = .lockout → s.maintenanceKey = true → rested →
        s.Answers cmd h .releaseLockout ((s.heard h .releaseLockout).changeState w .parked) (.done, .nothing)))

/-- A change of state sets the outputs, the motion checks, the cap and the monitor's record (R29, R30, R47, R96, R97, R145 to
R147): an entry to RUNNING clears the conditions, the under timer and critical raised; leaving RUNNING clears UNDER, and
leaving RUNNING and STOPPING both conditions, the indications with them in Follow mode and not in Latched. It changes nothing
of the other winder. That critical raised is cleared by the entry to PARKED is log 56. -/
def Obligations.ChangeOfStateSetsWhatFollowsIt : Prop :=
  ∀ (s : State) (w : Winder) (st : WinderState), (s.winder w).state ≠ st →
    let u := s.changeState w st
    let m := s.monitor w
    let follow := (s.work.envelope.get w).mode = .follow
    (st = .running →
      u.monitor w = { m with overCondition := false, underCondition := false, underTimer := none, critical := false }) ∧
    (st = .stopping →
      (follow → u.monitor w =
        { m with underCondition := false, underTimer := none, underIndication := false
                 overIndication := m.overIndication && m.overCondition }) ∧
      (¬follow → u.monitor w = { m with underCondition := false, underTimer := none })) ∧
    (st ≠ .running → st ≠ .stopping →
      let critical := if st = .parked then false else m.critical
      (follow → u.monitor w =
        { m with overCondition := false, underCondition := false, underTimer := none, critical := critical
                 overIndication := false, underIndication := false }) ∧
      (¬follow → u.monitor w =
        { m with overCondition := false, underCondition := false, underTimer := none, critical := critical })) ∧
    (u.winder w).state = st ∧
    ((u.winder w).permit = true ↔ st = .running ∨ st = .stopping) ∧
    ((u.winder w).brakeDemand = true ↔ st = .tripped ∨ st = .lockout) ∧
    (u.winder w).stopPending = false ∧ (u.winder w).stopCause = none ∧ (u.winder w).stopStarted = none ∧
    (u.winder w).mode = (s.winder w).mode ∧ (u.winder w).held = (s.winder w).held ∧
    (u.winder w).recovery = (s.winder w).recovery ∧ (u.winder w).holdPending = (s.winder w).holdPending ∧
    (st ≠ .running → st ≠ .stopping →
      u.caps.get w = ⟨0, none⟩ ∧ (u.winder w).slowCap = none) ∧
    (st = .parked ∨ st = .idle ∨ st = .settling ∨ st = .dwelling ∨ st = .clutching →
      ∀ c ∈ conveyancesOf w, (u.position c).armed = true ∧ (u.position c).motionRef = s.drumDepth.get (drumOf c)) ∧
    (st = .running → ∀ c ∈ conveyancesOf w, ((u.position c).armed = true ↔ c ∉ s.moved w)) ∧
    (st = .tripped → ∀ c ∈ conveyancesOf w, (u.position c).armed = false) ∧
    (∀ v, v ≠ w → u.winder v = s.winder v ∧ u.monitor v = s.monitor v ∧ u.pipe v = s.pipe v ∧
      u.caps.get v = s.caps.get v) ∧
    (∀ c, ownerOf c ≠ w → u.position c = s.position c) ∧
    u = { s with winders := u.winders, positions := u.positions, caps := u.caps, monitors := u.monitors, pipes := u.pipes }

/-- The input lines (R106, R107, R181): an assertion raises EMERGENCY STOP once, outside LOCKOUT; no other change of a line
does anything but set its level. DRIVE FAULT is answered Done, sets the latch and delivers the fault with its code, and the
drive state of a report sets or clears the latch (R112). That the reply comes before the frames it causes is log 11. -/
def Obligations.InputLinesAndDriveFaults : Prop :=
  (∀ (s : State) (w : Winder),
     let b : State := { s with sent := [] }
     (s.emergencyLine.get w = true → exec (.emergencyStopAsserted w) s = .next b) ∧
     (s.emergencyLine.get w = false →
       let up : State := { b with emergencyLine := s.emergencyLine.set w true }
       exec (.emergencyStopAsserted w) s =
         .next (if (s.winder w).state = .lockout then up
           else up.deliver ⟨.emergencyStop, .trip, w, s.leading w, s.activeNumber w, none, none⟩)) ∧
     exec (.emergencyStopCleared w) s = .next { b with emergencyLine := s.emergencyLine.set w false } ∧
     ∀ level, exec (.maintenanceKeyChange level) s = .next { b with maintenanceKey := level } ∧
       exec (.commissioningInputChange level) s = .next { b with commissioningLine := level }) ∧
  (∀ (s : State) (h : Head) (code : Nat) (w : Winder), driveWinder h.link = some w → h.length = 1 →
     exec (.driveFault h code) s =
       .next (({ s.answering (s.heard h .driveFault) h .driveFault (.done, .nothing) with
           winders := s.winders.set w { s.winder w with driveFaultLatch := true } } : State).deliver
         ⟨.driveFault, .trip, w, none, none, none, some code⟩)) ∧
  (∀ (s : State) (w : Winder) (r : Report),
     let latched (b : Bool) : State := { s with winders := s.winders.set w { s.winder w with driveFaultLatch := b } }
     (r.drive ≠ .fault → s.takeDriveState w r = latched false) ∧
     (r.drive = .fault → (s.winder w).driveFaultLatch = true → s.takeDriveState w r = s) ∧
     (r.drive = .fault → (s.winder w).driveFaultLatch = false →
       s.takeDriveState w r = (latched true).deliver ⟨.driveFault, .trip, w, none, none, none, some r.faultCode⟩))

/-! ## Fault Recorder -/

/-- Every fault taken makes one entry, offered to the primary record and to the list (R153, R154, R155); a Stop or a Note
does nothing more (R156). The entry of OVERSPEED carries the cap (R145), in a field of its own (log 32). -/
def Obligations.FaultsAreRecorded : Prop :=
  ∀ (s : State) (f : FaultReport),
    let u := s.deliver f
    let e := s.entryOf f
    let p := s.position (f.conveyance.getD (if f.winder = .service then .cage else .skip0))
    e.kind = f.kind ∧ e.severity = f.severity ∧ e.winder = some f.winder ∧ e.conveyance = f.conveyance ∧
    e.depth = p.estimate ∧ e.band = p.band ∧ (p.estimate = none → e.speed = 0) ∧
    (p.estimate ≠ none → e.speed = p.speed) ∧ e.zone = f.zone ∧ e.detail = f.detail ∧ e.time = s.now ∧
    e.cap = (if f.kind = .overspeed then some (s.monitor f.winder).cap.speed else none) ∧
    (f.trip ≠ none → e.trip = f.trip) ∧ (f.trip = none → e.trip = s.activeNumber f.winder) ∧
    (s.primary ≠ none → u.primary = s.primary) ∧
    (s.primary = none → u.primary = if f.severity = .trip then some e else none) ∧
    (s.faults.length < 16 → u.faults = s.faults ++ [e] ∧ u.overflow = s.overflow) ∧
    (16 ≤ s.faults.length → u.faults = s.faults ∧ u.overflow = min 255 (s.overflow + 1)) ∧
    (f.severity ≠ .trip → u = { s with primary := u.primary, faults := u.faults, overflow := u.overflow })

/-- What a Trip fault does by the state of its winder (R108, R157, R158): at the entry to TRIPPED the staged trip is withdrawn
as its call returns to the head of its queue (R62, R90), at the entry to LOCKOUT the suppression lists are emptied and the motion
checks kept as they are (R30, R52). -/
def Obligations.TripFaultsActByTheState : Prop :=
  ∀ (s : State) (f : FaultReport), f.severity = .trip →
    let w := f.winder
    let u := s.deliver f
    let st := (s.winder w).state
    let grave := f.kind = .overwind ∨ f.kind = .workZoneEntry ∨ f.kind = .unpermittedMotion ∨
      (f.kind = .driveFault ∧ ∃ code, f.detail = some code ∧ 16 ≤ code ∧ code ≤ 31)
    (∀ v, v ≠ w → u.winder v = s.winder v ∧ u.pipe v = s.pipe v ∧ u.drives.get v = s.drives.get v ∧
      u.monitor v = s.monitor v ∧ u.caps.get v = s.caps.get v ∧ u.queues.get v = s.queues.get v ∧
      u.ended.get v = s.ended.get v ∧ u.counters.get v = s.counters.get v ∧ u.reports.get v = s.reports.get v ∧
      u.restricted.get v = s.restricted.get v ∧ u.lastCallId.get v = s.lastCallId.get v ∧
      ∀ c ∈ conveyancesOf v, u.position c = s.position c) ∧
    (st = .lockout ∨ (st = .tripped ∧ ¬grave) →
      u = { s with primary := u.primary, faults := u.faults, overflow := u.overflow }) ∧
    (st = .tripped → grave →
      (u.winder w).state = .lockout ∧ (u.winder w).permit = false ∧ (u.winder w).brakeDemand = true ∧
      (∀ c ∈ conveyancesOf w, u.position c = { s.position c with suppressed := [] }) ∧ u.queues = s.queues ∧
      u.sent = s.sent ++ [.order w (s.drives.get w).tagCount .brake]) ∧
    (st ≠ .tripped → st ≠ .lockout →
      (u.winder w).state = .tripped ∧ (u.winder w).permit = false ∧ (u.winder w).brakeDemand = true ∧
      (u.winder w).holdPending = false ∧ (u.winder w).stopPending = false ∧ (u.winder w).slowCap = none ∧
      (u.winder w).mode = (s.winder w).mode ∧ (u.winder w).held = (s.winder w).held ∧
      (u.winder w).recovery = (s.winder w).recovery ∧
      (u.pipe w).active = none ∧ (u.pipe w).staged = none ∧ (u.pipe w).settle = none ∧
      (∀ c ∈ conveyancesOf w, (u.position c).armed = false ∧ (u.position c).suppressed = []) ∧
      (∀ a, (s.pipe w).active = some a → (s.pipe w).staged = none →
        (u.pipe w).latest = some ⟨a.number, .aborted⟩ ∧ (u.pipe w).prior = (s.pipe w).latest ∧
        (u.counters.get w).aborted = saturate ((s.counters.get w).aborted + 1)) ∧
      s.Withdrawn u w ∧
      u.sent = s.sent ++ [.order w (s.drives.get w).tagCount .brake])

/-! ## Rock Coordinator -/

/-- LOADED, TIPPED and SET SKIP CONTENTS and their refusals (R128, R130, R131, R132); when a skip stands within the window of
a rock point (R129); and the ready flag of a staged rock cycle, which follows the readiness condition until its first GRANT
(R82, R133) and is clear while another cycle is active (R133, log 54). That a mass beside other contents is ignored is log 41,
that SET SKIP CONTENTS is refused out of range before "Skip in use" log 23, that TIPPED tests a skip already Empty too log 62,
and the closing run of planner and offer log 12. -/
def Obligations.SkipContentsAndReadiness : Prop :=
  (∀ (s : State) (h : Head) (n : Nat) (k : Skip), skipCode n = some k →
     (∀ mass, s.admits h .loaded 3 none →
       TestsInOrder (fun r => s.Reads (.loaded h n mass) h .loaded (.refused r, .nothing))
         [(65535 < mass, .outOfRange),
          (s.pairing = .unpaired, .unpaired),
          ((s.position k.conveyance).rest = false ∨ (∃ p, s.pairing = .paired p ∧ s.standsAt k p.point = false), .skipState),
          ((∃ m, (s.skips.get k).contents = .loaded m), .skipState)]
         (s.Answers (.loaded h n mass) h .loaded
           ((({ s.heard h .loaded with skips := s.skips.set k ⟨.loaded mass, s.now⟩ } : State).formReadiness).settle .rock)
           (.done, .nothing))) ∧
     (s.admits h .tipped 1 none →
       ((s.position k.conveyance).rest = true → s.standsAt k .tip = true →
         s.Answers (.tipped h n) h .tipped
           ((({ s.heard h .tipped with skips := s.skips.set k ⟨.empty, s.now⟩ } : State).formReadiness).settle .rock)
           (.done, .nothing)) ∧
       ((s.position k.conveyance).rest = false ∨ s.standsAt k .tip = false →
         s.Reads (.tipped h n) h .tipped (.refused .skipState, .nothing))) ∧
     (∀ code mass, 4 ≤ code ∨ (code = 1 ∧ (mass = none ∨ ∃ m, mass = some m ∧ 65535 < m)) →
       s.admits h .setSkipContents (2 + optionalSize 2 (Presence.of mass)) none →
       s.Reads (.setSkipContents h n code (.of mass)) h .setSkipContents (.refused .outOfRange, .nothing)) ∧
     (∀ code mass c, contentsCode code mass = some c →
       s.admits h .setSkipContents (2 + optionalSize 2 (Presence.of mass)) none →
       let inUse := (s.pipe .rock).active ≠ none ∨
         ∃ t, (s.pipe .rock).staged = some t ∧ t.isRockCycle = true ∧ t.granted = true
       (inUse → s.Reads (.setSkipContents h n code (.of mass)) h .setSkipContents (.refused .skipInUse, .nothing)) ∧
       (¬inUse →
         s.Answers (.setSkipContents h n code (.of mass)) h .setSkipContents
           ((({ s.heard h .setSkipContents with skips := s.skips.set k ⟨c, s.now⟩ } : State).formReadiness).settle .rock)
           (.done, .nothing)))) ∧
  (∀ (s : State) (t : Trip) (l : Leg) (k : Skip), (s.pipe .rock).staged = some t → t.isRockCycle = true →
     t.leg = some l → skipOf l.leading = some k →
     (t.granted = true → s.formReadiness = s) ∧
     (t.granted = false → ∃ b : Bool, (s.formReadiness.pipe .rock).staged = some { t with ready := b } ∧
       (b = true ↔ s.ReadyToRise k))) ∧
  (∀ t : Trip, t.isRockCycle = true ↔ t.kind = .rockCycle ∨ (t.kind = .manual ∧ t.cls = .rock)) ∧
  (∀ (code : Nat) (mass : Option Nat) (c : Contents),
     contentsCode code mass = some c ↔
       (code = 0 ∧ c = .empty) ∨ (code = 1 ∧ ∃ m, mass = some m ∧ m ≤ 65535 ∧ c = .loaded m) ∨
       (code = 2 ∧ c = .suspect) ∨ (code = 3 ∧ c = .unknown)) ∧
  (∀ (s : State) (k : Skip) (point : RockPoint),
     let p := s.position k.conveyance
     let e := s.work.rockPoints.get point
     s.standsAt k point = true ↔
       p.state = .valid ∧ ∃ x, p.estimate = some x ∧ e.depth - e.window ≤ x - p.band ∧ x + p.band ≤ e.depth + e.window) ∧
  (∀ (s : State) (h : Head) (n : Nat), 2 ≤ n →
     (∀ mass, s.admits h .loaded 3 none → s.Reads (.loaded h n mass) h .loaded (.refused .outOfRange, .nothing)) ∧
     (s.admits h .tipped 1 none → s.Reads (.tipped h n) h .tipped (.refused .outOfRange, .nothing)) ∧
     (∀ code mass, s.admits h .setSkipContents (2 + optionalSize 2 (Presence.of mass)) none →
       s.Reads (.setSkipContents h n code (.of mass)) h .setSkipContents (.refused .outOfRange, .nothing)))

/-- RE-PAIR is tested in the order of R137 and refused by the first test that fails; where all pass it begins by opening the
clutch, or by offering the free move where it is open (R137, R138); the clutch reports end its phases, and a free move that
finds the drums clutched is a fault (R138, R139, R140). With no re-pair in hand a clutch report unpairs the skips, faults a
coupled trip and drops a staged inspection trip that it no longer fits (R136); what becoming Unpaired does, and the release of
the calls that it held at the closing confirmation (R69, R135, R140); the leg of a free move (R137). The fault before the drop
is log 51; a STOP after eight refusals is log 52. -/
def Obligations.RePairGoesByTheClutch : Prop :=
  (∀ (s : State) (h : Head) (n m : Nat), s.admits h .rePair 2 none →
     let no (r : Reason) : Prop := s.Reads (.rePair h n m) h .rePair (.refused r, .nothing)
     (2 ≤ n ∨ 2 ≤ m → no .outOfRange) ∧
     ∀ p k, pocketCode n = some p → skipCode m = some k →
     let path := s.path k.conveyance (s.estimateOrigin k.conveyance) [(s.work.rockPoints.get p.point).depth]
     let meets (kind : ZoneKind) : Prop := s.pathCheck kind [path] (fun _ _ => false) ≠ none
     let number := s.nextTrip .rock
     TestsInOrder no
       [((s.winder .rock).state ≠ .idle, .winderState),
        ((s.pipe .rock).staged ≠ none, .stagedBusy),
        ((s.winder .rock).recovery = true, .recovery),
        (s.pairing = .paired p, .samePairing),
        (s.clutch = none ∨ s.clutch = some .moving, .clutchMoving),
        (s.standsAt k.other .tip = false, .skipState),
        (meets .work, .workZone),
        (meets .inspect ∧ (s.winder .rock).mode ≠ .inspection, .inspectZone)]
       ((s.clutch = some .closed →
          Completes (.rePair h n m) s (fun t =>
            (t.winder .rock).state = .clutching ∧ (t.winder .rock).permit = false ∧ t.pairing = .unpaired ∧
            t.repair = some ⟨.opening, p, k, none⟩ ∧ t.clutchTimer = some (s.now + 20000#32) ∧
            (t.pipe .rock).active = some (Trip.built number .rePair .rePair [s.freeLeg k p number]) ∧
            (t.pipe .rock).lastTrip = number ∧
            (s.pairing ≠ .unpaired → ∀ c ∈ t.queues.get .rock, c.state = .heldPairing) ∧
            t.sent = [.order .rock (s.drives.get .rock).tagCount .clutchOpen,
              s.replyTo h .rePair (.done, .tripNumber number)])) ∧
        (s.clutch = some .opened →
          Completes (.rePair h n m) s (fun t =>
            (t.winder .rock).state = .clutching ∧ t.pairing = .unpaired ∧ t.repair = some ⟨.freeMove, p, k, none⟩ ∧
            (∃ e, (t.pipe .rock).offer = some (.awaiting (s.drives.get .rock).tagCount e)) ∧
            t.sent.getLast? = some (s.replyTo h .rePair (.done, .tripNumber number)))))) ∧
  (∀ (s : State) (r : RePair), s.repair = some r →
     (r.phase = .opening → (s.winder .rock).stopPending = false →
       s.takeClutch .opened =
         ({ s with clutch := some .opened, clutchTimer := none, repair := some { r with phase := .freeMove } } :
           State).offerLeg .rock) ∧
     (r.phase = .opening → (s.winder .rock).stopPending = true →
       s.takeClutch .opened =
         ({ s with clutch := some .opened, clutchTimer := none } : State).endAndPark .rock .stopped) ∧
     (r.phase = .opening → ∀ c, c = .closed ∨ c = .moving → s.takeClutch c = { s with clutch := some c }) ∧
     (r.phase = .closing → ∀ c, c = .opened ∨ c = .moving → s.takeClutch c = { s with clutch := some c }) ∧
     (r.phase = .freeMove → ∀ c, c = .closed ∨ c = .moving → s.takeClutch c =
       ({ s with clutch := some c } : State).deliver
         ⟨.clutchFault, .trip, .rock, s.leading .rock, s.activeNumber .rock, none, none⟩) ∧
     (r.phase = .closing → ∀ a, (s.pipe .rock).active = some a → a.kind = .rePair →
       (s.winder .rock).state = .clutching →
       let u := s.takeClutch .closed
       u.pairing = .paired r.pocket ∧ u.clutchTimer = none ∧ u.repair = none ∧ (u.pipe .rock).active = none ∧
       u.clutch = some .closed ∧ u.pairBeyond = false ∧
       u.queues = s.queues.set .rock ((s.queues.get .rock).map (fun c =>
         if c.state = .heldPairing then { c with state := .waiting } else c)) ∧
       (u.winder .rock).state = (if (s.winder .rock).holdPending = true then .parked else .idle) ∧
       (u.pipe .rock).latest = some ⟨a.number,
         if ∃ l ∈ a.legs, 0 < l.relevels then .completedRelevelled else .completed⟩) ∧
     (r.phase = .freeMove →
       let b : State := { s with clutch := some .opened }
       ((s.winder .rock).state ≠ .clutching ∨ (s.pipe .rock).offer ≠ none → s.takeClutch .opened = b) ∧
       ((s.winder .rock).state = .clutching → (s.pipe .rock).offer = none →
         ((s.winder .rock).stopPending = true → s.takeClutch .opened = b.endAndPark .rock .stopped) ∧
         (∀ o, (s.winder .rock).stopPending = false → r.offerEnd = some o →
           s.takeClutch .opened = b.endAndPark .rock o)))) ∧
  (∀ (s : State) (c : Clutch), s.repair = none →
     let b : State := { s with clutch := some c }
     let coupled := ∃ a l, (s.pipe .rock).active = some a ∧ a.leg = some l ∧ l.isCoupled = true
     (c = .closed ∨ s.pairing = .unpaired → s.takeClutch c = b.discardInspection c) ∧
     (c ≠ .closed → s.pairing ≠ .unpaired →
       (coupled → s.takeClutch c =
         (b.unpair.deliver
           ⟨.clutchFault, .trip, .rock, s.leading .rock, s.activeNumber .rock, none, none⟩).discardInspection c) ∧
       (¬coupled → s.takeClutch c = b.unpair.discardInspection c)) ∧
     let misfit := ∃ t, (s.pipe .rock).staged = some t ∧ t.kind = .inspection ∧
       ((∃ l, t.leg = some l ∧ l.isCoupled = true) → c ≠ .closed) ∧
       (¬(∃ l, t.leg = some l ∧ l.isCoupled = true) → c ≠ .opened)
     (misfit → s.discardInspection c = s.discardStaged .rock .withdrawn) ∧ (¬misfit → s.discardInspection c = s)) ∧
  (∀ s : State, (s.pairing = .unpaired → s.unpair = s) ∧
     (s.pairing ≠ .unpaired →
       let u := s.unpair
       let held := (s.queues.get .rock).map (fun c => { c with state := CallState.heldPairing })
       u.pairing = .unpaired ∧ u.pairBeyond = false ∧ (u.pipe .rock).active = (s.pipe .rock).active ∧
       u.winders = s.winders ∧ u.positions = s.positions ∧ u.sent = s.sent ∧
       ((∀ t, (s.pipe .rock).staged = some t → t.isRockCycle = false) →
         u = { s with pairing := .unpaired, pairBeyond := false, queues := s.queues.set .rock held }) ∧
       (∀ t, (s.pipe .rock).staged = some t → t.isRockCycle = true →
         (u.pipe .rock).staged = none ∧
         (t.source = none → u.queues.get .rock = held ∧ (u.pipe .rock).latest = some ⟨t.number, .withdrawn⟩) ∧
         (∀ c k, t.source = some c → c.work = .cycle k → (∀ x ∈ s.queues.get .rock, x.work.merges c.work = false) →
           u.queues.get .rock = { c with state := .heldPairing } :: held)))) ∧
  (∀ (s : State) (k : Skip) (p : Pocket) (number : Nat),
     let l := s.freeLeg k p number
     let e := s.work.rockPoints.get p.point
     l = ⟨[⟨k.conveyance, e.depth, some e.window⟩], k.conveyance, none, .rePair, l.direction, 0, .pending⟩ ∧
     ∀ x, (s.position k.conveyance).estimate = some x →
       (x < e.depth → l.direction = .descending) ∧ (e.depth < x → l.direction = .ascending))

/-! ## Envelope Monitor -/

/-- The OVER, CRITICAL and UNDER conditions after a comparison (R144, R145, R146); when a comparison is made and against which
speed and cap (R143); what each of them delivers and hands on (R113, R144 to R147). The distance to go of a leg whose leading
record holds no estimate is log 49. -/
def Obligations.EnvelopeConditions : Prop :=
  (∀ speed cap hysteresis : Nat,
    (overAfter false speed cap hysteresis = true ↔ cap < speed) ∧
    (overAfter true speed cap hysteresis = false ↔
      (if cap ≤ hysteresis then speed = 0 else speed ≤ cap - hysteresis)) ∧
    (∀ margin, criticalHolds speed cap margin = true ↔ cap * (100 + margin) < speed * 100) ∧
    ∀ u d a, (underAfter false speed cap hysteresis u d a = true ↔ speed < u ∧ a < d ∧ u + hysteresis ≤ cap) ∧
      (underAfter true speed cap hysteresis u d a = false ↔ u + hysteresis ≤ speed ∨ d ≤ a ∨ cap < u + hysteresis)) ∧
  (∀ (s : State) (w : Winder),
     let kept : State :=
       { s with monitors := s.monitors.set w { s.monitor w with speed := s.winderSpeed w, cap := s.caps.get w } }
     ((s.monitor w).running = false ∨ s.inMotion w = false → s.compare w = s) ∧
     ((s.monitor w).running = true → s.inMotion w = true →
       s.compare w = ((kept.compareOver w).compareCritical w).compareUnder w) ∧
     (∀ c, c ∈ s.moved w ↔
       ∃ t l, (s.pipe w).active = some t ∧ t.legs[t.current - 1]? = some l ∧ ∃ m ∈ l.motions, m.conveyance = c) ∧
     (∀ x, s.leading w = some x ↔ ∃ t l, (s.pipe w).active = some t ∧ t.legs[t.current - 1]? = some l ∧ l.leading = x) ∧
     (∀ x, s.activeNumber w = some x ↔ ∃ t, (s.pipe w).active = some t ∧ t.number = x) ∧
     (∀ c ∈ s.moved w, (s.position c).speed.natAbs ≤ s.winderSpeed w) ∧
     (s.winderSpeed w = 0 ∨ ∃ c ∈ s.moved w, s.winderSpeed w = (s.position c).speed.natAbs) ∧
     s.handAndCompare w = (({ s with caps := s.caps.set w (s.capOf w) } : State).compare w).followCap w ∧
     (∀ old, (s.winder w).slowCap = some old → (s.monitor w).overIndication = true → (s.caps.get w).speed < old →
       s.followCap w =
         ({ s with winders := s.winders.set w { s.winder w with slowCap := some (s.caps.get w).speed } } :
           State).sendOrder w (.slow (s.caps.get w).speed)) ∧
     ((∀ old, (s.winder w).slowCap = some old →
         (s.monitor w).overIndication = false ∨ old ≤ (s.caps.get w).speed) → s.followCap w = s)) ∧
  (∀ (s : State) (w : Winder),
     let m := s.monitor w
     let e := s.work.envelope.get w
     let after := overAfter m.overCondition m.speed m.cap.speed e.hysteresis
     let zone : Option Nat :=
       match m.cap.term with
       | some (.slow n) | some (.passing n) => some n
       | _ => none
     let report (k : FaultKind) (v : Severity) : FaultReport := ⟨k, v, w, s.leading w, s.activeNumber w, zone, none⟩
     let cap := (s.caps.get w).speed
     let raised := s.deliver (report .overFault .note)
     let setOver (x : State) : State :=
       { x with monitors := s.monitors.set w { m with overCondition := true, overIndication := true } }
     let endOver (x : State) (indication : Bool) : State :=
       { x with monitors := s.monitors.set w { m with overCondition := false, overIndication := indication } }
     (after = m.overCondition → s.compareOver w = s) ∧
     (m.overCondition = false → after = true →
       (m.overIndication = true ∨ s.inMotion w = false → s.compareOver w = setOver raised) ∧
       (m.overIndication = false → s.inMotion w = true → s.compareOver w =
         ({ setOver raised with winders := s.winders.set w { s.winder w with slowCap := some cap } } :
           State).sendOrder w (.slow cap))) ∧
     (m.overCondition = true → after = false →
       (e.mode = .latched ∨ m.overIndication = false → s.compareOver w = endOver s m.overIndication) ∧
       (e.mode = .follow → m.overIndication = true →
         let cleared : State :=
           { endOver s false with winders := s.winders.set w { s.winder w with slowCap := none } }
         (s.inMotion w = true → s.compareOver w = cleared.sendOrder w .resume) ∧
         (s.inMotion w = false → s.compareOver w = cleared))) ∧
     (criticalHolds m.speed m.cap.speed e.margin = true → m.critical = false →
       s.compareCritical w =
         ({ s with monitors := s.monitors.set w { m with critical := true } } : State).deliver (report .overspeed .trip)) ∧
     (criticalHolds m.speed m.cap.speed e.margin = false ∨ m.critical = true → s.compareCritical w = s)) ∧
  (∀ (s : State) (w : Winder),
     let m := s.monitor w
     let e := s.work.envelope.get w
     ((s.winder w).state ≠ .running ∨ s.activeLeg w = none → s.compareUnder w = s) ∧
     (∀ l, (s.winder w).state = .running → s.activeLeg w = some l →
       let c := s.work.classes.get l.cls
       let after := underAfter m.underCondition m.speed m.cap.speed e.hysteresis (e.under * c.maxSpeed / 100) (s.toGo l)
         c.approachDistance
       (after = m.underCondition → s.compareUnder w = s) ∧
       (m.underCondition = false → after = true → s.compareUnder w =
         { s with monitors := s.monitors.set w { m with underCondition := true, underTimer := some (s.now + 5000#32) } }) ∧
       (m.underCondition = true → after = false → s.compareUnder w =
         { s with
           monitors := s.monitors.set w
             { m with underCondition := false
                      underTimer := none
                      underIndication := m.underIndication && decide (e.mode = .latched) } })))

/-- WRITE ENVELOPE with its refusals in their order, the locks, the monitor and CLEAR INDICATIONS (R148 to R151): the state
that each leaves, the whole of it. That the refusals come before the case of a monitor already stopped, or of a lock already
set, is log 62, the model's choice. The closing run of planner and offer is log 12. -/
def Obligations.EnvelopeRequestsAreTaken : Prop :=
  ∀ (s : State) (h : Head) (n : Nat) (w : Winder), winderCode n = some w →
    let m := s.monitor w
    let old := s.work.envelope.get w
    let checked : Monitor :=
      { m with overIndication := m.overIndication && m.overCondition
               underIndication := m.underIndication && m.underCondition }
    let overEnds : Prop := m.overIndication = true ∧ m.overCondition = false
    let slowed (ends : Prop) (winders : PerWinder WinderRecord) : Prop :=
      (ends → winders = s.winders.set w { s.winder w with slowCap := none }) ∧ (¬ends → winders = s.winders)
    (∀ hysteresis mode under margin, s.admits h .writeEnvelope 6 (some n) →
      let cmd := Instr.writeEnvelope h n hysteresis mode under margin
      TestsInOrder (fun r => s.Reads cmd h .writeEnvelope (.refused r, .nothing))
        [((hysteresis ≠ 0 ∧ hysteresis ≠ 100 ∧ hysteresis ≠ 250 ∧ hysteresis ≠ 500) ∨ 2 ≤ mode ∨ under < 10 ∨ 50 < under ∨
            margin < 5 ∨ 15 < margin, .outOfRange),
         ((s.winder w).state ≠ .parked, .notParked),
         ((m.envelopeLock = true ∧ (hysteresis ≠ old.hysteresis ∨ indicationModeCode mode ≠ some old.mode ∨
              under ≠ old.under ∨ margin ≠ old.margin)) ∨ (m.tripLock = true ∧ margin ≠ old.margin), .locked),
         (m.running = true ∧ (hysteresis ≠ old.hysteresis ∨ under ≠ old.under), .monitorRunning)]
        (∀ k, indicationModeCode mode = some k →
          let written : State :=
            { s.heard h .writeEnvelope with
              work := { s.work with envelope := s.work.envelope.set w ⟨hysteresis, k, under, margin⟩ } }
          (old.mode = .follow ∨ k = .latched → s.Answers cmd h .writeEnvelope written (.done, .nothing)) ∧
          (old.mode = .latched → k = .follow → ∃ winders, slowed overEnds winders ∧
            s.Answers cmd h .writeEnvelope
              { written with monitors := s.monitors.set w checked, winders := winders } (.done, .nothing)))) ∧
    (s.admits h .setEnvelopeLock 1 (some n) →
      s.Answers (.setEnvelopeLock h n) h .setEnvelopeLock
        { s.heard h .setEnvelopeLock with monitors := s.monitors.set w { m with envelopeLock := true } }
        (.done, .nothing)) ∧
    (s.admits h .setTripLock 1 (some n) →
      (m.running = false → s.Reads (.setTripLock h n) h .setTripLock (.refused .monitorStopped, .nothing)) ∧
      (m.running = true →
        s.Answers (.setTripLock h n) h .setTripLock
          { s.heard h .setTripLock with monitors := s.monitors.set w { m with tripLock := true } } (.done, .nothing))) ∧
    (s.admits h .stopMonitor 1 (some n) →
      ((s.winder w).state ≠ .parked → s.Reads (.stopMonitor h n) h .stopMonitor (.refused .notParked, .nothing)) ∧
      ((s.winder w).state = .parked → m.tripLock = true →
        s.Reads (.stopMonitor h n) h .stopMonitor (.refused .locked, .nothing)) ∧
      ((s.winder w).state = .parked → m.tripLock = false → m.running = false →
        s.Reads (.stopMonitor h n) h .stopMonitor (.done, .nothing)) ∧
      ((s.winder w).state = .parked → m.tripLock = false → m.running = true →
        ∃ winders, slowed (m.overIndication = true) winders ∧
          s.Answers (.stopMonitor h n) h .stopMonitor
            { s.heard h .stopMonitor with
              monitors := s.monitors.set w
                { m with running := false, overCondition := false, overIndication := false, underCondition := false,
                         underIndication := false, underTimer := none, critical := false }
              winders := winders } (.done, .nothing))) ∧
    (s.admits h .startMonitor 1 (some n) →
      s.Answers (.startMonitor h n) h .startMonitor
        (({ s.heard h .startMonitor with monitors := s.monitors.set w { m with running := true } } : State).settle w)
        (.done, .nothing)) ∧
    (s.admits h .clearIndications 1 (some n) →
      ∃ winders, slowed overEnds winders ∧
        let cleared : State :=
          { s.heard h .clearIndications with monitors := s.monitors.set w checked, winders := winders }
        let answer : Code × Answer := (.done, .indications checked.overIndication checked.underIndication)
        (overEnds → s.inMotion w = true →
          s.Answers (.clearIndications h n) h .clearIndications (cleared.sendOrder w .resume) answer) ∧
        (¬overEnds ∨ s.inMotion w = false →
          s.Answers (.clearIndications h n) h .clearIndications cleared answer))

/-! ## Stores -/

/-- CLEAR FAULTS, CLEAR COUNTERS, COMMIT, with what an Unconfigured part must have for it, and the ends of the two writes (R160,
R163, R176, R177, R178). That the end of a write carries the result of its check is log 6; the unsound spare copy that a failed
check leaves is the model's own record of it. -/
def Obligations.RecordsAndStores : Prop :=
  ∀ (s : State) (h : Head),
    (s.admits h .clearFaults 0 none →
      let safe (w : Winder) : Prop := (s.winder w).state ≠ .tripped ∧ (s.winder w).state ≠ .lockout
      (safe .service ∧ safe .rock →
        s.Answers (.clearFaults h) h .clearFaults
          { s.heard h .clearFaults with primary := none, faults := [], overflow := 0 } (.done, .nothing)) ∧
      (¬(safe .service ∧ safe .rock) → s.Reads (.clearFaults h) h .clearFaults (.refused .winderState, .nothing))) ∧
    (s.admits h .clearCounters 0 none →
      s.Answers (.clearCounters h) h .clearCounters
        { s.heard h .clearCounters with
          counters := ⟨⟨0, 0, 0, 0, 0⟩, ⟨0, 0, 0, 0, 0⟩⟩, metres := ⟨0, 0, 0, 0⟩, remainders := ⟨0, 0, 0, 0⟩
          frameErrors := ⟨0, 0, 0, 0, 0⟩ } (.done, .nothing)) ∧
    (s.configurable = true ↔
      (∃ st : Fin 16, 1 ≤ st.val ∧ (s.work.stations[st]).inService = true) ∧ ∃ n z, (n, z) ∈ s.zones ∧ z.kind = .overwind) ∧
    (s.admits h .commit 0 none →
      (s.bothParked = false → s.Reads (.commit h) h .commit (.refused .notParked, .nothing)) ∧
      (s.bothParked = true → s.unconfigured = true → s.configurable = false →
        s.Reads (.commit h) h .commit (.refused .unconfigured, .nothing)) ∧
      (s.bothParked = true → (s.unconfigured = true → s.configurable = true) →
        s.Answers (.commit h) h .commit
          { s.heard h .commit with
            commit := some ⟨⟨s.work, s.corrections, s.zones.filter (fun e => e.2.kind != .work), s.pairing,
              s.generation + 1, true⟩, s.now + 2000#32⟩ } (.done, .nothing))) ∧
    (∀ c, s.commit = some c →
      exec (.commitWriteEnd true) s =
        .next { s with
          sent := [], storedCurrent := c.copy, storedSpare := s.storedCurrent, generation := c.copy.generation
          unconfigured := false, commit := none } ∧
      Completes (.commitWriteEnd false) s (fun t =>
        t = { s with sent := [], storedSpare := { c.copy with sound := false }, commit := none, primary := s.primary,
                     faults := t.faults, overflow := t.overflow } ∧
        (s.faults.length < 16 → t.faults =
          s.faults ++ [⟨.storeInvalid, .note, none, none, none, 0, 0, none, none, none, s.now, none⟩]))) ∧
    (∀ r, s.recordWrite = some r →
      exec (.shaftWorkRecordWriteEnd true) s =
        .next { s with
          sent := [], recordCurrent := r.copy, recordSpare := s.recordCurrent, recordWrite := none } ∧
      Completes (.shaftWorkRecordWriteEnd false) s (fun t =>
        t = { s with sent := [], recordSpare := { r.copy with sound := false }, recordWrite := none, primary := s.primary,
                     faults := t.faults, overflow := t.overflow } ∧
        (s.faults.length < 16 → t.faults =
          s.faults ++ [⟨.storeInvalid, .note, none, none, none, 0, 0, none, none, none, s.now, none⟩])))

/-- POWER ON loads the stores that are sound, takes the defaults for one that is not, samples the lines and takes every
other power-on value (R14, R35, R54, R73, R95, R107, R115, R142, R152, R154, R155, R163, R164, R179, R181): every field of the
state. That a write in progress leaves both spare copies as they stood is log 39, the order in which displaced entries move log
34, the order in which asserted lines are taken log 15, the reading 0 of each port's last byte log 30; nothing sent
before the event, the count of free values used and the queue are the model's own (logs 3, 7 and 1). -/
def Obligations.PowerOnRunsTheStartUpSequence : Prop :=
  ∀ s : State, Completes .powerOn s (fun t =>
    let c := s.storedCurrent
    let r := s.recordCurrent
    let work := if c.sound then c.settings else Settings.defaults
    let cold := work.tracking.coldBand
    let correction (x : Conveyance) : Int := if c.sound then c.corrections.get x else 0
    let asserted := [Winder.service, .rock].filter (fun w => s.emergencyLine.get w)
    let invalid : FaultEntry := ⟨.storeInvalid, .note, none, none, none, 0, 0, none, none, none, 0, none⟩
    let stopped (w : Winder) : FaultEntry := ⟨.emergencyStop, .trip, some w, none, none, cold, 0, none, none, none, 0, none⟩
    let stored := if c.sound then c.zones else []
    let recorded := if r.sound then r.work else []
    let moved (x : List (Nat × Zone) × Nat) (e : Nat × Zone) : List (Nat × Zone) × Nat :=
      match lowestFreeOrdinary x.1 with
      | some n => (tablePut x.1 n e.2, x.2)
      | none => (x.1, x.2 + 1)
    let table := (stored.filter (fun e => (tableGet recorded e.1).isSome)).foldl moved (placeAll stored recorded, 0)
    let notes := table.2 + (if c.sound then 0 else 1) + (if r.sound then 0 else 1)
    let entries := List.replicate notes invalid ++ asserted.map stopped
    t.now = 0 ∧ t.work = work ∧ t.unconfigured = !c.sound ∧ t.generation = (if c.sound then c.generation else 0) ∧
    t.commissioning = s.commissioningLine ∧ t.commissioningLine = s.commissioningLine ∧
    t.emergencyLine = s.emergencyLine ∧ t.maintenanceKey = s.maintenanceKey ∧
    t.bars = (if r.sound then r.bars else Vector.replicate 16 true) ∧
    t.pairing = (if c.sound then c.pairing else .unpaired) ∧
    t.storedCurrent = s.storedCurrent ∧ t.storedSpare = s.storedSpare ∧ t.recordCurrent = s.recordCurrent ∧
    t.recordSpare = s.recordSpare ∧ t.commit = none ∧ t.recordWrite = none ∧
    t.clutch = none ∧ t.repair = none ∧ t.clutchTimer = none ∧ t.assembly = none ∧ t.snapshot = none ∧
    t.startupCheck = true ∧ t.pairBeyond = false ∧ t.draws = s.draws ∧ t.pending = s.pending ∧
    (∀ k, t.skips.get k = ⟨.unknown, 0⟩) ∧ (∀ l, t.ports.get l = ⟨.hunting, 0⟩ ∧ t.frameErrors.get l = 0) ∧
    (∀ d, t.drumDepth.get d = none ∧ t.metresFrom.get d = none) ∧
    (∀ w, t.queues.get w = [] ∧ t.ended.get w = [] ∧ t.lastCallId.get w = 250 ∧ t.pipe w = Pipe.atPowerOn ∧
      t.reports.get w = none ∧ t.monitor w = Monitor.atPowerOn ∧ t.caps.get w = ⟨0, none⟩ ∧
      t.restricted.get w = false ∧ t.counters.get w = ⟨0, 0, 0, 0, 0⟩) ∧
    (∀ x, t.position x = { Position.atPowerOn cold (correction x) with armed := !s.emergencyLine.get (ownerOf x) } ∧
      t.metres.get x = 0 ∧ t.remainders.get x = 0 ∧ t.lastPass.get x = none) ∧
    (∀ w, s.emergencyLine.get w = false → t.winder w = WinderRecord.atPowerOn ∧ t.drives.get w = ⟨0, [], []⟩) ∧
    (∀ w, s.emergencyLine.get w = true →
      t.winder w = { WinderRecord.atPowerOn with state := .tripped, brakeDemand := true } ∧
      t.drives.get w = ⟨1, [⟨.brake, 0, 500#32⟩], []⟩) ∧
    t.sent = asserted.map (fun w => .order w 0 .brake) ∧
    t.zones = table.1 ∧
    t.faults = entries.take 16 ∧ t.overflow = min 255 (entries.length - 16) ∧
    t.primary = (asserted.map stopped).head?)
end

