-- ==== Sys2Proof/Laws/State.lean ====
section
/-! SUPPORT. What the record updates of Ops.lean and Links.lean do to each field: the laws of the families of like things, then for each update the field it changes and every field it does not, all true by computation. -/

namespace Sys2Proof.Machine

/-! ## Families of like things -/

/-- Reading what was just written. -/
@[simp] theorem PerWinder.get_set_self {α : Type} (p : PerWinder α) (k : Winder) (a : α) : (p.set k a).get k = a := by
  cases k <;> rfl

/-- Reading another place than the one written. -/
theorem PerWinder.get_set_ne {α : Type} (p : PerWinder α) {k j : Winder} (a : α) (h : j ≠ k) : (p.set k a).get j = p.get j := by
  cases k <;> cases j <;> first | rfl | exact absurd rfl h

/-- Writing what already stands there. -/
@[simp] theorem PerWinder.set_get {α : Type} (p : PerWinder α) (k : Winder) : p.set k (p.get k) = p := by
  cases k <;> rfl

/-- The later of two writes to one place stands. -/
@[simp] theorem PerWinder.set_set {α : Type} (p : PerWinder α) (k : Winder) (a b : α) : (p.set k a).set k b = p.set k b := by
  cases k <;> rfl

/-- A family is known by its members. -/
theorem PerWinder.ext_get {α : Type} {p q : PerWinder α} (h : ∀ k, p.get k = q.get k) : p = q := by
  cases p; cases q
  congr 1
  exacts [h .service, h .rock]

/-- Reading what was just written. -/
@[simp] theorem PerConveyance.get_set_self {α : Type} (p : PerConveyance α) (k : Conveyance) (a : α) : (p.set k a).get k = a := by
  cases k <;> rfl

/-- Reading another place than the one written. -/
theorem PerConveyance.get_set_ne {α : Type} (p : PerConveyance α) {k j : Conveyance} (a : α) (h : j ≠ k) : (p.set k a).get j = p.get j := by
  cases k <;> cases j <;> first | rfl | exact absurd rfl h

/-- Writing what already stands there. -/
@[simp] theorem PerConveyance.set_get {α : Type} (p : PerConveyance α) (k : Conveyance) : p.set k (p.get k) = p := by
  cases k <;> rfl

/-- The later of two writes to one place stands. -/
@[simp] theorem PerConveyance.set_set {α : Type} (p : PerConveyance α) (k : Conveyance) (a b : α) : (p.set k a).set k b = p.set k b := by
  cases k <;> rfl

/-- A family is known by its members. -/
theorem PerConveyance.ext_get {α : Type} {p q : PerConveyance α} (h : ∀ k, p.get k = q.get k) : p = q := by
  cases p; cases q
  congr 1
  exacts [h .cage, h .counterweight, h .skip0, h .skip1]

/-- Reading what was just written. -/
@[simp] theorem PerDrum.get_set_self {α : Type} (p : PerDrum α) (k : Drum) (a : α) : (p.set k a).get k = a := by
  cases k <;> rfl

/-- Reading another place than the one written. -/
theorem PerDrum.get_set_ne {α : Type} (p : PerDrum α) {k j : Drum} (a : α) (h : j ≠ k) : (p.set k a).get j = p.get j := by
  cases k <;> cases j <;> first | rfl | exact absurd rfl h

/-- Writing what already stands there. -/
@[simp] theorem PerDrum.set_get {α : Type} (p : PerDrum α) (k : Drum) : p.set k (p.get k) = p := by
  cases k <;> rfl

/-- The later of two writes to one place stands. -/
@[simp] theorem PerDrum.set_set {α : Type} (p : PerDrum α) (k : Drum) (a b : α) : (p.set k a).set k b = p.set k b := by
  cases k <;> rfl

/-- A family is known by its members. -/
theorem PerDrum.ext_get {α : Type} {p q : PerDrum α} (h : ∀ k, p.get k = q.get k) : p = q := by
  cases p; cases q
  congr 1
  exacts [h .service, h .drum0, h .drum1]

/-- Reading what was just written. -/
@[simp] theorem PerLink.get_set_self {α : Type} (p : PerLink α) (k : Link) (a : α) : (p.set k a).get k = a := by
  cases k <;> rfl

/-- Reading another place than the one written. -/
theorem PerLink.get_set_ne {α : Type} (p : PerLink α) {k j : Link} (a : α) (h : j ≠ k) : (p.set k a).get j = p.get j := by
  cases k <;> cases j <;> first | rfl | exact absurd rfl h

/-- Writing what already stands there. -/
@[simp] theorem PerLink.set_get {α : Type} (p : PerLink α) (k : Link) : p.set k (p.get k) = p := by
  cases k <;> rfl

/-- The later of two writes to one place stands. -/
@[simp] theorem PerLink.set_set {α : Type} (p : PerLink α) (k : Link) (a b : α) : (p.set k a).set k b = p.set k b := by
  cases k <;> rfl

/-- A family is known by its members. -/
theorem PerLink.ext_get {α : Type} {p q : PerLink α} (h : ∀ k, p.get k = q.get k) : p = q := by
  cases p; cases q
  congr 1
  exacts [h .console, h .signal, h .ore, h .rockDrive, h .serviceDrive]

/-- Reading what was just written. -/
@[simp] theorem PerSkip.get_set_self {α : Type} (p : PerSkip α) (k : Skip) (a : α) : (p.set k a).get k = a := by
  cases k <;> rfl

/-- Reading another place than the one written. -/
theorem PerSkip.get_set_ne {α : Type} (p : PerSkip α) {k j : Skip} (a : α) (h : j ≠ k) : (p.set k a).get j = p.get j := by
  cases k <;> cases j <;> first | rfl | exact absurd rfl h

/-- Writing what already stands there. -/
@[simp] theorem PerSkip.set_get {α : Type} (p : PerSkip α) (k : Skip) : p.set k (p.get k) = p := by
  cases k <;> rfl

/-- The later of two writes to one place stands. -/
@[simp] theorem PerSkip.set_set {α : Type} (p : PerSkip α) (k : Skip) (a b : α) : (p.set k a).set k b = p.set k b := by
  cases k <;> rfl

/-- A family is known by its members. -/
theorem PerSkip.ext_get {α : Type} {p q : PerSkip α} (h : ∀ k, p.get k = q.get k) : p = q := by
  cases p; cases q
  congr 1
  exacts [h .skip0, h .skip1]

/-! ## State.withPipe -/

theorem State.withPipe_pipes (s : State) (w : Winder) (f : Pipe → Pipe) : (s.withPipe w f).pipes = s.pipes.set w (f (s.pipes.get w)) := rfl
@[simp] theorem State.withPipe_pipe_self (s : State) (w : Winder) (f : Pipe → Pipe) : (s.withPipe w f).pipe w = f (s.pipe w) := PerWinder.get_set_self ..
theorem State.withPipe_pipe_ne (s : State) (w : Winder) (f : Pipe → Pipe) {v : Winder} (h : v ≠ w) : (s.withPipe w f).pipe v = s.pipe v := PerWinder.get_set_ne _ _ h
@[simp] theorem State.withPipe_now (s : State) (w : Winder) (f : Pipe → Pipe) : (s.withPipe w f).now = s.now := rfl
@[simp] theorem State.withPipe_emergencyLine (s : State) (w : Winder) (f : Pipe → Pipe) : (s.withPipe w f).emergencyLine = s.emergencyLine := rfl
@[simp] theorem State.withPipe_maintenanceKey (s : State) (w : Winder) (f : Pipe → Pipe) : (s.withPipe w f).maintenanceKey = s.maintenanceKey := rfl
@[simp] theorem State.withPipe_commissioningLine (s : State) (w : Winder) (f : Pipe → Pipe) : (s.withPipe w f).commissioningLine = s.commissioningLine := rfl
@[simp] theorem State.withPipe_commissioning (s : State) (w : Winder) (f : Pipe → Pipe) : (s.withPipe w f).commissioning = s.commissioning := rfl
@[simp] theorem State.withPipe_unconfigured (s : State) (w : Winder) (f : Pipe → Pipe) : (s.withPipe w f).unconfigured = s.unconfigured := rfl
@[simp] theorem State.withPipe_generation (s : State) (w : Winder) (f : Pipe → Pipe) : (s.withPipe w f).generation = s.generation := rfl
@[simp] theorem State.withPipe_work (s : State) (w : Winder) (f : Pipe → Pipe) : (s.withPipe w f).work = s.work := rfl
@[simp] theorem State.withPipe_storedCurrent (s : State) (w : Winder) (f : Pipe → Pipe) : (s.withPipe w f).storedCurrent = s.storedCurrent := rfl
@[simp] theorem State.withPipe_storedSpare (s : State) (w : Winder) (f : Pipe → Pipe) : (s.withPipe w f).storedSpare = s.storedSpare := rfl
@[simp] theorem State.withPipe_commit (s : State) (w : Winder) (f : Pipe → Pipe) : (s.withPipe w f).commit = s.commit := rfl
@[simp] theorem State.withPipe_recordCurrent (s : State) (w : Winder) (f : Pipe → Pipe) : (s.withPipe w f).recordCurrent = s.recordCurrent := rfl
@[simp] theorem State.withPipe_recordSpare (s : State) (w : Winder) (f : Pipe → Pipe) : (s.withPipe w f).recordSpare = s.recordSpare := rfl
@[simp] theorem State.withPipe_recordWrite (s : State) (w : Winder) (f : Pipe → Pipe) : (s.withPipe w f).recordWrite = s.recordWrite := rfl
@[simp] theorem State.withPipe_ports (s : State) (w : Winder) (f : Pipe → Pipe) : (s.withPipe w f).ports = s.ports := rfl
@[simp] theorem State.withPipe_drives (s : State) (w : Winder) (f : Pipe → Pipe) : (s.withPipe w f).drives = s.drives := rfl
@[simp] theorem State.withPipe_snapshot (s : State) (w : Winder) (f : Pipe → Pipe) : (s.withPipe w f).snapshot = s.snapshot := rfl
@[simp] theorem State.withPipe_sent (s : State) (w : Winder) (f : Pipe → Pipe) : (s.withPipe w f).sent = s.sent := rfl
@[simp] theorem State.withPipe_positions (s : State) (w : Winder) (f : Pipe → Pipe) : (s.withPipe w f).positions = s.positions := rfl
@[simp] theorem State.withPipe_reports (s : State) (w : Winder) (f : Pipe → Pipe) : (s.withPipe w f).reports = s.reports := rfl
@[simp] theorem State.withPipe_drumDepth (s : State) (w : Winder) (f : Pipe → Pipe) : (s.withPipe w f).drumDepth = s.drumDepth := rfl
@[simp] theorem State.withPipe_metresFrom (s : State) (w : Winder) (f : Pipe → Pipe) : (s.withPipe w f).metresFrom = s.metresFrom := rfl
@[simp] theorem State.withPipe_lastPass (s : State) (w : Winder) (f : Pipe → Pipe) : (s.withPipe w f).lastPass = s.lastPass := rfl
@[simp] theorem State.withPipe_startupCheck (s : State) (w : Winder) (f : Pipe → Pipe) : (s.withPipe w f).startupCheck = s.startupCheck := rfl
@[simp] theorem State.withPipe_pairBeyond (s : State) (w : Winder) (f : Pipe → Pipe) : (s.withPipe w f).pairBeyond = s.pairBeyond := rfl
@[simp] theorem State.withPipe_zones (s : State) (w : Winder) (f : Pipe → Pipe) : (s.withPipe w f).zones = s.zones := rfl
@[simp] theorem State.withPipe_caps (s : State) (w : Winder) (f : Pipe → Pipe) : (s.withPipe w f).caps = s.caps := rfl
@[simp] theorem State.withPipe_restricted (s : State) (w : Winder) (f : Pipe → Pipe) : (s.withPipe w f).restricted = s.restricted := rfl
@[simp] theorem State.withPipe_queues (s : State) (w : Winder) (f : Pipe → Pipe) : (s.withPipe w f).queues = s.queues := rfl
@[simp] theorem State.withPipe_lastCallId (s : State) (w : Winder) (f : Pipe → Pipe) : (s.withPipe w f).lastCallId = s.lastCallId := rfl
@[simp] theorem State.withPipe_ended (s : State) (w : Winder) (f : Pipe → Pipe) : (s.withPipe w f).ended = s.ended := rfl
@[simp] theorem State.withPipe_assembly (s : State) (w : Winder) (f : Pipe → Pipe) : (s.withPipe w f).assembly = s.assembly := rfl
@[simp] theorem State.withPipe_bars (s : State) (w : Winder) (f : Pipe → Pipe) : (s.withPipe w f).bars = s.bars := rfl
@[simp] theorem State.withPipe_winders (s : State) (w : Winder) (f : Pipe → Pipe) : (s.withPipe w f).winders = s.winders := rfl
@[simp] theorem State.withPipe_skips (s : State) (w : Winder) (f : Pipe → Pipe) : (s.withPipe w f).skips = s.skips := rfl
@[simp] theorem State.withPipe_pairing (s : State) (w : Winder) (f : Pipe → Pipe) : (s.withPipe w f).pairing = s.pairing := rfl
@[simp] theorem State.withPipe_clutch (s : State) (w : Winder) (f : Pipe → Pipe) : (s.withPipe w f).clutch = s.clutch := rfl
@[simp] theorem State.withPipe_repair (s : State) (w : Winder) (f : Pipe → Pipe) : (s.withPipe w f).repair = s.repair := rfl
@[simp] theorem State.withPipe_clutchTimer (s : State) (w : Winder) (f : Pipe → Pipe) : (s.withPipe w f).clutchTimer = s.clutchTimer := rfl
@[simp] theorem State.withPipe_monitors (s : State) (w : Winder) (f : Pipe → Pipe) : (s.withPipe w f).monitors = s.monitors := rfl
@[simp] theorem State.withPipe_primary (s : State) (w : Winder) (f : Pipe → Pipe) : (s.withPipe w f).primary = s.primary := rfl
@[simp] theorem State.withPipe_faults (s : State) (w : Winder) (f : Pipe → Pipe) : (s.withPipe w f).faults = s.faults := rfl
@[simp] theorem State.withPipe_overflow (s : State) (w : Winder) (f : Pipe → Pipe) : (s.withPipe w f).overflow = s.overflow := rfl
@[simp] theorem State.withPipe_counters (s : State) (w : Winder) (f : Pipe → Pipe) : (s.withPipe w f).counters = s.counters := rfl
@[simp] theorem State.withPipe_metres (s : State) (w : Winder) (f : Pipe → Pipe) : (s.withPipe w f).metres = s.metres := rfl
@[simp] theorem State.withPipe_remainders (s : State) (w : Winder) (f : Pipe → Pipe) : (s.withPipe w f).remainders = s.remainders := rfl
@[simp] theorem State.withPipe_frameErrors (s : State) (w : Winder) (f : Pipe → Pipe) : (s.withPipe w f).frameErrors = s.frameErrors := rfl
@[simp] theorem State.withPipe_draws (s : State) (w : Winder) (f : Pipe → Pipe) : (s.withPipe w f).draws = s.draws := rfl
@[simp] theorem State.withPipe_pending (s : State) (w : Winder) (f : Pipe → Pipe) : (s.withPipe w f).pending = s.pending := rfl
@[simp] theorem State.withPipe_winder (s : State) (w : Winder) (f : Pipe → Pipe) (k : Winder) : (s.withPipe w f).winder k = s.winder k := rfl
@[simp] theorem State.withPipe_monitor (s : State) (w : Winder) (f : Pipe → Pipe) (k : Winder) : (s.withPipe w f).monitor k = s.monitor k := rfl
@[simp] theorem State.withPipe_position (s : State) (w : Winder) (f : Pipe → Pipe) (k : Conveyance) : (s.withPipe w f).position k = s.position k := rfl

/-! ## State.withWinder -/

theorem State.withWinder_winders (s : State) (w : Winder) (f : WinderRecord → WinderRecord) : (s.withWinder w f).winders = s.winders.set w (f (s.winders.get w)) := rfl
@[simp] theorem State.withWinder_winder_self (s : State) (w : Winder) (f : WinderRecord → WinderRecord) : (s.withWinder w f).winder w = f (s.winder w) := PerWinder.get_set_self ..
theorem State.withWinder_winder_ne (s : State) (w : Winder) (f : WinderRecord → WinderRecord) {v : Winder} (h : v ≠ w) : (s.withWinder w f).winder v = s.winder v := PerWinder.get_set_ne _ _ h
@[simp] theorem State.withWinder_now (s : State) (w : Winder) (f : WinderRecord → WinderRecord) : (s.withWinder w f).now = s.now := rfl
@[simp] theorem State.withWinder_emergencyLine (s : State) (w : Winder) (f : WinderRecord → WinderRecord) : (s.withWinder w f).emergencyLine = s.emergencyLine := rfl
@[simp] theorem State.withWinder_maintenanceKey (s : State) (w : Winder) (f : WinderRecord → WinderRecord) : (s.withWinder w f).maintenanceKey = s.maintenanceKey := rfl
@[simp] theorem State.withWinder_commissioningLine (s : State) (w : Winder) (f : WinderRecord → WinderRecord) : (s.withWinder w f).commissioningLine = s.commissioningLine := rfl
@[simp] theorem State.withWinder_commissioning (s : State) (w : Winder) (f : WinderRecord → WinderRecord) : (s.withWinder w f).commissioning = s.commissioning := rfl
@[simp] theorem State.withWinder_unconfigured (s : State) (w : Winder) (f : WinderRecord → WinderRecord) : (s.withWinder w f).unconfigured = s.unconfigured := rfl
@[simp] theorem State.withWinder_generation (s : State) (w : Winder) (f : WinderRecord → WinderRecord) : (s.withWinder w f).generation = s.generation := rfl
@[simp] theorem State.withWinder_work (s : State) (w : Winder) (f : WinderRecord → WinderRecord) : (s.withWinder w f).work = s.work := rfl
@[simp] theorem State.withWinder_storedCurrent (s : State) (w : Winder) (f : WinderRecord → WinderRecord) : (s.withWinder w f).storedCurrent = s.storedCurrent := rfl
@[simp] theorem State.withWinder_storedSpare (s : State) (w : Winder) (f : WinderRecord → WinderRecord) : (s.withWinder w f).storedSpare = s.storedSpare := rfl
@[simp] theorem State.withWinder_commit (s : State) (w : Winder) (f : WinderRecord → WinderRecord) : (s.withWinder w f).commit = s.commit := rfl
@[simp] theorem State.withWinder_recordCurrent (s : State) (w : Winder) (f : WinderRecord → WinderRecord) : (s.withWinder w f).recordCurrent = s.recordCurrent := rfl
@[simp] theorem State.withWinder_recordSpare (s : State) (w : Winder) (f : WinderRecord → WinderRecord) : (s.withWinder w f).recordSpare = s.recordSpare := rfl
@[simp] theorem State.withWinder_recordWrite (s : State) (w : Winder) (f : WinderRecord → WinderRecord) : (s.withWinder w f).recordWrite = s.recordWrite := rfl
@[simp] theorem State.withWinder_ports (s : State) (w : Winder) (f : WinderRecord → WinderRecord) : (s.withWinder w f).ports = s.ports := rfl
@[simp] theorem State.withWinder_drives (s : State) (w : Winder) (f : WinderRecord → WinderRecord) : (s.withWinder w f).drives = s.drives := rfl
@[simp] theorem State.withWinder_snapshot (s : State) (w : Winder) (f : WinderRecord → WinderRecord) : (s.withWinder w f).snapshot = s.snapshot := rfl
@[simp] theorem State.withWinder_sent (s : State) (w : Winder) (f : WinderRecord → WinderRecord) : (s.withWinder w f).sent = s.sent := rfl
@[simp] theorem State.withWinder_positions (s : State) (w : Winder) (f : WinderRecord → WinderRecord) : (s.withWinder w f).positions = s.positions := rfl
@[simp] theorem State.withWinder_reports (s : State) (w : Winder) (f : WinderRecord → WinderRecord) : (s.withWinder w f).reports = s.reports := rfl
@[simp] theorem State.withWinder_drumDepth (s : State) (w : Winder) (f : WinderRecord → WinderRecord) : (s.withWinder w f).drumDepth = s.drumDepth := rfl
@[simp] theorem State.withWinder_metresFrom (s : State) (w : Winder) (f : WinderRecord → WinderRecord) : (s.withWinder w f).metresFrom = s.metresFrom := rfl
@[simp] theorem State.withWinder_lastPass (s : State) (w : Winder) (f : WinderRecord → WinderRecord) : (s.withWinder w f).lastPass = s.lastPass := rfl
@[simp] theorem State.withWinder_startupCheck (s : State) (w : Winder) (f : WinderRecord → WinderRecord) : (s.withWinder w f).startupCheck = s.startupCheck := rfl
@[simp] theorem State.withWinder_pairBeyond (s : State) (w : Winder) (f : WinderRecord → WinderRecord) : (s.withWinder w f).pairBeyond = s.pairBeyond := rfl
@[simp] theorem State.withWinder_zones (s : State) (w : Winder) (f : WinderRecord → WinderRecord) : (s.withWinder w f).zones = s.zones := rfl
@[simp] theorem State.withWinder_caps (s : State) (w : Winder) (f : WinderRecord → WinderRecord) : (s.withWinder w f).caps = s.caps := rfl
@[simp] theorem State.withWinder_restricted (s : State) (w : Winder) (f : WinderRecord → WinderRecord) : (s.withWinder w f).restricted = s.restricted := rfl
@[simp] theorem State.withWinder_queues (s : State) (w : Winder) (f : WinderRecord → WinderRecord) : (s.withWinder w f).queues = s.queues := rfl
@[simp] theorem State.withWinder_lastCallId (s : State) (w : Winder) (f : WinderRecord → WinderRecord) : (s.withWinder w f).lastCallId = s.lastCallId := rfl
@[simp] theorem State.withWinder_ended (s : State) (w : Winder) (f : WinderRecord → WinderRecord) : (s.withWinder w f).ended = s.ended := rfl
@[simp] theorem State.withWinder_assembly (s : State) (w : Winder) (f : WinderRecord → WinderRecord) : (s.withWinder w f).assembly = s.assembly := rfl
@[simp] theorem State.withWinder_bars (s : State) (w : Winder) (f : WinderRecord → WinderRecord) : (s.withWinder w f).bars = s.bars := rfl
@[simp] theorem State.withWinder_pipes (s : State) (w : Winder) (f : WinderRecord → WinderRecord) : (s.withWinder w f).pipes = s.pipes := rfl
@[simp] theorem State.withWinder_skips (s : State) (w : Winder) (f : WinderRecord → WinderRecord) : (s.withWinder w f).skips = s.skips := rfl
@[simp] theorem State.withWinder_pairing (s : State) (w : Winder) (f : WinderRecord → WinderRecord) : (s.withWinder w f).pairing = s.pairing := rfl
@[simp] theorem State.withWinder_clutch (s : State) (w : Winder) (f : WinderRecord → WinderRecord) : (s.withWinder w f).clutch = s.clutch := rfl
@[simp] theorem State.withWinder_repair (s : State) (w : Winder) (f : WinderRecord → WinderRecord) : (s.withWinder w f).repair = s.repair := rfl
@[simp] theorem State.withWinder_clutchTimer (s : State) (w : Winder) (f : WinderRecord → WinderRecord) : (s.withWinder w f).clutchTimer = s.clutchTimer := rfl
@[simp] theorem State.withWinder_monitors (s : State) (w : Winder) (f : WinderRecord → WinderRecord) : (s.withWinder w f).monitors = s.monitors := rfl
@[simp] theorem State.withWinder_primary (s : State) (w : Winder) (f : WinderRecord → WinderRecord) : (s.withWinder w f).primary = s.primary := rfl
@[simp] theorem State.withWinder_faults (s : State) (w : Winder) (f : WinderRecord → WinderRecord) : (s.withWinder w f).faults = s.faults := rfl
@[simp] theorem State.withWinder_overflow (s : State) (w : Winder) (f : WinderRecord → WinderRecord) : (s.withWinder w f).overflow = s.overflow := rfl
@[simp] theorem State.withWinder_counters (s : State) (w : Winder) (f : WinderRecord → WinderRecord) : (s.withWinder w f).counters = s.counters := rfl
@[simp] theorem State.withWinder_metres (s : State) (w : Winder) (f : WinderRecord → WinderRecord) : (s.withWinder w f).metres = s.metres := rfl
@[simp] theorem State.withWinder_remainders (s : State) (w : Winder) (f : WinderRecord → WinderRecord) : (s.withWinder w f).remainders = s.remainders := rfl
@[simp] theorem State.withWinder_frameErrors (s : State) (w : Winder) (f : WinderRecord → WinderRecord) : (s.withWinder w f).frameErrors = s.frameErrors := rfl
@[simp] theorem State.withWinder_draws (s : State) (w : Winder) (f : WinderRecord → WinderRecord) : (s.withWinder w f).draws = s.draws := rfl
@[simp] theorem State.withWinder_pending (s : State) (w : Winder) (f : WinderRecord → WinderRecord) : (s.withWinder w f).pending = s.pending := rfl
@[simp] theorem State.withWinder_pipe (s : State) (w : Winder) (f : WinderRecord → WinderRecord) (k : Winder) : (s.withWinder w f).pipe k = s.pipe k := rfl
@[simp] theorem State.withWinder_monitor (s : State) (w : Winder) (f : WinderRecord → WinderRecord) (k : Winder) : (s.withWinder w f).monitor k = s.monitor k := rfl
@[simp] theorem State.withWinder_position (s : State) (w : Winder) (f : WinderRecord → WinderRecord) (k : Conveyance) : (s.withWinder w f).position k = s.position k := rfl

/-! ## State.withMonitor -/

theorem State.withMonitor_monitors (s : State) (w : Winder) (f : Monitor → Monitor) : (s.withMonitor w f).monitors = s.monitors.set w (f (s.monitors.get w)) := rfl
@[simp] theorem State.withMonitor_monitor_self (s : State) (w : Winder) (f : Monitor → Monitor) : (s.withMonitor w f).monitor w = f (s.monitor w) := PerWinder.get_set_self ..
theorem State.withMonitor_monitor_ne (s : State) (w : Winder) (f : Monitor → Monitor) {v : Winder} (h : v ≠ w) : (s.withMonitor w f).monitor v = s.monitor v := PerWinder.get_set_ne _ _ h
@[simp] theorem State.withMonitor_now (s : State) (w : Winder) (f : Monitor → Monitor) : (s.withMonitor w f).now = s.now := rfl
@[simp] theorem State.withMonitor_emergencyLine (s : State) (w : Winder) (f : Monitor → Monitor) : (s.withMonitor w f).emergencyLine = s.emergencyLine := rfl
@[simp] theorem State.withMonitor_maintenanceKey (s : State) (w : Winder) (f : Monitor → Monitor) : (s.withMonitor w f).maintenanceKey = s.maintenanceKey := rfl
@[simp] theorem State.withMonitor_commissioningLine (s : State) (w : Winder) (f : Monitor → Monitor) : (s.withMonitor w f).commissioningLine = s.commissioningLine := rfl
@[simp] theorem State.withMonitor_commissioning (s : State) (w : Winder) (f : Monitor → Monitor) : (s.withMonitor w f).commissioning = s.commissioning := rfl
@[simp] theorem State.withMonitor_unconfigured (s : State) (w : Winder) (f : Monitor → Monitor) : (s.withMonitor w f).unconfigured = s.unconfigured := rfl
@[simp] theorem State.withMonitor_generation (s : State) (w : Winder) (f : Monitor → Monitor) : (s.withMonitor w f).generation = s.generation := rfl
@[simp] theorem State.withMonitor_work (s : State) (w : Winder) (f : Monitor → Monitor) : (s.withMonitor w f).work = s.work := rfl
@[simp] theorem State.withMonitor_storedCurrent (s : State) (w : Winder) (f : Monitor → Monitor) : (s.withMonitor w f).storedCurrent = s.storedCurrent := rfl
@[simp] theorem State.withMonitor_storedSpare (s : State) (w : Winder) (f : Monitor → Monitor) : (s.withMonitor w f).storedSpare = s.storedSpare := rfl
@[simp] theorem State.withMonitor_commit (s : State) (w : Winder) (f : Monitor → Monitor) : (s.withMonitor w f).commit = s.commit := rfl
@[simp] theorem State.withMonitor_recordCurrent (s : State) (w : Winder) (f : Monitor → Monitor) : (s.withMonitor w f).recordCurrent = s.recordCurrent := rfl
@[simp] theorem State.withMonitor_recordSpare (s : State) (w : Winder) (f : Monitor → Monitor) : (s.withMonitor w f).recordSpare = s.recordSpare := rfl
@[simp] theorem State.withMonitor_recordWrite (s : State) (w : Winder) (f : Monitor → Monitor) : (s.withMonitor w f).recordWrite = s.recordWrite := rfl
@[simp] theorem State.withMonitor_ports (s : State) (w : Winder) (f : Monitor → Monitor) : (s.withMonitor w f).ports = s.ports := rfl
@[simp] theorem State.withMonitor_drives (s : State) (w : Winder) (f : Monitor → Monitor) : (s.withMonitor w f).drives = s.drives := rfl
@[simp] theorem State.withMonitor_snapshot (s : State) (w : Winder) (f : Monitor → Monitor) : (s.withMonitor w f).snapshot = s.snapshot := rfl
@[simp] theorem State.withMonitor_sent (s : State) (w : Winder) (f : Monitor → Monitor) : (s.withMonitor w f).sent = s.sent := rfl
@[simp] theorem State.withMonitor_positions (s : State) (w : Winder) (f : Monitor → Monitor) : (s.withMonitor w f).positions = s.positions := rfl
@[simp] theorem State.withMonitor_reports (s : State) (w : Winder) (f : Monitor → Monitor) : (s.withMonitor w f).reports = s.reports := rfl
@[simp] theorem State.withMonitor_drumDepth (s : State) (w : Winder) (f : Monitor → Monitor) : (s.withMonitor w f).drumDepth = s.drumDepth := rfl
@[simp] theorem State.withMonitor_metresFrom (s : State) (w : Winder) (f : Monitor → Monitor) : (s.withMonitor w f).metresFrom = s.metresFrom := rfl
@[simp] theorem State.withMonitor_lastPass (s : State) (w : Winder) (f : Monitor → Monitor) : (s.withMonitor w f).lastPass = s.lastPass := rfl
@[simp] theorem State.withMonitor_startupCheck (s : State) (w : Winder) (f : Monitor → Monitor) : (s.withMonitor w f).startupCheck = s.startupCheck := rfl
@[simp] theorem State.withMonitor_pairBeyond (s : State) (w : Winder) (f : Monitor → Monitor) : (s.withMonitor w f).pairBeyond = s.pairBeyond := rfl
@[simp] theorem State.withMonitor_zones (s : State) (w : Winder) (f : Monitor → Monitor) : (s.withMonitor w f).zones = s.zones := rfl
@[simp] theorem State.withMonitor_caps (s : State) (w : Winder) (f : Monitor → Monitor) : (s.withMonitor w f).caps = s.caps := rfl
@[simp] theorem State.withMonitor_restricted (s : State) (w : Winder) (f : Monitor → Monitor) : (s.withMonitor w f).restricted = s.restricted := rfl
@[simp] theorem State.withMonitor_queues (s : State) (w : Winder) (f : Monitor → Monitor) : (s.withMonitor w f).queues = s.queues := rfl
@[simp] theorem State.withMonitor_lastCallId (s : State) (w : Winder) (f : Monitor → Monitor) : (s.withMonitor w f).lastCallId = s.lastCallId := rfl
@[simp] theorem State.withMonitor_ended (s : State) (w : Winder) (f : Monitor → Monitor) : (s.withMonitor w f).ended = s.ended := rfl
@[simp] theorem State.withMonitor_assembly (s : State) (w : Winder) (f : Monitor → Monitor) : (s.withMonitor w f).assembly = s.assembly := rfl
@[simp] theorem State.withMonitor_bars (s : State) (w : Winder) (f : Monitor → Monitor) : (s.withMonitor w f).bars = s.bars := rfl
@[simp] theorem State.withMonitor_pipes (s : State) (w : Winder) (f : Monitor → Monitor) : (s.withMonitor w f).pipes = s.pipes := rfl
@[simp] theorem State.withMonitor_winders (s : State) (w : Winder) (f : Monitor → Monitor) : (s.withMonitor w f).winders = s.winders := rfl
@[simp] theorem State.withMonitor_skips (s : State) (w : Winder) (f : Monitor → Monitor) : (s.withMonitor w f).skips = s.skips := rfl
@[simp] theorem State.withMonitor_pairing (s : State) (w : Winder) (f : Monitor → Monitor) : (s.withMonitor w f).pairing = s.pairing := rfl
@[simp] theorem State.withMonitor_clutch (s : State) (w : Winder) (f : Monitor → Monitor) : (s.withMonitor w f).clutch = s.clutch := rfl
@[simp] theorem State.withMonitor_repair (s : State) (w : Winder) (f : Monitor → Monitor) : (s.withMonitor w f).repair = s.repair := rfl
@[simp] theorem State.withMonitor_clutchTimer (s : State) (w : Winder) (f : Monitor → Monitor) : (s.withMonitor w f).clutchTimer = s.clutchTimer := rfl
@[simp] theorem State.withMonitor_primary (s : State) (w : Winder) (f : Monitor → Monitor) : (s.withMonitor w f).primary = s.primary := rfl
@[simp] theorem State.withMonitor_faults (s : State) (w : Winder) (f : Monitor → Monitor) : (s.withMonitor w f).faults = s.faults := rfl
@[simp] theorem State.withMonitor_overflow (s : State) (w : Winder) (f : Monitor → Monitor) : (s.withMonitor w f).overflow = s.overflow := rfl
@[simp] theorem State.withMonitor_counters (s : State) (w : Winder) (f : Monitor → Monitor) : (s.withMonitor w f).counters = s.counters := rfl
@[simp] theorem State.withMonitor_metres (s : State) (w : Winder) (f : Monitor → Monitor) : (s.withMonitor w f).metres = s.metres := rfl
@[simp] theorem State.withMonitor_remainders (s : State) (w : Winder) (f : Monitor → Monitor) : (s.withMonitor w f).remainders = s.remainders := rfl
@[simp] theorem State.withMonitor_frameErrors (s : State) (w : Winder) (f : Monitor → Monitor) : (s.withMonitor w f).frameErrors = s.frameErrors := rfl
@[simp] theorem State.withMonitor_draws (s : State) (w : Winder) (f : Monitor → Monitor) : (s.withMonitor w f).draws = s.draws := rfl
@[simp] theorem State.withMonitor_pending (s : State) (w : Winder) (f : Monitor → Monitor) : (s.withMonitor w f).pending = s.pending := rfl
@[simp] theorem State.withMonitor_pipe (s : State) (w : Winder) (f : Monitor → Monitor) (k : Winder) : (s.withMonitor w f).pipe k = s.pipe k := rfl
@[simp] theorem State.withMonitor_winder (s : State) (w : Winder) (f : Monitor → Monitor) (k : Winder) : (s.withMonitor w f).winder k = s.winder k := rfl
@[simp] theorem State.withMonitor_position (s : State) (w : Winder) (f : Monitor → Monitor) (k : Conveyance) : (s.withMonitor w f).position k = s.position k := rfl

/-! ## State.withPosition -/

theorem State.withPosition_positions (s : State) (c : Conveyance) (f : Position → Position) : (s.withPosition c f).positions = s.positions.set c (f (s.positions.get c)) := rfl
@[simp] theorem State.withPosition_position_self (s : State) (c : Conveyance) (f : Position → Position) : (s.withPosition c f).position c = f (s.position c) := PerConveyance.get_set_self ..
theorem State.withPosition_position_ne (s : State) (c : Conveyance) (f : Position → Position) {d : Conveyance} (h : d ≠ c) : (s.withPosition c f).position d = s.position d := PerConveyance.get_set_ne _ _ h
@[simp] theorem State.withPosition_now (s : State) (c : Conveyance) (f : Position → Position) : (s.withPosition c f).now = s.now := rfl
@[simp] theorem State.withPosition_emergencyLine (s : State) (c : Conveyance) (f : Position → Position) : (s.withPosition c f).emergencyLine = s.emergencyLine := rfl
@[simp] theorem State.withPosition_maintenanceKey (s : State) (c : Conveyance) (f : Position → Position) : (s.withPosition c f).maintenanceKey = s.maintenanceKey := rfl
@[simp] theorem State.withPosition_commissioningLine (s : State) (c : Conveyance) (f : Position → Position) : (s.withPosition c f).commissioningLine = s.commissioningLine := rfl
@[simp] theorem State.withPosition_commissioning (s : State) (c : Conveyance) (f : Position → Position) : (s.withPosition c f).commissioning = s.commissioning := rfl
@[simp] theorem State.withPosition_unconfigured (s : State) (c : Conveyance) (f : Position → Position) : (s.withPosition c f).unconfigured = s.unconfigured := rfl
@[simp] theorem State.withPosition_generation (s : State) (c : Conveyance) (f : Position → Position) : (s.withPosition c f).generation = s.generation := rfl
@[simp] theorem State.withPosition_work (s : State) (c : Conveyance) (f : Position → Position) : (s.withPosition c f).work = s.work := rfl
@[simp] theorem State.withPosition_storedCurrent (s : State) (c : Conveyance) (f : Position → Position) : (s.withPosition c f).storedCurrent = s.storedCurrent := rfl
@[simp] theorem State.withPosition_storedSpare (s : State) (c : Conveyance) (f : Position → Position) : (s.withPosition c f).storedSpare = s.storedSpare := rfl
@[simp] theorem State.withPosition_commit (s : State) (c : Conveyance) (f : Position → Position) : (s.withPosition c f).commit = s.commit := rfl
@[simp] theorem State.withPosition_recordCurrent (s : State) (c : Conveyance) (f : Position → Position) : (s.withPosition c f).recordCurrent = s.recordCurrent := rfl
@[simp] theorem State.withPosition_recordSpare (s : State) (c : Conveyance) (f : Position → Position) : (s.withPosition c f).recordSpare = s.recordSpare := rfl
@[simp] theorem State.withPosition_recordWrite (s : State) (c : Conveyance) (f : Position → Position) : (s.withPosition c f).recordWrite = s.recordWrite := rfl
@[simp] theorem State.withPosition_ports (s : State) (c : Conveyance) (f : Position → Position) : (s.withPosition c f).ports = s.ports := rfl
@[simp] theorem State.withPosition_drives (s : State) (c : Conveyance) (f : Position → Position) : (s.withPosition c f).drives = s.drives := rfl
@[simp] theorem State.withPosition_snapshot (s : State) (c : Conveyance) (f : Position → Position) : (s.withPosition c f).snapshot = s.snapshot := rfl
@[simp] theorem State.withPosition_sent (s : State) (c : Conveyance) (f : Position → Position) : (s.withPosition c f).sent = s.sent := rfl
@[simp] theorem State.withPosition_reports (s : State) (c : Conveyance) (f : Position → Position) : (s.withPosition c f).reports = s.reports := rfl
@[simp] theorem State.withPosition_drumDepth (s : State) (c : Conveyance) (f : Position → Position) : (s.withPosition c f).drumDepth = s.drumDepth := rfl
@[simp] theorem State.withPosition_metresFrom (s : State) (c : Conveyance) (f : Position → Position) : (s.withPosition c f).metresFrom = s.metresFrom := rfl
@[simp] theorem State.withPosition_lastPass (s : State) (c : Conveyance) (f : Position → Position) : (s.withPosition c f).lastPass = s.lastPass := rfl
@[simp] theorem State.withPosition_startupCheck (s : State) (c : Conveyance) (f : Position → Position) : (s.withPosition c f).startupCheck = s.startupCheck := rfl
@[simp] theorem State.withPosition_pairBeyond (s : State) (c : Conveyance) (f : Position → Position) : (s.withPosition c f).pairBeyond = s.pairBeyond := rfl
@[simp] theorem State.withPosition_zones (s : State) (c : Conveyance) (f : Position → Position) : (s.withPosition c f).zones = s.zones := rfl
@[simp] theorem State.withPosition_caps (s : State) (c : Conveyance) (f : Position → Position) : (s.withPosition c f).caps = s.caps := rfl
@[simp] theorem State.withPosition_restricted (s : State) (c : Conveyance) (f : Position → Position) : (s.withPosition c f).restricted = s.restricted := rfl
@[simp] theorem State.withPosition_queues (s : State) (c : Conveyance) (f : Position → Position) : (s.withPosition c f).queues = s.queues := rfl
@[simp] theorem State.withPosition_lastCallId (s : State) (c : Conveyance) (f : Position → Position) : (s.withPosition c f).lastCallId = s.lastCallId := rfl
@[simp] theorem State.withPosition_ended (s : State) (c : Conveyance) (f : Position → Position) : (s.withPosition c f).ended = s.ended := rfl
@[simp] theorem State.withPosition_assembly (s : State) (c : Conveyance) (f : Position → Position) : (s.withPosition c f).assembly = s.assembly := rfl
@[simp] theorem State.withPosition_bars (s : State) (c : Conveyance) (f : Position → Position) : (s.withPosition c f).bars = s.bars := rfl
@[simp] theorem State.withPosition_pipes (s : State) (c : Conveyance) (f : Position → Position) : (s.withPosition c f).pipes = s.pipes := rfl
@[simp] theorem State.withPosition_winders (s : State) (c : Conveyance) (f : Position → Position) : (s.withPosition c f).winders = s.winders := rfl
@[simp] theorem State.withPosition_skips (s : State) (c : Conveyance) (f : Position → Position) : (s.withPosition c f).skips = s.skips := rfl
@[simp] theorem State.withPosition_pairing (s : State) (c : Conveyance) (f : Position → Position) : (s.withPosition c f).pairing = s.pairing := rfl
@[simp] theorem State.withPosition_clutch (s : State) (c : Conveyance) (f : Position → Position) : (s.withPosition c f).clutch = s.clutch := rfl
@[simp] theorem State.withPosition_repair (s : State) (c : Conveyance) (f : Position → Position) : (s.withPosition c f).repair = s.repair := rfl
@[simp] theorem State.withPosition_clutchTimer (s : State) (c : Conveyance) (f : Position → Position) : (s.withPosition c f).clutchTimer = s.clutchTimer := rfl
@[simp] theorem State.withPosition_monitors (s : State) (c : Conveyance) (f : Position → Position) : (s.withPosition c f).monitors = s.monitors := rfl
@[simp] theorem State.withPosition_primary (s : State) (c : Conveyance) (f : Position → Position) : (s.withPosition c f).primary = s.primary := rfl
@[simp] theorem State.withPosition_faults (s : State) (c : Conveyance) (f : Position → Position) : (s.withPosition c f).faults = s.faults := rfl
@[simp] theorem State.withPosition_overflow (s : State) (c : Conveyance) (f : Position → Position) : (s.withPosition c f).overflow = s.overflow := rfl
@[simp] theorem State.withPosition_counters (s : State) (c : Conveyance) (f : Position → Position) : (s.withPosition c f).counters = s.counters := rfl
@[simp] theorem State.withPosition_metres (s : State) (c : Conveyance) (f : Position → Position) : (s.withPosition c f).metres = s.metres := rfl
@[simp] theorem State.withPosition_remainders (s : State) (c : Conveyance) (f : Position → Position) : (s.withPosition c f).remainders = s.remainders := rfl
@[simp] theorem State.withPosition_frameErrors (s : State) (c : Conveyance) (f : Position → Position) : (s.withPosition c f).frameErrors = s.frameErrors := rfl
@[simp] theorem State.withPosition_draws (s : State) (c : Conveyance) (f : Position → Position) : (s.withPosition c f).draws = s.draws := rfl
@[simp] theorem State.withPosition_pending (s : State) (c : Conveyance) (f : Position → Position) : (s.withPosition c f).pending = s.pending := rfl
@[simp] theorem State.withPosition_pipe (s : State) (c : Conveyance) (f : Position → Position) (k : Winder) : (s.withPosition c f).pipe k = s.pipe k := rfl
@[simp] theorem State.withPosition_winder (s : State) (c : Conveyance) (f : Position → Position) (k : Winder) : (s.withPosition c f).winder k = s.winder k := rfl
@[simp] theorem State.withPosition_monitor (s : State) (c : Conveyance) (f : Position → Position) (k : Winder) : (s.withPosition c f).monitor k = s.monitor k := rfl

/-! ## State.withQueue -/

theorem State.withQueue_queues (s : State) (w : Winder) (f : List Call → List Call) : (s.withQueue w f).queues = s.queues.set w (f (s.queues.get w)) := rfl
@[simp] theorem State.withQueue_get_self (s : State) (w : Winder) (f : List Call → List Call) : (s.withQueue w f).queues.get w = f (s.queues.get w) := PerWinder.get_set_self ..
theorem State.withQueue_get_ne (s : State) (w : Winder) (f : List Call → List Call) {v : Winder} (h : v ≠ w) : (s.withQueue w f).queues.get v = s.queues.get v := PerWinder.get_set_ne _ _ h
@[simp] theorem State.withQueue_now (s : State) (w : Winder) (f : List Call → List Call) : (s.withQueue w f).now = s.now := rfl
@[simp] theorem State.withQueue_emergencyLine (s : State) (w : Winder) (f : List Call → List Call) : (s.withQueue w f).emergencyLine = s.emergencyLine := rfl
@[simp] theorem State.withQueue_maintenanceKey (s : State) (w : Winder) (f : List Call → List Call) : (s.withQueue w f).maintenanceKey = s.maintenanceKey := rfl
@[simp] theorem State.withQueue_commissioningLine (s : State) (w : Winder) (f : List Call → List Call) : (s.withQueue w f).commissioningLine = s.commissioningLine := rfl
@[simp] theorem State.withQueue_commissioning (s : State) (w : Winder) (f : List Call → List Call) : (s.withQueue w f).commissioning = s.commissioning := rfl
@[simp] theorem State.withQueue_unconfigured (s : State) (w : Winder) (f : List Call → List Call) : (s.withQueue w f).unconfigured = s.unconfigured := rfl
@[simp] theorem State.withQueue_generation (s : State) (w : Winder) (f : List Call → List Call) : (s.withQueue w f).generation = s.generation := rfl
@[simp] theorem State.withQueue_work (s : State) (w : Winder) (f : List Call → List Call) : (s.withQueue w f).work = s.work := rfl
@[simp] theorem State.withQueue_storedCurrent (s : State) (w : Winder) (f : List Call → List Call) : (s.withQueue w f).storedCurrent = s.storedCurrent := rfl
@[simp] theorem State.withQueue_storedSpare (s : State) (w : Winder) (f : List Call → List Call) : (s.withQueue w f).storedSpare = s.storedSpare := rfl
@[simp] theorem State.withQueue_commit (s : State) (w : Winder) (f : List Call → List Call) : (s.withQueue w f).commit = s.commit := rfl
@[simp] theorem State.withQueue_recordCurrent (s : State) (w : Winder) (f : List Call → List Call) : (s.withQueue w f).recordCurrent = s.recordCurrent := rfl
@[simp] theorem State.withQueue_recordSpare (s : State) (w : Winder) (f : List Call → List Call) : (s.withQueue w f).recordSpare = s.recordSpare := rfl
@[simp] theorem State.withQueue_recordWrite (s : State) (w : Winder) (f : List Call → List Call) : (s.withQueue w f).recordWrite = s.recordWrite := rfl
@[simp] theorem State.withQueue_ports (s : State) (w : Winder) (f : List Call → List Call) : (s.withQueue w f).ports = s.ports := rfl
@[simp] theorem State.withQueue_drives (s : State) (w : Winder) (f : List Call → List Call) : (s.withQueue w f).drives = s.drives := rfl
@[simp] theorem State.withQueue_snapshot (s : State) (w : Winder) (f : List Call → List Call) : (s.withQueue w f).snapshot = s.snapshot := rfl
@[simp] theorem State.withQueue_sent (s : State) (w : Winder) (f : List Call → List Call) : (s.withQueue w f).sent = s.sent := rfl
@[simp] theorem State.withQueue_positions (s : State) (w : Winder) (f : List Call → List Call) : (s.withQueue w f).positions = s.positions := rfl
@[simp] theorem State.withQueue_reports (s : State) (w : Winder) (f : List Call → List Call) : (s.withQueue w f).reports = s.reports := rfl
@[simp] theorem State.withQueue_drumDepth (s : State) (w : Winder) (f : List Call → List Call) : (s.withQueue w f).drumDepth = s.drumDepth := rfl
@[simp] theorem State.withQueue_metresFrom (s : State) (w : Winder) (f : List Call → List Call) : (s.withQueue w f).metresFrom = s.metresFrom := rfl
@[simp] theorem State.withQueue_lastPass (s : State) (w : Winder) (f : List Call → List Call) : (s.withQueue w f).lastPass = s.lastPass := rfl
@[simp] theorem State.withQueue_startupCheck (s : State) (w : Winder) (f : List Call → List Call) : (s.withQueue w f).startupCheck = s.startupCheck := rfl
@[simp] theorem State.withQueue_pairBeyond (s : State) (w : Winder) (f : List Call → List Call) : (s.withQueue w f).pairBeyond = s.pairBeyond := rfl
@[simp] theorem State.withQueue_zones (s : State) (w : Winder) (f : List Call → List Call) : (s.withQueue w f).zones = s.zones := rfl
@[simp] theorem State.withQueue_caps (s : State) (w : Winder) (f : List Call → List Call) : (s.withQueue w f).caps = s.caps := rfl
@[simp] theorem State.withQueue_restricted (s : State) (w : Winder) (f : List Call → List Call) : (s.withQueue w f).restricted = s.restricted := rfl
@[simp] theorem State.withQueue_lastCallId (s : State) (w : Winder) (f : List Call → List Call) : (s.withQueue w f).lastCallId = s.lastCallId := rfl
@[simp] theorem State.withQueue_ended (s : State) (w : Winder) (f : List Call → List Call) : (s.withQueue w f).ended = s.ended := rfl
@[simp] theorem State.withQueue_assembly (s : State) (w : Winder) (f : List Call → List Call) : (s.withQueue w f).assembly = s.assembly := rfl
@[simp] theorem State.withQueue_bars (s : State) (w : Winder) (f : List Call → List Call) : (s.withQueue w f).bars = s.bars := rfl
@[simp] theorem State.withQueue_pipes (s : State) (w : Winder) (f : List Call → List Call) : (s.withQueue w f).pipes = s.pipes := rfl
@[simp] theorem State.withQueue_winders (s : State) (w : Winder) (f : List Call → List Call) : (s.withQueue w f).winders = s.winders := rfl
@[simp] theorem State.withQueue_skips (s : State) (w : Winder) (f : List Call → List Call) : (s.withQueue w f).skips = s.skips := rfl
@[simp] theorem State.withQueue_pairing (s : State) (w : Winder) (f : List Call → List Call) : (s.withQueue w f).pairing = s.pairing := rfl
@[simp] theorem State.withQueue_clutch (s : State) (w : Winder) (f : List Call → List Call) : (s.withQueue w f).clutch = s.clutch := rfl
@[simp] theorem State.withQueue_repair (s : State) (w : Winder) (f : List Call → List Call) : (s.withQueue w f).repair = s.repair := rfl
@[simp] theorem State.withQueue_clutchTimer (s : State) (w : Winder) (f : List Call → List Call) : (s.withQueue w f).clutchTimer = s.clutchTimer := rfl
@[simp] theorem State.withQueue_monitors (s : State) (w : Winder) (f : List Call → List Call) : (s.withQueue w f).monitors = s.monitors := rfl
@[simp] theorem State.withQueue_primary (s : State) (w : Winder) (f : List Call → List Call) : (s.withQueue w f).primary = s.primary := rfl
@[simp] theorem State.withQueue_faults (s : State) (w : Winder) (f : List Call → List Call) : (s.withQueue w f).faults = s.faults := rfl
@[simp] theorem State.withQueue_overflow (s : State) (w : Winder) (f : List Call → List Call) : (s.withQueue w f).overflow = s.overflow := rfl
@[simp] theorem State.withQueue_counters (s : State) (w : Winder) (f : List Call → List Call) : (s.withQueue w f).counters = s.counters := rfl
@[simp] theorem State.withQueue_metres (s : State) (w : Winder) (f : List Call → List Call) : (s.withQueue w f).metres = s.metres := rfl
@[simp] theorem State.withQueue_remainders (s : State) (w : Winder) (f : List Call → List Call) : (s.withQueue w f).remainders = s.remainders := rfl
@[simp] theorem State.withQueue_frameErrors (s : State) (w : Winder) (f : List Call → List Call) : (s.withQueue w f).frameErrors = s.frameErrors := rfl
@[simp] theorem State.withQueue_draws (s : State) (w : Winder) (f : List Call → List Call) : (s.withQueue w f).draws = s.draws := rfl
@[simp] theorem State.withQueue_pending (s : State) (w : Winder) (f : List Call → List Call) : (s.withQueue w f).pending = s.pending := rfl
@[simp] theorem State.withQueue_pipe (s : State) (w : Winder) (f : List Call → List Call) (k : Winder) : (s.withQueue w f).pipe k = s.pipe k := rfl
@[simp] theorem State.withQueue_winder (s : State) (w : Winder) (f : List Call → List Call) (k : Winder) : (s.withQueue w f).winder k = s.winder k := rfl
@[simp] theorem State.withQueue_monitor (s : State) (w : Winder) (f : List Call → List Call) (k : Winder) : (s.withQueue w f).monitor k = s.monitor k := rfl
@[simp] theorem State.withQueue_position (s : State) (w : Winder) (f : List Call → List Call) (k : Conveyance) : (s.withQueue w f).position k = s.position k := rfl

/-! ## State.withDrive -/

theorem State.withDrive_drives (s : State) (w : Winder) (f : DriveLink → DriveLink) : (s.withDrive w f).drives = s.drives.set w (f (s.drives.get w)) := rfl
@[simp] theorem State.withDrive_get_self (s : State) (w : Winder) (f : DriveLink → DriveLink) : (s.withDrive w f).drives.get w = f (s.drives.get w) := PerWinder.get_set_self ..
theorem State.withDrive_get_ne (s : State) (w : Winder) (f : DriveLink → DriveLink) {v : Winder} (h : v ≠ w) : (s.withDrive w f).drives.get v = s.drives.get v := PerWinder.get_set_ne _ _ h
@[simp] theorem State.withDrive_now (s : State) (w : Winder) (f : DriveLink → DriveLink) : (s.withDrive w f).now = s.now := rfl
@[simp] theorem State.withDrive_emergencyLine (s : State) (w : Winder) (f : DriveLink → DriveLink) : (s.withDrive w f).emergencyLine = s.emergencyLine := rfl
@[simp] theorem State.withDrive_maintenanceKey (s : State) (w : Winder) (f : DriveLink → DriveLink) : (s.withDrive w f).maintenanceKey = s.maintenanceKey := rfl
@[simp] theorem State.withDrive_commissioningLine (s : State) (w : Winder) (f : DriveLink → DriveLink) : (s.withDrive w f).commissioningLine = s.commissioningLine := rfl
@[simp] theorem State.withDrive_commissioning (s : State) (w : Winder) (f : DriveLink → DriveLink) : (s.withDrive w f).commissioning = s.commissioning := rfl
@[simp] theorem State.withDrive_unconfigured (s : State) (w : Winder) (f : DriveLink → DriveLink) : (s.withDrive w f).unconfigured = s.unconfigured := rfl
@[simp] theorem State.withDrive_generation (s : State) (w : Winder) (f : DriveLink → DriveLink) : (s.withDrive w f).generation = s.generation := rfl
@[simp] theorem State.withDrive_work (s : State) (w : Winder) (f : DriveLink → DriveLink) : (s.withDrive w f).work = s.work := rfl
@[simp] theorem State.withDrive_storedCurrent (s : State) (w : Winder) (f : DriveLink → DriveLink) : (s.withDrive w f).storedCurrent = s.storedCurrent := rfl
@[simp] theorem State.withDrive_storedSpare (s : State) (w : Winder) (f : DriveLink → DriveLink) : (s.withDrive w f).storedSpare = s.storedSpare := rfl
@[simp] theorem State.withDrive_commit (s : State) (w : Winder) (f : DriveLink → DriveLink) : (s.withDrive w f).commit = s.commit := rfl
@[simp] theorem State.withDrive_recordCurrent (s : State) (w : Winder) (f : DriveLink → DriveLink) : (s.withDrive w f).recordCurrent = s.recordCurrent := rfl
@[simp] theorem State.withDrive_recordSpare (s : State) (w : Winder) (f : DriveLink → DriveLink) : (s.withDrive w f).recordSpare = s.recordSpare := rfl
@[simp] theorem State.withDrive_recordWrite (s : State) (w : Winder) (f : DriveLink → DriveLink) : (s.withDrive w f).recordWrite = s.recordWrite := rfl
@[simp] theorem State.withDrive_ports (s : State) (w : Winder) (f : DriveLink → DriveLink) : (s.withDrive w f).ports = s.ports := rfl
@[simp] theorem State.withDrive_snapshot (s : State) (w : Winder) (f : DriveLink → DriveLink) : (s.withDrive w f).snapshot = s.snapshot := rfl
@[simp] theorem State.withDrive_sent (s : State) (w : Winder) (f : DriveLink → DriveLink) : (s.withDrive w f).sent = s.sent := rfl
@[simp] theorem State.withDrive_positions (s : State) (w : Winder) (f : DriveLink → DriveLink) : (s.withDrive w f).positions = s.positions := rfl
@[simp] theorem State.withDrive_reports (s : State) (w : Winder) (f : DriveLink → DriveLink) : (s.withDrive w f).reports = s.reports := rfl
@[simp] theorem State.withDrive_drumDepth (s : State) (w : Winder) (f : DriveLink → DriveLink) : (s.withDrive w f).drumDepth = s.drumDepth := rfl
@[simp] theorem State.withDrive_metresFrom (s : State) (w : Winder) (f : DriveLink → DriveLink) : (s.withDrive w f).metresFrom = s.metresFrom := rfl
@[simp] theorem State.withDrive_lastPass (s : State) (w : Winder) (f : DriveLink → DriveLink) : (s.withDrive w f).lastPass = s.lastPass := rfl
@[simp] theorem State.withDrive_startupCheck (s : State) (w : Winder) (f : DriveLink → DriveLink) : (s.withDrive w f).startupCheck = s.startupCheck := rfl
@[simp] theorem State.withDrive_pairBeyond (s : State) (w : Winder) (f : DriveLink → DriveLink) : (s.withDrive w f).pairBeyond = s.pairBeyond := rfl
@[simp] theorem State.withDrive_zones (s : State) (w : Winder) (f : DriveLink → DriveLink) : (s.withDrive w f).zones = s.zones := rfl
@[simp] theorem State.withDrive_caps (s : State) (w : Winder) (f : DriveLink → DriveLink) : (s.withDrive w f).caps = s.caps := rfl
@[simp] theorem State.withDrive_restricted (s : State) (w : Winder) (f : DriveLink → DriveLink) : (s.withDrive w f).restricted = s.restricted := rfl
@[simp] theorem State.withDrive_queues (s : State) (w : Winder) (f : DriveLink → DriveLink) : (s.withDrive w f).queues = s.queues := rfl
@[simp] theorem State.withDrive_lastCallId (s : State) (w : Winder) (f : DriveLink → DriveLink) : (s.withDrive w f).lastCallId = s.lastCallId := rfl
@[simp] theorem State.withDrive_ended (s : State) (w : Winder) (f : DriveLink → DriveLink) : (s.withDrive w f).ended = s.ended := rfl
@[simp] theorem State.withDrive_assembly (s : State) (w : Winder) (f : DriveLink → DriveLink) : (s.withDrive w f).assembly = s.assembly := rfl
@[simp] theorem State.withDrive_bars (s : State) (w : Winder) (f : DriveLink → DriveLink) : (s.withDrive w f).bars = s.bars := rfl
@[simp] theorem State.withDrive_pipes (s : State) (w : Winder) (f : DriveLink → DriveLink) : (s.withDrive w f).pipes = s.pipes := rfl
@[simp] theorem State.withDrive_winders (s : State) (w : Winder) (f : DriveLink → DriveLink) : (s.withDrive w f).winders = s.winders := rfl
@[simp] theorem State.withDrive_skips (s : State) (w : Winder) (f : DriveLink → DriveLink) : (s.withDrive w f).skips = s.skips := rfl
@[simp] theorem State.withDrive_pairing (s : State) (w : Winder) (f : DriveLink → DriveLink) : (s.withDrive w f).pairing = s.pairing := rfl
@[simp] theorem State.withDrive_clutch (s : State) (w : Winder) (f : DriveLink → DriveLink) : (s.withDrive w f).clutch = s.clutch := rfl
@[simp] theorem State.withDrive_repair (s : State) (w : Winder) (f : DriveLink → DriveLink) : (s.withDrive w f).repair = s.repair := rfl
@[simp] theorem State.withDrive_clutchTimer (s : State) (w : Winder) (f : DriveLink → DriveLink) : (s.withDrive w f).clutchTimer = s.clutchTimer := rfl
@[simp] theorem State.withDrive_monitors (s : State) (w : Winder) (f : DriveLink → DriveLink) : (s.withDrive w f).monitors = s.monitors := rfl
@[simp] theorem State.withDrive_primary (s : State) (w : Winder) (f : DriveLink → DriveLink) : (s.withDrive w f).primary = s.primary := rfl
@[simp] theorem State.withDrive_faults (s : State) (w : Winder) (f : DriveLink → DriveLink) : (s.withDrive w f).faults = s.faults := rfl
@[simp] theorem State.withDrive_overflow (s : State) (w : Winder) (f : DriveLink → DriveLink) : (s.withDrive w f).overflow = s.overflow := rfl
@[simp] theorem State.withDrive_counters (s : State) (w : Winder) (f : DriveLink → DriveLink) : (s.withDrive w f).counters = s.counters := rfl
@[simp] theorem State.withDrive_metres (s : State) (w : Winder) (f : DriveLink → DriveLink) : (s.withDrive w f).metres = s.metres := rfl
@[simp] theorem State.withDrive_remainders (s : State) (w : Winder) (f : DriveLink → DriveLink) : (s.withDrive w f).remainders = s.remainders := rfl
@[simp] theorem State.withDrive_frameErrors (s : State) (w : Winder) (f : DriveLink → DriveLink) : (s.withDrive w f).frameErrors = s.frameErrors := rfl
@[simp] theorem State.withDrive_draws (s : State) (w : Winder) (f : DriveLink → DriveLink) : (s.withDrive w f).draws = s.draws := rfl
@[simp] theorem State.withDrive_pending (s : State) (w : Winder) (f : DriveLink → DriveLink) : (s.withDrive w f).pending = s.pending := rfl
@[simp] theorem State.withDrive_pipe (s : State) (w : Winder) (f : DriveLink → DriveLink) (k : Winder) : (s.withDrive w f).pipe k = s.pipe k := rfl
@[simp] theorem State.withDrive_winder (s : State) (w : Winder) (f : DriveLink → DriveLink) (k : Winder) : (s.withDrive w f).winder k = s.winder k := rfl
@[simp] theorem State.withDrive_monitor (s : State) (w : Winder) (f : DriveLink → DriveLink) (k : Winder) : (s.withDrive w f).monitor k = s.monitor k := rfl
@[simp] theorem State.withDrive_position (s : State) (w : Winder) (f : DriveLink → DriveLink) (k : Conveyance) : (s.withDrive w f).position k = s.position k := rfl

/-! ## State.withCounters -/

theorem State.withCounters_counters (s : State) (w : Winder) (f : Counters → Counters) : (s.withCounters w f).counters = s.counters.set w (f (s.counters.get w)) := rfl
@[simp] theorem State.withCounters_get_self (s : State) (w : Winder) (f : Counters → Counters) : (s.withCounters w f).counters.get w = f (s.counters.get w) := PerWinder.get_set_self ..
theorem State.withCounters_get_ne (s : State) (w : Winder) (f : Counters → Counters) {v : Winder} (h : v ≠ w) : (s.withCounters w f).counters.get v = s.counters.get v := PerWinder.get_set_ne _ _ h
@[simp] theorem State.withCounters_now (s : State) (w : Winder) (f : Counters → Counters) : (s.withCounters w f).now = s.now := rfl
@[simp] theorem State.withCounters_emergencyLine (s : State) (w : Winder) (f : Counters → Counters) : (s.withCounters w f).emergencyLine = s.emergencyLine := rfl
@[simp] theorem State.withCounters_maintenanceKey (s : State) (w : Winder) (f : Counters → Counters) : (s.withCounters w f).maintenanceKey = s.maintenanceKey := rfl
@[simp] theorem State.withCounters_commissioningLine (s : State) (w : Winder) (f : Counters → Counters) : (s.withCounters w f).commissioningLine = s.commissioningLine := rfl
@[simp] theorem State.withCounters_commissioning (s : State) (w : Winder) (f : Counters → Counters) : (s.withCounters w f).commissioning = s.commissioning := rfl
@[simp] theorem State.withCounters_unconfigured (s : State) (w : Winder) (f : Counters → Counters) : (s.withCounters w f).unconfigured = s.unconfigured := rfl
@[simp] theorem State.withCounters_generation (s : State) (w : Winder) (f : Counters → Counters) : (s.withCounters w f).generation = s.generation := rfl
@[simp] theorem State.withCounters_work (s : State) (w : Winder) (f : Counters → Counters) : (s.withCounters w f).work = s.work := rfl
@[simp] theorem State.withCounters_storedCurrent (s : State) (w : Winder) (f : Counters → Counters) : (s.withCounters w f).storedCurrent = s.storedCurrent := rfl
@[simp] theorem State.withCounters_storedSpare (s : State) (w : Winder) (f : Counters → Counters) : (s.withCounters w f).storedSpare = s.storedSpare := rfl
@[simp] theorem State.withCounters_commit (s : State) (w : Winder) (f : Counters → Counters) : (s.withCounters w f).commit = s.commit := rfl
@[simp] theorem State.withCounters_recordCurrent (s : State) (w : Winder) (f : Counters → Counters) : (s.withCounters w f).recordCurrent = s.recordCurrent := rfl
@[simp] theorem State.withCounters_recordSpare (s : State) (w : Winder) (f : Counters → Counters) : (s.withCounters w f).recordSpare = s.recordSpare := rfl
@[simp] theorem State.withCounters_recordWrite (s : State) (w : Winder) (f : Counters → Counters) : (s.withCounters w f).recordWrite = s.recordWrite := rfl
@[simp] theorem State.withCounters_ports (s : State) (w : Winder) (f : Counters → Counters) : (s.withCounters w f).ports = s.ports := rfl
@[simp] theorem State.withCounters_drives (s : State) (w : Winder) (f : Counters → Counters) : (s.withCounters w f).drives = s.drives := rfl
@[simp] theorem State.withCounters_snapshot (s : State) (w : Winder) (f : Counters → Counters) : (s.withCounters w f).snapshot = s.snapshot := rfl
@[simp] theorem State.withCounters_sent (s : State) (w : Winder) (f : Counters → Counters) : (s.withCounters w f).sent = s.sent := rfl
@[simp] theorem State.withCounters_positions (s : State) (w : Winder) (f : Counters → Counters) : (s.withCounters w f).positions = s.positions := rfl
@[simp] theorem State.withCounters_reports (s : State) (w : Winder) (f : Counters → Counters) : (s.withCounters w f).reports = s.reports := rfl
@[simp] theorem State.withCounters_drumDepth (s : State) (w : Winder) (f : Counters → Counters) : (s.withCounters w f).drumDepth = s.drumDepth := rfl
@[simp] theorem State.withCounters_metresFrom (s : State) (w : Winder) (f : Counters → Counters) : (s.withCounters w f).metresFrom = s.metresFrom := rfl
@[simp] theorem State.withCounters_lastPass (s : State) (w : Winder) (f : Counters → Counters) : (s.withCounters w f).lastPass = s.lastPass := rfl
@[simp] theorem State.withCounters_startupCheck (s : State) (w : Winder) (f : Counters → Counters) : (s.withCounters w f).startupCheck = s.startupCheck := rfl
@[simp] theorem State.withCounters_pairBeyond (s : State) (w : Winder) (f : Counters → Counters) : (s.withCounters w f).pairBeyond = s.pairBeyond := rfl
@[simp] theorem State.withCounters_zones (s : State) (w : Winder) (f : Counters → Counters) : (s.withCounters w f).zones = s.zones := rfl
@[simp] theorem State.withCounters_caps (s : State) (w : Winder) (f : Counters → Counters) : (s.withCounters w f).caps = s.caps := rfl
@[simp] theorem State.withCounters_restricted (s : State) (w : Winder) (f : Counters → Counters) : (s.withCounters w f).restricted = s.restricted := rfl
@[simp] theorem State.withCounters_queues (s : State) (w : Winder) (f : Counters → Counters) : (s.withCounters w f).queues = s.queues := rfl
@[simp] theorem State.withCounters_lastCallId (s : State) (w : Winder) (f : Counters → Counters) : (s.withCounters w f).lastCallId = s.lastCallId := rfl
@[simp] theorem State.withCounters_ended (s : State) (w : Winder) (f : Counters → Counters) : (s.withCounters w f).ended = s.ended := rfl
@[simp] theorem State.withCounters_assembly (s : State) (w : Winder) (f : Counters → Counters) : (s.withCounters w f).assembly = s.assembly := rfl
@[simp] theorem State.withCounters_bars (s : State) (w : Winder) (f : Counters → Counters) : (s.withCounters w f).bars = s.bars := rfl
@[simp] theorem State.withCounters_pipes (s : State) (w : Winder) (f : Counters → Counters) : (s.withCounters w f).pipes = s.pipes := rfl
@[simp] theorem State.withCounters_winders (s : State) (w : Winder) (f : Counters → Counters) : (s.withCounters w f).winders = s.winders := rfl
@[simp] theorem State.withCounters_skips (s : State) (w : Winder) (f : Counters → Counters) : (s.withCounters w f).skips = s.skips := rfl
@[simp] theorem State.withCounters_pairing (s : State) (w : Winder) (f : Counters → Counters) : (s.withCounters w f).pairing = s.pairing := rfl
@[simp] theorem State.withCounters_clutch (s : State) (w : Winder) (f : Counters → Counters) : (s.withCounters w f).clutch = s.clutch := rfl
@[simp] theorem State.withCounters_repair (s : State) (w : Winder) (f : Counters → Counters) : (s.withCounters w f).repair = s.repair := rfl
@[simp] theorem State.withCounters_clutchTimer (s : State) (w : Winder) (f : Counters → Counters) : (s.withCounters w f).clutchTimer = s.clutchTimer := rfl
@[simp] theorem State.withCounters_monitors (s : State) (w : Winder) (f : Counters → Counters) : (s.withCounters w f).monitors = s.monitors := rfl
@[simp] theorem State.withCounters_primary (s : State) (w : Winder) (f : Counters → Counters) : (s.withCounters w f).primary = s.primary := rfl
@[simp] theorem State.withCounters_faults (s : State) (w : Winder) (f : Counters → Counters) : (s.withCounters w f).faults = s.faults := rfl
@[simp] theorem State.withCounters_overflow (s : State) (w : Winder) (f : Counters → Counters) : (s.withCounters w f).overflow = s.overflow := rfl
@[simp] theorem State.withCounters_metres (s : State) (w : Winder) (f : Counters → Counters) : (s.withCounters w f).metres = s.metres := rfl
@[simp] theorem State.withCounters_remainders (s : State) (w : Winder) (f : Counters → Counters) : (s.withCounters w f).remainders = s.remainders := rfl
@[simp] theorem State.withCounters_frameErrors (s : State) (w : Winder) (f : Counters → Counters) : (s.withCounters w f).frameErrors = s.frameErrors := rfl
@[simp] theorem State.withCounters_draws (s : State) (w : Winder) (f : Counters → Counters) : (s.withCounters w f).draws = s.draws := rfl
@[simp] theorem State.withCounters_pending (s : State) (w : Winder) (f : Counters → Counters) : (s.withCounters w f).pending = s.pending := rfl
@[simp] theorem State.withCounters_pipe (s : State) (w : Winder) (f : Counters → Counters) (k : Winder) : (s.withCounters w f).pipe k = s.pipe k := rfl
@[simp] theorem State.withCounters_winder (s : State) (w : Winder) (f : Counters → Counters) (k : Winder) : (s.withCounters w f).winder k = s.winder k := rfl
@[simp] theorem State.withCounters_monitor (s : State) (w : Winder) (f : Counters → Counters) (k : Winder) : (s.withCounters w f).monitor k = s.monitor k := rfl
@[simp] theorem State.withCounters_position (s : State) (w : Winder) (f : Counters → Counters) (k : Conveyance) : (s.withCounters w f).position k = s.position k := rfl

/-! ## State.begin -/

@[simp] theorem State.begin_sent (s : State) : (s.begin).sent = [] := rfl
@[simp] theorem State.begin_now (s : State) : (s.begin).now = s.now := rfl
@[simp] theorem State.begin_emergencyLine (s : State) : (s.begin).emergencyLine = s.emergencyLine := rfl
@[simp] theorem State.begin_maintenanceKey (s : State) : (s.begin).maintenanceKey = s.maintenanceKey := rfl
@[simp] theorem State.begin_commissioningLine (s : State) : (s.begin).commissioningLine = s.commissioningLine := rfl
@[simp] theorem State.begin_commissioning (s : State) : (s.begin).commissioning = s.commissioning := rfl
@[simp] theorem State.begin_unconfigured (s : State) : (s.begin).unconfigured = s.unconfigured := rfl
@[simp] theorem State.begin_generation (s : State) : (s.begin).generation = s.generation := rfl
@[simp] theorem State.begin_work (s : State) : (s.begin).work = s.work := rfl
@[simp] theorem State.begin_storedCurrent (s : State) : (s.begin).storedCurrent = s.storedCurrent := rfl
@[simp] theorem State.begin_storedSpare (s : State) : (s.begin).storedSpare = s.storedSpare := rfl
@[simp] theorem State.begin_commit (s : State) : (s.begin).commit = s.commit := rfl
@[simp] theorem State.begin_recordCurrent (s : State) : (s.begin).recordCurrent = s.recordCurrent := rfl
@[simp] theorem State.begin_recordSpare (s : State) : (s.begin).recordSpare = s.recordSpare := rfl
@[simp] theorem State.begin_recordWrite (s : State) : (s.begin).recordWrite = s.recordWrite := rfl
@[simp] theorem State.begin_ports (s : State) : (s.begin).ports = s.ports := rfl
@[simp] theorem State.begin_drives (s : State) : (s.begin).drives = s.drives := rfl
@[simp] theorem State.begin_snapshot (s : State) : (s.begin).snapshot = s.snapshot := rfl
@[simp] theorem State.begin_positions (s : State) : (s.begin).positions = s.positions := rfl
@[simp] theorem State.begin_reports (s : State) : (s.begin).reports = s.reports := rfl
@[simp] theorem State.begin_drumDepth (s : State) : (s.begin).drumDepth = s.drumDepth := rfl
@[simp] theorem State.begin_metresFrom (s : State) : (s.begin).metresFrom = s.metresFrom := rfl
@[simp] theorem State.begin_lastPass (s : State) : (s.begin).lastPass = s.lastPass := rfl
@[simp] theorem State.begin_startupCheck (s : State) : (s.begin).startupCheck = s.startupCheck := rfl
@[simp] theorem State.begin_pairBeyond (s : State) : (s.begin).pairBeyond = s.pairBeyond := rfl
@[simp] theorem State.begin_zones (s : State) : (s.begin).zones = s.zones := rfl
@[simp] theorem State.begin_caps (s : State) : (s.begin).caps = s.caps := rfl
@[simp] theorem State.begin_restricted (s : State) : (s.begin).restricted = s.restricted := rfl
@[simp] theorem State.begin_queues (s : State) : (s.begin).queues = s.queues := rfl
@[simp] theorem State.begin_lastCallId (s : State) : (s.begin).lastCallId = s.lastCallId := rfl
@[simp] theorem State.begin_ended (s : State) : (s.begin).ended = s.ended := rfl
@[simp] theorem State.begin_assembly (s : State) : (s.begin).assembly = s.assembly := rfl
@[simp] theorem State.begin_bars (s : State) : (s.begin).bars = s.bars := rfl
@[simp] theorem State.begin_pipes (s : State) : (s.begin).pipes = s.pipes := rfl
@[simp] theorem State.begin_winders (s : State) : (s.begin).winders = s.winders := rfl
@[simp] theorem State.begin_skips (s : State) : (s.begin).skips = s.skips := rfl
@[simp] theorem State.begin_pairing (s : State) : (s.begin).pairing = s.pairing := rfl
@[simp] theorem State.begin_clutch (s : State) : (s.begin).clutch = s.clutch := rfl
@[simp] theorem State.begin_repair (s : State) : (s.begin).repair = s.repair := rfl
@[simp] theorem State.begin_clutchTimer (s : State) : (s.begin).clutchTimer = s.clutchTimer := rfl
@[simp] theorem State.begin_monitors (s : State) : (s.begin).monitors = s.monitors := rfl
@[simp] theorem State.begin_primary (s : State) : (s.begin).primary = s.primary := rfl
@[simp] theorem State.begin_faults (s : State) : (s.begin).faults = s.faults := rfl
@[simp] theorem State.begin_overflow (s : State) : (s.begin).overflow = s.overflow := rfl
@[simp] theorem State.begin_counters (s : State) : (s.begin).counters = s.counters := rfl
@[simp] theorem State.begin_metres (s : State) : (s.begin).metres = s.metres := rfl
@[simp] theorem State.begin_remainders (s : State) : (s.begin).remainders = s.remainders := rfl
@[simp] theorem State.begin_frameErrors (s : State) : (s.begin).frameErrors = s.frameErrors := rfl
@[simp] theorem State.begin_draws (s : State) : (s.begin).draws = s.draws := rfl
@[simp] theorem State.begin_pending (s : State) : (s.begin).pending = s.pending := rfl
@[simp] theorem State.begin_pipe (s : State) (k : Winder) : (s.begin).pipe k = s.pipe k := rfl
@[simp] theorem State.begin_winder (s : State) (k : Winder) : (s.begin).winder k = s.winder k := rfl
@[simp] theorem State.begin_monitor (s : State) (k : Winder) : (s.begin).monitor k = s.monitor k := rfl
@[simp] theorem State.begin_position (s : State) (k : Conveyance) : (s.begin).position k = s.position k := rfl

/-! ## State.emit -/

@[simp] theorem State.emit_sent (s : State) (m : Sent) : (s.emit m).sent = s.sent ++ [m] := rfl
@[simp] theorem State.emit_now (s : State) (m : Sent) : (s.emit m).now = s.now := rfl
@[simp] theorem State.emit_emergencyLine (s : State) (m : Sent) : (s.emit m).emergencyLine = s.emergencyLine := rfl
@[simp] theorem State.emit_maintenanceKey (s : State) (m : Sent) : (s.emit m).maintenanceKey = s.maintenanceKey := rfl
@[simp] theorem State.emit_commissioningLine (s : State) (m : Sent) : (s.emit m).commissioningLine = s.commissioningLine := rfl
@[simp] theorem State.emit_commissioning (s : State) (m : Sent) : (s.emit m).commissioning = s.commissioning := rfl
@[simp] theorem State.emit_unconfigured (s : State) (m : Sent) : (s.emit m).unconfigured = s.unconfigured := rfl
@[simp] theorem State.emit_generation (s : State) (m : Sent) : (s.emit m).generation = s.generation := rfl
@[simp] theorem State.emit_work (s : State) (m : Sent) : (s.emit m).work = s.work := rfl
@[simp] theorem State.emit_storedCurrent (s : State) (m : Sent) : (s.emit m).storedCurrent = s.storedCurrent := rfl
@[simp] theorem State.emit_storedSpare (s : State) (m : Sent) : (s.emit m).storedSpare = s.storedSpare := rfl
@[simp] theorem State.emit_commit (s : State) (m : Sent) : (s.emit m).commit = s.commit := rfl
@[simp] theorem State.emit_recordCurrent (s : State) (m : Sent) : (s.emit m).recordCurrent = s.recordCurrent := rfl
@[simp] theorem State.emit_recordSpare (s : State) (m : Sent) : (s.emit m).recordSpare = s.recordSpare := rfl
@[simp] theorem State.emit_recordWrite (s : State) (m : Sent) : (s.emit m).recordWrite = s.recordWrite := rfl
@[simp] theorem State.emit_ports (s : State) (m : Sent) : (s.emit m).ports = s.ports := rfl
@[simp] theorem State.emit_drives (s : State) (m : Sent) : (s.emit m).drives = s.drives := rfl
@[simp] theorem State.emit_snapshot (s : State) (m : Sent) : (s.emit m).snapshot = s.snapshot := rfl
@[simp] theorem State.emit_positions (s : State) (m : Sent) : (s.emit m).positions = s.positions := rfl
@[simp] theorem State.emit_reports (s : State) (m : Sent) : (s.emit m).reports = s.reports := rfl
@[simp] theorem State.emit_drumDepth (s : State) (m : Sent) : (s.emit m).drumDepth = s.drumDepth := rfl
@[simp] theorem State.emit_metresFrom (s : State) (m : Sent) : (s.emit m).metresFrom = s.metresFrom := rfl
@[simp] theorem State.emit_lastPass (s : State) (m : Sent) : (s.emit m).lastPass = s.lastPass := rfl
@[simp] theorem State.emit_startupCheck (s : State) (m : Sent) : (s.emit m).startupCheck = s.startupCheck := rfl
@[simp] theorem State.emit_pairBeyond (s : State) (m : Sent) : (s.emit m).pairBeyond = s.pairBeyond := rfl
@[simp] theorem State.emit_zones (s : State) (m : Sent) : (s.emit m).zones = s.zones := rfl
@[simp] theorem State.emit_caps (s : State) (m : Sent) : (s.emit m).caps = s.caps := rfl
@[simp] theorem State.emit_restricted (s : State) (m : Sent) : (s.emit m).restricted = s.restricted := rfl
@[simp] theorem State.emit_queues (s : State) (m : Sent) : (s.emit m).queues = s.queues := rfl
@[simp] theorem State.emit_lastCallId (s : State) (m : Sent) : (s.emit m).lastCallId = s.lastCallId := rfl
@[simp] theorem State.emit_ended (s : State) (m : Sent) : (s.emit m).ended = s.ended := rfl
@[simp] theorem State.emit_assembly (s : State) (m : Sent) : (s.emit m).assembly = s.assembly := rfl
@[simp] theorem State.emit_bars (s : State) (m : Sent) : (s.emit m).bars = s.bars := rfl
@[simp] theorem State.emit_pipes (s : State) (m : Sent) : (s.emit m).pipes = s.pipes := rfl
@[simp] theorem State.emit_winders (s : State) (m : Sent) : (s.emit m).winders = s.winders := rfl
@[simp] theorem State.emit_skips (s : State) (m : Sent) : (s.emit m).skips = s.skips := rfl
@[simp] theorem State.emit_pairing (s : State) (m : Sent) : (s.emit m).pairing = s.pairing := rfl
@[simp] theorem State.emit_clutch (s : State) (m : Sent) : (s.emit m).clutch = s.clutch := rfl
@[simp] theorem State.emit_repair (s : State) (m : Sent) : (s.emit m).repair = s.repair := rfl
@[simp] theorem State.emit_clutchTimer (s : State) (m : Sent) : (s.emit m).clutchTimer = s.clutchTimer := rfl
@[simp] theorem State.emit_monitors (s : State) (m : Sent) : (s.emit m).monitors = s.monitors := rfl
@[simp] theorem State.emit_primary (s : State) (m : Sent) : (s.emit m).primary = s.primary := rfl
@[simp] theorem State.emit_faults (s : State) (m : Sent) : (s.emit m).faults = s.faults := rfl
@[simp] theorem State.emit_overflow (s : State) (m : Sent) : (s.emit m).overflow = s.overflow := rfl
@[simp] theorem State.emit_counters (s : State) (m : Sent) : (s.emit m).counters = s.counters := rfl
@[simp] theorem State.emit_metres (s : State) (m : Sent) : (s.emit m).metres = s.metres := rfl
@[simp] theorem State.emit_remainders (s : State) (m : Sent) : (s.emit m).remainders = s.remainders := rfl
@[simp] theorem State.emit_frameErrors (s : State) (m : Sent) : (s.emit m).frameErrors = s.frameErrors := rfl
@[simp] theorem State.emit_draws (s : State) (m : Sent) : (s.emit m).draws = s.draws := rfl
@[simp] theorem State.emit_pending (s : State) (m : Sent) : (s.emit m).pending = s.pending := rfl
@[simp] theorem State.emit_pipe (s : State) (m : Sent) (k : Winder) : (s.emit m).pipe k = s.pipe k := rfl
@[simp] theorem State.emit_winder (s : State) (m : Sent) (k : Winder) : (s.emit m).winder k = s.winder k := rfl
@[simp] theorem State.emit_monitor (s : State) (m : Sent) (k : Winder) : (s.emit m).monitor k = s.monitor k := rfl
@[simp] theorem State.emit_position (s : State) (m : Sent) (k : Conveyance) : (s.emit m).position k = s.position k := rfl

end Sys2Proof.Machine
end

