-- ==== Sys2Proof/Laws/Frame.lean ====
section
/-! SUPPORT. What no operation inside an event touches: one relation, and one lemma for each shared operation that says the operation keeps it. -/

namespace Sys2Proof.Machine

/-- Everything that the operations inside an event leave alone: all but the drives, the frames sent, the position records,
the caps, the queues and their endings, the pipelines, the winders, the skips, the pairing, the re-pair, the monitors,
the Fault Recorder, the winder counters and the free values used. -/
structure State.Keeps (s t : State) : Prop where
  now : t.now = s.now
  emergencyLine : t.emergencyLine = s.emergencyLine
  maintenanceKey : t.maintenanceKey = s.maintenanceKey
  commissioningLine : t.commissioningLine = s.commissioningLine
  commissioning : t.commissioning = s.commissioning
  unconfigured : t.unconfigured = s.unconfigured
  generation : t.generation = s.generation
  work : t.work = s.work
  storedCurrent : t.storedCurrent = s.storedCurrent
  storedSpare : t.storedSpare = s.storedSpare
  commit : t.commit = s.commit
  recordCurrent : t.recordCurrent = s.recordCurrent
  recordSpare : t.recordSpare = s.recordSpare
  recordWrite : t.recordWrite = s.recordWrite
  ports : t.ports = s.ports
  snapshot : t.snapshot = s.snapshot
  reports : t.reports = s.reports
  drumDepth : t.drumDepth = s.drumDepth
  metresFrom : t.metresFrom = s.metresFrom
  lastPass : t.lastPass = s.lastPass
  startupCheck : t.startupCheck = s.startupCheck
  zones : t.zones = s.zones
  lastCallId : t.lastCallId = s.lastCallId
  assembly : t.assembly = s.assembly
  bars : t.bars = s.bars
  clutch : t.clutch = s.clutch
  metres : t.metres = s.metres
  remainders : t.remainders = s.remainders
  frameErrors : t.frameErrors = s.frameErrors
  pending : t.pending = s.pending

/-- Nothing done keeps everything. -/
theorem State.Keeps.refl (s : State) : s.Keeps s := by constructor <;> rfl

/-- One operation after another. -/
theorem State.Keeps.trans {s t u : State} (h : s.Keeps t) (k : t.Keeps u) : s.Keeps u where
  now := k.now.trans h.now
  emergencyLine := k.emergencyLine.trans h.emergencyLine
  maintenanceKey := k.maintenanceKey.trans h.maintenanceKey
  commissioningLine := k.commissioningLine.trans h.commissioningLine
  commissioning := k.commissioning.trans h.commissioning
  unconfigured := k.unconfigured.trans h.unconfigured
  generation := k.generation.trans h.generation
  work := k.work.trans h.work
  storedCurrent := k.storedCurrent.trans h.storedCurrent
  storedSpare := k.storedSpare.trans h.storedSpare
  commit := k.commit.trans h.commit
  recordCurrent := k.recordCurrent.trans h.recordCurrent
  recordSpare := k.recordSpare.trans h.recordSpare
  recordWrite := k.recordWrite.trans h.recordWrite
  ports := k.ports.trans h.ports
  snapshot := k.snapshot.trans h.snapshot
  reports := k.reports.trans h.reports
  drumDepth := k.drumDepth.trans h.drumDepth
  metresFrom := k.metresFrom.trans h.metresFrom
  lastPass := k.lastPass.trans h.lastPass
  startupCheck := k.startupCheck.trans h.startupCheck
  zones := k.zones.trans h.zones
  lastCallId := k.lastCallId.trans h.lastCallId
  assembly := k.assembly.trans h.assembly
  bars := k.bars.trans h.bars
  clutch := k.clutch.trans h.clutch
  metres := k.metres.trans h.metres
  remainders := k.remainders.trans h.remainders
  frameErrors := k.frameErrors.trans h.frameErrors
  pending := k.pending.trans h.pending

/-- What is kept, as one equation. -/
theorem State.Keeps.eq {s t : State} (h : s.Keeps t) :
    t = { s with
      drives := t.drives, sent := t.sent, positions := t.positions, caps := t.caps, restricted := t.restricted
      queues := t.queues, ended := t.ended, pipes := t.pipes, winders := t.winders, skips := t.skips
      pairing := t.pairing, pairBeyond := t.pairBeyond, repair := t.repair, clutchTimer := t.clutchTimer
      monitors := t.monitors, primary := t.primary, faults := t.faults, overflow := t.overflow
      counters := t.counters, draws := t.draws } := by
  cases s; cases t
  obtain ⟨h0, h1, h2, h3, h4, h5, h6, h7, h8, h9, h10, h11, h12, h13, h14, h15, h16, h17, h18, h19, h20, h21, h22, h23, h24,
    h25, h26, h27, h28, h29⟩ := h
  simp only at *
  subst_vars
  rfl

/-- A step of two operations that are each known to keep everything, split at the last. -/
theorem State.Keeps.ite {s t u : State} {p : Prop} [Decidable p] (h : s.Keeps t) (k : s.Keeps u) :
    s.Keeps (if p then t else u) := by
  split <;> assumption

/-! ## Single updates -/

theorem State.withPipe_keeps (s : State) (w : Winder) (f : Pipe → Pipe) : s.Keeps (s.withPipe w f) := by constructor <;> rfl
theorem State.withWinder_keeps (s : State) (w : Winder) (f : WinderRecord → WinderRecord) : s.Keeps (s.withWinder w f) := by constructor <;> rfl
theorem State.withMonitor_keeps (s : State) (w : Winder) (f : Monitor → Monitor) : s.Keeps (s.withMonitor w f) := by constructor <;> rfl
theorem State.withPosition_keeps (s : State) (c : Conveyance) (f : Position → Position) : s.Keeps (s.withPosition c f) := by constructor <;> rfl
theorem State.withQueue_keeps (s : State) (w : Winder) (f : List Call → List Call) : s.Keeps (s.withQueue w f) := by constructor <;> rfl
theorem State.withDrive_keeps (s : State) (w : Winder) (f : DriveLink → DriveLink) : s.Keeps (s.withDrive w f) := by constructor <;> rfl
theorem State.withCounters_keeps (s : State) (w : Winder) (f : Counters → Counters) : s.Keeps (s.withCounters w f) := by constructor <;> rfl
theorem State.begin_keeps (s : State) : s.Keeps (s.begin) := by constructor <;> rfl
theorem State.emit_keeps (s : State) (m : Sent) : s.Keeps (s.emit m) := by constructor <;> rfl
theorem State.handCap_keeps (s : State) (w : Winder) : s.Keeps (s.handCap w) := by constructor <;> rfl
theorem State.recordEnded_keeps (s : State) (w : Winder) (id : Nat) (r : EndReason) : s.Keeps (s.recordEnded w id r) := by constructor <;> rfl
theorem State.formReadiness_keeps (s : State) : s.Keeps (s.formReadiness) := by constructor <;> rfl
theorem State.setContents_keeps (s : State) (k : Skip) (c : Contents) : s.Keeps (s.setContents k c) := by constructor <;> rfl
theorem State.sendOrder_keeps (s : State) (w : Winder) (o : Order) : s.Keeps (s.sendOrder w o) := by constructor <;> rfl
theorem State.rebuildSet_keeps (s : State) (c : Conveyance) : s.Keeps (s.rebuildSet c) := by constructor <;> rfl
theorem State.suppress_keeps (s : State) (c : Conveyance) : s.Keeps (s.suppress c) := by constructor <;> rfl
theorem State.emptySuppression_keeps (s : State) (w : Winder) : s.Keeps (s.emptySuppression w) := by constructor <;> rfl
theorem State.suppressWinder_keeps (s : State) (w : Winder) : s.Keeps (s.suppressWinder w) := by constructor <;> rfl
theorem State.armMotion_keeps (s : State) (c : Conveyance) : s.Keeps (s.armMotion c) := by constructor <;> rfl
theorem State.disarmMotion_keeps (s : State) (c : Conveyance) : s.Keeps (s.disarmMotion c) := by constructor <;> rfl
theorem State.armWinder_keeps (s : State) (w : Winder) : s.Keeps (s.armWinder w) := by constructor <;> rfl
theorem State.disarmWinder_keeps (s : State) (w : Winder) : s.Keeps (s.disarmWinder w) := by constructor <;> rfl
theorem State.endFreeOffer_keeps (s : State) (o : TripOutcome) : s.Keeps (s.endFreeOffer o) := by constructor <;> rfl
theorem State.sendGrant_keeps (s : State) (w : Winder) (t : Trip) (l : Leg) : s.Keeps (s.sendGrant w t l) := by constructor <;> rfl
theorem State.stage_keeps (s : State) (w : Winder) (t : Trip) : s.Keeps (s.stage w t) := by constructor <;> rfl
theorem State.activate_keeps (s : State) (w : Winder) (t : Trip) : s.Keeps (s.activate w t) := by constructor <;> rfl
theorem State.orderClutch_keeps (s : State) (x : Order) : s.Keeps (s.orderClutch x) := by constructor <;> rfl
theorem State.record_keeps (s : State) (e : FaultEntry) : s.Keeps (s.record e) := by
  unfold State.record; dsimp only; split <;> constructor <;> rfl

/-! ## The Winder Controller -/

theorem State.armAtRunning_keeps (s : State) (w : Winder) (c : Conveyance) : s.Keeps (s.armAtRunning w c) := by
  unfold State.armAtRunning; split <;> constructor <;> rfl
theorem State.motionAtEntry_keeps (s : State) (w : Winder) (st : WinderState) : s.Keeps (s.motionAtEntry w st) := by
  cases st
  all_goals first
    | exact s.armWinder_keeps w
    | exact s.disarmWinder_keeps w
    | exact .refl s
    | exact (s.armAtRunning_keeps w _).trans (State.armAtRunning_keeps _ w _)
theorem State.changeState_keeps (s : State) (w : Winder) (st : WinderState) : s.Keeps (s.changeState w st) := by
  unfold State.changeState
  split
  · exact .refl s
  · exact ((((s.withWinder_keeps w _).trans (State.motionAtEntry_keeps _ w st)).trans (State.handCap_keeps _ w)).trans
      (State.withMonitor_keeps _ w _)).trans (State.withPipe_keeps _ w _)
theorem State.park_keeps (s : State) (w : Winder) : s.Keeps (s.park w) := by
  unfold State.park
  split
  · exact (s.changeState_keeps w _).trans (State.withWinder_keeps _ w _)
  · exact s.changeState_keeps w _

/-! ## The Trip Pipeline's endings -/

theorem State.endSource_keeps (s : State) (w : Winder) (t : Trip) (o : TripOutcome) : s.Keeps (s.endSource w t o) := by
  unfold State.endSource
  split
  · exact .refl s
  · exact s.recordEnded_keeps ..
theorem State.endTripRecord_keeps (s : State) (w : Winder) (t : Trip) (o : TripOutcome) : s.Keeps (s.endTripRecord w t o) := by
  unfold State.endTripRecord
  exact ((s.withPipe_keeps w _).trans (State.endSource_keeps _ w t o)).trans (State.withCounters_keeps _ w _)
theorem State.endRePair_keeps (s : State) (t : Trip) : s.Keeps (s.endRePair t) := by
  unfold State.endRePair; split <;> constructor <;> rfl
theorem State.endActive_keeps (s : State) (w : Winder) (o : TripOutcome) : s.Keeps (s.endActive w o) := by
  unfold State.endActive
  split
  · exact .refl s
  · exact ((s.withPipe_keeps w _).trans (State.endRePair_keeps _ _)).trans (State.endTripRecord_keeps _ w _ o)
theorem State.discardStaged_keeps (s : State) (w : Winder) (o : TripOutcome) : s.Keeps (s.discardStaged w o) := by
  unfold State.discardStaged
  split
  · exact .refl s
  · exact (s.withPipe_keeps w _).trans (State.endTripRecord_keeps _ w _ o)
theorem State.returnCall_keeps (s : State) (w : Winder) (c : Call) (st : CallState) : s.Keeps (s.returnCall w c st) := by
  unfold State.returnCall
  dsimp only
  split
  · exact s.withQueue_keeps w _
  · exact (s.withQueue_keeps w _).trans (State.recordEnded_keeps ..)
theorem State.withdrawStaged_keeps (s : State) (w : Winder) (st : CallState) : s.Keeps (s.withdrawStaged w st) := by
  unfold State.withdrawStaged
  split
  · exact (s.withPipe_keeps w _).trans (State.returnCall_keeps _ w _ st)
  · exact s.discardStaged_keeps w _
theorem State.endAndPark_keeps (s : State) (w : Winder) (o : TripOutcome) : s.Keeps (s.endAndPark w o) :=
  (s.endActive_keeps w o).trans (State.park_keeps _ w)

/-! ## The Fault Recorder -/

theorem State.tripWinder_keeps (s : State) (w : Winder) : s.Keeps (s.tripWinder w) :=
  (((((s.changeState_keeps w _).trans (State.endActive_keeps _ w _)).trans (State.withdrawStaged_keeps _ w _)).trans
    (State.withWinder_keeps _ w _)).trans (State.emptySuppression_keeps _ w)).trans (State.sendOrder_keeps _ w _)
theorem State.lockWinder_keeps (s : State) (w : Winder) : s.Keeps (s.lockWinder w) :=
  ((s.changeState_keeps w _).trans (State.emptySuppression_keeps _ w)).trans (State.sendOrder_keeps _ w _)
theorem State.handTrip_keeps (s : State) (f : FaultReport) : s.Keeps (s.handTrip f) := by
  unfold State.handTrip
  split
  · exact .refl s
  · exact .ite (s.lockWinder_keeps _) (.refl s)
  all_goals exact s.tripWinder_keeps _
theorem State.deliver_keeps (s : State) (f : FaultReport) : s.Keeps (s.deliver f) := by
  unfold State.deliver
  dsimp only
  split
  · exact (s.record_keeps _).trans (State.handTrip_keeps _ f)
  all_goals exact s.record_keeps _

/-! ## The Zone Table and the Envelope Monitor -/

theorem State.followCap_keeps (s : State) (w : Winder) : s.Keeps (s.followCap w) := by
  unfold State.followCap
  split
  · exact .refl s
  · exact .ite ((s.withWinder_keeps w _).trans (State.sendOrder_keeps _ w _)) (.refl s)
theorem State.handTouch_keeps (s : State) (w : Winder) : s.Keeps (s.handTouch w) := by
  unfold State.handTouch; dsimp only; split <;> constructor <;> rfl
theorem State.handOn_keeps (s : State) (w : Winder) : s.Keeps (s.handOn w) :=
  ((s.handCap_keeps w).trans (State.followCap_keeps _ w)).trans (State.handTouch_keeps _ w)
theorem State.rebuildMasked_keeps (s : State) (m : PerConveyance Bool) (c : Conveyance) : s.Keeps (s.rebuildMasked m c) :=
  .ite (s.rebuildSet_keeps c) (.refl s)
theorem State.rebuildForEdit_keeps (s : State) (m : PerConveyance Bool) : s.Keeps (s.rebuildForEdit m) :=
  (((((s.rebuildMasked_keeps m _).trans (State.rebuildMasked_keeps _ m _)).trans (State.rebuildMasked_keeps _ m _)).trans
    (State.rebuildMasked_keeps _ m _)).trans (State.handOn_keeps _ _)).trans (State.handOn_keeps _ _)
theorem State.rebuildWinder_keeps (s : State) (w : Winder) : s.Keeps (s.rebuildWinder w) :=
  ((s.rebuildSet_keeps _).trans (State.rebuildSet_keeps _ _)).trans (State.handOn_keeps _ w)
theorem State.overRaised_keeps (s : State) (w : Winder) : s.Keeps (s.overRaised w) :=
  .ite ((s.withWinder_keeps w _).trans (State.sendOrder_keeps _ w _)) (.refl s)
theorem State.overCleared_keeps (s : State) (w : Winder) : s.Keeps (s.overCleared w) :=
  .ite ((s.withWinder_keeps w _).trans (State.sendOrder_keeps _ w _)) (s.withWinder_keeps w _)
theorem State.setOver_keeps (s : State) (w : Winder) : s.Keeps (s.setOver w) :=
  .ite (s.withMonitor_keeps w _) ((s.withMonitor_keeps w _).trans (State.overRaised_keeps _ w))
theorem State.clearOver_keeps (s : State) (w : Winder) : s.Keeps (s.clearOver w) :=
  .ite ((s.withMonitor_keeps w _).trans (State.overCleared_keeps _ w)) (s.withMonitor_keeps w _)
theorem State.compareOver_keeps (s : State) (w : Winder) : s.Keeps (s.compareOver w) := by
  unfold State.compareOver
  dsimp only
  split
  · exact ((s.withMonitor_keeps w _).trans (State.deliver_keeps _ _)).trans (State.setOver_keeps _ w)
  · split
    · exact (s.withMonitor_keeps w _).trans (State.clearOver_keeps _ w)
    · exact s.withMonitor_keeps w _
  all_goals exact s.withMonitor_keeps w _
theorem State.compareCritical_keeps (s : State) (w : Winder) : s.Keeps (s.compareCritical w) :=
  .ite ((s.withMonitor_keeps w _).trans (State.deliver_keeps _ _)) (.refl s)
theorem State.compareUnder_keeps (s : State) (w : Winder) : s.Keeps (s.compareUnder w) := by
  unfold State.compareUnder
  split
  · dsimp only
    split
    · exact s.withMonitor_keeps w _
    · exact s.withMonitor_keeps w _
    all_goals exact .refl s
  all_goals exact .refl s
theorem State.compare_keeps (s : State) (w : Winder) : s.Keeps (s.compare w) :=
  .ite ((((s.withMonitor_keeps w _).trans (State.compareOver_keeps _ w)).trans (State.compareCritical_keeps _ w)).trans
    (State.compareUnder_keeps _ w)) (.refl s)
theorem State.handAndCompare_keeps (s : State) (w : Winder) : s.Keeps (s.handAndCompare w) :=
  ((s.handCap_keeps w).trans (State.compare_keeps _ w)).trans (State.followCap_keeps _ w)

/-! ## Offers -/

theorem State.failOffer_keeps (s : State) (w : Winder) (o : TripOutcome) : s.Keeps (s.failOffer w o) :=
  .ite (s.discardStaged_keeps w o) (.ite (s.endFreeOffer_keeps o) ((s.endActive_keeps w o).trans (State.park_keeps _ w)))
theorem State.stopOffer_keeps (s : State) (w : Winder) : s.Keeps (s.stopOffer w) :=
  .ite (s.withdrawStaged_keeps w _) (s.failOffer_keeps w _)
theorem State.refusePayload_keeps (s : State) (k : Skip) (t : Trip) : s.Keeps (s.refusePayload k t) :=
  ((s.discardStaged_keeps _ _).trans (State.setContents_keeps _ k _)).trans (State.deliver_keeps _ _)
theorem State.grantCycle_keeps (s : State) (t : Trip) (l : Leg) : s.Keeps (s.grantCycle t l) := by
  unfold State.grantCycle
  split
  · exact s.sendGrant_keeps _ t l
  · split
    · exact s.refusePayload_keeps _ t
    · exact (s.deliver_keeps _).trans (State.sendGrant_keeps _ _ t l)
    · exact s.sendGrant_keeps _ t l
theorem State.offerLeg_keeps (s : State) (w : Winder) : s.Keeps (s.offerLeg w) := by
  unfold State.offerLeg
  split
  · exact .refl s
  · split
    · exact .refl s
    · exact .ite (s.withPipe_keeps w _) (.ite (s.stopOffer_keeps w) (.ite (s.grantCycle_keeps _ _) (s.sendGrant_keeps w _ _)))
theorem State.backOff_keeps (s : State) (w : Winder) (n : Nat) : s.Keeps (s.backOff w n) := by
  unfold State.backOff
  have h : s.Keeps { s with draws := s.draws + 1 } := by constructor <;> rfl
  exact .ite (h.trans (State.offerLeg_keeps _ w)) (h.trans (State.withPipe_keeps _ w _))
theorem State.giveUp_keeps (s : State) (w : Winder) : s.Keeps (s.giveUp w) :=
  (s.failOffer_keeps w _).trans (State.deliver_keeps _ _)
theorem State.refuseOffer_keeps (s : State) (w : Winder) : s.Keeps (s.refuseOffer w) := by
  unfold State.refuseOffer
  split
  · exact .refl s
  · have h := fun f g => (s.withCounters_keeps w f).trans (State.withPipe_keeps _ w g)
    exact .ite ((h _ _).trans (State.giveUp_keeps _ w)) ((h _ _).trans (State.backOff_keeps _ w _))
theorem State.suppressRecovery_keeps (s : State) (w : Winder) : s.Keeps (s.suppressRecovery w) :=
  .ite (s.suppressWinder_keeps w) (.refl s)
theorem State.acceptOffer_keeps (s : State) (w : Winder) : s.Keeps (s.acceptOffer w) :=
  (((s.withPipe_keeps w _).trans (State.suppressRecovery_keeps _ w)).trans (State.changeState_keeps _ w _)).trans
    (State.handAndCompare_keeps _ w)
theorem State.tryOffer_keeps (s : State) (w : Winder) : s.Keeps (s.tryOffer w) := .ite (s.offerLeg_keeps w) (.refl s)

/-! ## The planner and the end of an event -/

theorem State.planFrom_keeps (s : State) (w : Winder) (n : Nat) : s.Keeps (s.planFrom w n) := by
  induction n generalizing s with
  | zero => exact .refl s
  | succ n ih =>
    unfold State.planFrom
    split
    · exact .refl s
    · split
      · exact (s.withQueue_keeps w _).trans (ih _)
      · exact ((s.withQueue_keeps w _).trans (State.recordEnded_keeps ..)).trans (ih _)
      · exact (s.withQueue_keeps w _).trans (State.stage_keeps _ w _)
theorem State.readyStaged_keeps (s : State) (w : Winder) : s.Keeps (s.readyStaged w) := by
  cases w
  · exact .refl s
  · exact s.formReadiness_keeps
theorem State.plan_keeps (s : State) (w : Winder) : s.Keeps (s.plan w) :=
  .ite ((s.planFrom_keeps w _).trans (State.readyStaged_keeps _ w)) (.refl s)
theorem State.settleFrom_keeps (s : State) (w : Winder) (n : Nat) : s.Keeps (s.settleFrom w n) := by
  induction n generalizing s with
  | zero => exact .refl s
  | succ n ih =>
    have h := (s.plan_keeps w).trans (State.tryOffer_keeps _ w)
    exact .ite (h.trans (ih _)) h
theorem State.settle_keeps (s : State) (w : Winder) : s.Keeps (s.settle w) := s.settleFrom_keeps w _
theorem State.settleBoth_keeps (s : State) : s.Keeps s.settleBoth :=
  (s.settle_keeps _).trans (State.settle_keeps _ _)

/-! ## Stops, landing and the skips -/

theorem State.enterStopping_keeps (s : State) (w : Winder) (c : StopCause) : s.Keeps (s.enterStopping w c) :=
  ((((s.changeState_keeps w _).trans (State.withWinder_keeps _ w _)).trans (State.withdrawStaged_keeps _ w _)).trans
    (State.sendOrder_keeps _ w _)).trans (State.handAndCompare_keeps _ w)
theorem State.endStop_keeps (s : State) (w : Winder) : s.Keeps (s.endStop w) := s.endAndPark_keeps w _
theorem State.beginSettling_keeps (s : State) (w : Winder) (t : Trip) (l : Leg) : s.Keeps (s.beginSettling w t l) := by
  unfold State.beginSettling
  exact ((s.withPipe_keeps w _).trans (State.changeState_keeps _ w _)).trans (State.withPipe_keeps _ w _)
theorem State.failLanding_keeps (s : State) (w : Winder) (t : Trip) (c : Conveyance) : s.Keeps (s.failLanding w t c) :=
  ((s.endActive_keeps w _).trans (State.deliver_keeps _ _)).trans (State.park_keeps _ w)
theorem State.relevel_keeps (s : State) (w : Winder) (t : Trip) (l : Leg) (m : List LegMotion) (c : Conveyance) :
    s.Keeps (s.relevel w t l m c) :=
  .ite (s.failLanding_keeps w t c) (((s.withCounters_keeps w _).trans (State.withPipe_keeps _ w _)).trans
    (State.offerLeg_keeps _ w))
theorem State.beginClosing_keeps (s : State) : s.Keeps s.beginClosing := by
  have h : ∀ t : State, t.Keeps { t with repair := t.repair.map (fun (r : RePair) => { r with phase := .closing }) } :=
    fun t => by constructor <;> rfl
  exact ((s.changeState_keeps _ _).trans (h _)).trans (State.orderClutch_keeps _ _)
theorem State.landLeg_keeps (s : State) (w : Winder) (t : Trip) : s.Keeps (s.landLeg w t) := by
  unfold State.landLeg
  have h := s.withPipe_keeps w (fun p => { p with active := some t.landed, settle := none })
  exact .ite (h.trans (State.beginClosing_keeps _)) (.ite (h.trans (State.endAndPark_keeps _ w _))
    (.ite ((h.trans (State.withPipe_keeps _ w _)).trans (State.endAndPark_keeps _ w _))
      ((h.trans (State.withPipe_keeps _ w _)).trans (State.changeState_keeps _ w _))))
theorem State.unstageCycle_keeps (s : State) : s.Keeps s.unstageCycle := .ite (s.withdrawStaged_keeps _ _) (.refl s)
theorem State.unpair_keeps (s : State) : s.Keeps s.unpair := by
  have h : s.Keeps { s with pairing := .unpaired, pairBeyond := false } := by constructor <;> rfl
  exact .ite (.refl s) (((h.trans (State.withQueue_keeps _ _ _)).trans (State.unstageCycle_keeps _)).trans
    (State.formReadiness_keeps _))
theorem State.pairWith_keeps (s : State) (p : Pocket) : s.Keeps (s.pairWith p) := by
  have h : s.Keeps { s with pairing := .paired p, pairBeyond := false } := by constructor <;> rfl
  exact (h.trans (State.withQueue_keeps _ _ _)).trans (State.formReadiness_keeps _)

end Sys2Proof.Machine
end

