-- ==== Sys2Proof/Laws/Requests.lean ====
section
/-! SUPPORT. How a request reaches its block and is answered, where it passes its screen and where it does not; what its arrival and its reply leave alone; the table of tests that a block runs; and what CLEAR INDICATIONS does. -/

namespace Sys2Proof.Machine

/-! ## The arrival of a request -/

@[simp] theorem State.heard_now (s : State) (h : Head) (k : Kind) : (s.heard h k).now = s.now := by
  unfold State.heard State.takeRequest State.dropSnapshot State.abandonIf; split <;> split <;> rfl
@[simp] theorem State.heard_emergencyLine (s : State) (h : Head) (k : Kind) : (s.heard h k).emergencyLine = s.emergencyLine := by
  unfold State.heard State.takeRequest State.dropSnapshot State.abandonIf; split <;> split <;> rfl
@[simp] theorem State.heard_maintenanceKey (s : State) (h : Head) (k : Kind) : (s.heard h k).maintenanceKey = s.maintenanceKey := by
  unfold State.heard State.takeRequest State.dropSnapshot State.abandonIf; split <;> split <;> rfl
@[simp] theorem State.heard_commissioningLine (s : State) (h : Head) (k : Kind) : (s.heard h k).commissioningLine = s.commissioningLine := by
  unfold State.heard State.takeRequest State.dropSnapshot State.abandonIf; split <;> split <;> rfl
@[simp] theorem State.heard_commissioning (s : State) (h : Head) (k : Kind) : (s.heard h k).commissioning = s.commissioning := by
  unfold State.heard State.takeRequest State.dropSnapshot State.abandonIf; split <;> split <;> rfl
@[simp] theorem State.heard_unconfigured (s : State) (h : Head) (k : Kind) : (s.heard h k).unconfigured = s.unconfigured := by
  unfold State.heard State.takeRequest State.dropSnapshot State.abandonIf; split <;> split <;> rfl
@[simp] theorem State.heard_generation (s : State) (h : Head) (k : Kind) : (s.heard h k).generation = s.generation := by
  unfold State.heard State.takeRequest State.dropSnapshot State.abandonIf; split <;> split <;> rfl
@[simp] theorem State.heard_work (s : State) (h : Head) (k : Kind) : (s.heard h k).work = s.work := by
  unfold State.heard State.takeRequest State.dropSnapshot State.abandonIf; split <;> split <;> rfl
@[simp] theorem State.heard_storedCurrent (s : State) (h : Head) (k : Kind) : (s.heard h k).storedCurrent = s.storedCurrent := by
  unfold State.heard State.takeRequest State.dropSnapshot State.abandonIf; split <;> split <;> rfl
@[simp] theorem State.heard_storedSpare (s : State) (h : Head) (k : Kind) : (s.heard h k).storedSpare = s.storedSpare := by
  unfold State.heard State.takeRequest State.dropSnapshot State.abandonIf; split <;> split <;> rfl
@[simp] theorem State.heard_commit (s : State) (h : Head) (k : Kind) : (s.heard h k).commit = s.commit := by
  unfold State.heard State.takeRequest State.dropSnapshot State.abandonIf; split <;> split <;> rfl
@[simp] theorem State.heard_recordCurrent (s : State) (h : Head) (k : Kind) : (s.heard h k).recordCurrent = s.recordCurrent := by
  unfold State.heard State.takeRequest State.dropSnapshot State.abandonIf; split <;> split <;> rfl
@[simp] theorem State.heard_recordSpare (s : State) (h : Head) (k : Kind) : (s.heard h k).recordSpare = s.recordSpare := by
  unfold State.heard State.takeRequest State.dropSnapshot State.abandonIf; split <;> split <;> rfl
@[simp] theorem State.heard_recordWrite (s : State) (h : Head) (k : Kind) : (s.heard h k).recordWrite = s.recordWrite := by
  unfold State.heard State.takeRequest State.dropSnapshot State.abandonIf; split <;> split <;> rfl
@[simp] theorem State.heard_drives (s : State) (h : Head) (k : Kind) : (s.heard h k).drives = s.drives := by
  unfold State.heard State.takeRequest State.dropSnapshot State.abandonIf; split <;> split <;> rfl
@[simp] theorem State.heard_positions (s : State) (h : Head) (k : Kind) : (s.heard h k).positions = s.positions := by
  unfold State.heard State.takeRequest State.dropSnapshot State.abandonIf; split <;> split <;> rfl
@[simp] theorem State.heard_reports (s : State) (h : Head) (k : Kind) : (s.heard h k).reports = s.reports := by
  unfold State.heard State.takeRequest State.dropSnapshot State.abandonIf; split <;> split <;> rfl
@[simp] theorem State.heard_drumDepth (s : State) (h : Head) (k : Kind) : (s.heard h k).drumDepth = s.drumDepth := by
  unfold State.heard State.takeRequest State.dropSnapshot State.abandonIf; split <;> split <;> rfl
@[simp] theorem State.heard_metresFrom (s : State) (h : Head) (k : Kind) : (s.heard h k).metresFrom = s.metresFrom := by
  unfold State.heard State.takeRequest State.dropSnapshot State.abandonIf; split <;> split <;> rfl
@[simp] theorem State.heard_lastPass (s : State) (h : Head) (k : Kind) : (s.heard h k).lastPass = s.lastPass := by
  unfold State.heard State.takeRequest State.dropSnapshot State.abandonIf; split <;> split <;> rfl
@[simp] theorem State.heard_startupCheck (s : State) (h : Head) (k : Kind) : (s.heard h k).startupCheck = s.startupCheck := by
  unfold State.heard State.takeRequest State.dropSnapshot State.abandonIf; split <;> split <;> rfl
@[simp] theorem State.heard_pairBeyond (s : State) (h : Head) (k : Kind) : (s.heard h k).pairBeyond = s.pairBeyond := by
  unfold State.heard State.takeRequest State.dropSnapshot State.abandonIf; split <;> split <;> rfl
@[simp] theorem State.heard_zones (s : State) (h : Head) (k : Kind) : (s.heard h k).zones = s.zones := by
  unfold State.heard State.takeRequest State.dropSnapshot State.abandonIf; split <;> split <;> rfl
@[simp] theorem State.heard_caps (s : State) (h : Head) (k : Kind) : (s.heard h k).caps = s.caps := by
  unfold State.heard State.takeRequest State.dropSnapshot State.abandonIf; split <;> split <;> rfl
@[simp] theorem State.heard_restricted (s : State) (h : Head) (k : Kind) : (s.heard h k).restricted = s.restricted := by
  unfold State.heard State.takeRequest State.dropSnapshot State.abandonIf; split <;> split <;> rfl
@[simp] theorem State.heard_queues (s : State) (h : Head) (k : Kind) : (s.heard h k).queues = s.queues := by
  unfold State.heard State.takeRequest State.dropSnapshot State.abandonIf; split <;> split <;> rfl
@[simp] theorem State.heard_lastCallId (s : State) (h : Head) (k : Kind) : (s.heard h k).lastCallId = s.lastCallId := by
  unfold State.heard State.takeRequest State.dropSnapshot State.abandonIf; split <;> split <;> rfl
@[simp] theorem State.heard_ended (s : State) (h : Head) (k : Kind) : (s.heard h k).ended = s.ended := by
  unfold State.heard State.takeRequest State.dropSnapshot State.abandonIf; split <;> split <;> rfl
@[simp] theorem State.heard_bars (s : State) (h : Head) (k : Kind) : (s.heard h k).bars = s.bars := by
  unfold State.heard State.takeRequest State.dropSnapshot State.abandonIf; split <;> split <;> rfl
@[simp] theorem State.heard_pipes (s : State) (h : Head) (k : Kind) : (s.heard h k).pipes = s.pipes := by
  unfold State.heard State.takeRequest State.dropSnapshot State.abandonIf; split <;> split <;> rfl
@[simp] theorem State.heard_winders (s : State) (h : Head) (k : Kind) : (s.heard h k).winders = s.winders := by
  unfold State.heard State.takeRequest State.dropSnapshot State.abandonIf; split <;> split <;> rfl
@[simp] theorem State.heard_skips (s : State) (h : Head) (k : Kind) : (s.heard h k).skips = s.skips := by
  unfold State.heard State.takeRequest State.dropSnapshot State.abandonIf; split <;> split <;> rfl
@[simp] theorem State.heard_pairing (s : State) (h : Head) (k : Kind) : (s.heard h k).pairing = s.pairing := by
  unfold State.heard State.takeRequest State.dropSnapshot State.abandonIf; split <;> split <;> rfl
@[simp] theorem State.heard_clutch (s : State) (h : Head) (k : Kind) : (s.heard h k).clutch = s.clutch := by
  unfold State.heard State.takeRequest State.dropSnapshot State.abandonIf; split <;> split <;> rfl
@[simp] theorem State.heard_repair (s : State) (h : Head) (k : Kind) : (s.heard h k).repair = s.repair := by
  unfold State.heard State.takeRequest State.dropSnapshot State.abandonIf; split <;> split <;> rfl
@[simp] theorem State.heard_clutchTimer (s : State) (h : Head) (k : Kind) : (s.heard h k).clutchTimer = s.clutchTimer := by
  unfold State.heard State.takeRequest State.dropSnapshot State.abandonIf; split <;> split <;> rfl
@[simp] theorem State.heard_monitors (s : State) (h : Head) (k : Kind) : (s.heard h k).monitors = s.monitors := by
  unfold State.heard State.takeRequest State.dropSnapshot State.abandonIf; split <;> split <;> rfl
@[simp] theorem State.heard_primary (s : State) (h : Head) (k : Kind) : (s.heard h k).primary = s.primary := by
  unfold State.heard State.takeRequest State.dropSnapshot State.abandonIf; split <;> split <;> rfl
@[simp] theorem State.heard_faults (s : State) (h : Head) (k : Kind) : (s.heard h k).faults = s.faults := by
  unfold State.heard State.takeRequest State.dropSnapshot State.abandonIf; split <;> split <;> rfl
@[simp] theorem State.heard_overflow (s : State) (h : Head) (k : Kind) : (s.heard h k).overflow = s.overflow := by
  unfold State.heard State.takeRequest State.dropSnapshot State.abandonIf; split <;> split <;> rfl
@[simp] theorem State.heard_counters (s : State) (h : Head) (k : Kind) : (s.heard h k).counters = s.counters := by
  unfold State.heard State.takeRequest State.dropSnapshot State.abandonIf; split <;> split <;> rfl
@[simp] theorem State.heard_metres (s : State) (h : Head) (k : Kind) : (s.heard h k).metres = s.metres := by
  unfold State.heard State.takeRequest State.dropSnapshot State.abandonIf; split <;> split <;> rfl
@[simp] theorem State.heard_remainders (s : State) (h : Head) (k : Kind) : (s.heard h k).remainders = s.remainders := by
  unfold State.heard State.takeRequest State.dropSnapshot State.abandonIf; split <;> split <;> rfl
@[simp] theorem State.heard_draws (s : State) (h : Head) (k : Kind) : (s.heard h k).draws = s.draws := by
  unfold State.heard State.takeRequest State.dropSnapshot State.abandonIf; split <;> split <;> rfl
@[simp] theorem State.heard_pending (s : State) (h : Head) (k : Kind) : (s.heard h k).pending = s.pending := by
  unfold State.heard State.takeRequest State.dropSnapshot State.abandonIf; split <;> split <;> rfl
@[simp] theorem State.heard_pipe (s : State) (h : Head) (k : Kind) (w : Winder) : (s.heard h k).pipe w = s.pipe w :=
  congrArg (fun p => p.get w) (s.heard_pipes h k)
@[simp] theorem State.heard_winder (s : State) (h : Head) (k : Kind) (w : Winder) : (s.heard h k).winder w = s.winder w :=
  congrArg (fun p => p.get w) (s.heard_winders h k)
@[simp] theorem State.heard_monitor (s : State) (h : Head) (k : Kind) (w : Winder) : (s.heard h k).monitor w = s.monitor w :=
  congrArg (fun p => p.get w) (s.heard_monitors h k)
@[simp] theorem State.heard_position (s : State) (h : Head) (k : Kind) (w : Conveyance) : (s.heard h k).position w = s.position w :=
  congrArg (fun p => p.get w) (s.heard_positions h k)
@[simp] theorem State.heard_sent (s : State) (h : Head) (k : Kind) : (s.heard h k).sent = [] := by
  unfold State.heard State.takeRequest State.dropSnapshot State.abandonIf; split <;> split <;> rfl

/-- The arrival of a frame in one equation: the port hunts again, and bytes left of an earlier frame are one damaged frame
(R165). -/
theorem State.frameArrives_eq (s : State) (l : Link) :
    s.frameArrives l = { s with
      frameErrors := s.frameErrors.set l
        (saturate (s.frameErrors.get l + (if (s.ports.get l).reception = .hunting then 0 else 1)))
      ports := s.ports.set l ⟨.hunting, s.now⟩ } := by
  unfold State.frameArrives
  generalize (s.ports.get l).reception = r
  cases r <;> rfl

/-- The abandoning of an assembly in one equation (R68). -/
theorem State.abandonIf_eq (s : State) (b : Bool) :
    s.abandonIf b = { s with assembly := if b = true then none else s.assembly } := by
  cases b <;> rfl

/-- The dropping of the page snapshot in one equation (R171). -/
theorem State.dropSnapshot_eq (s : State) (l : Link) :
    s.dropSnapshot l = { s with snapshot := if l = .console then none else s.snapshot } := by
  unfold State.dropSnapshot; split <;> rfl

/-! ## The answer to a request -/

/-- Only WINDER RESET abandons an assembly in its block. -/
@[simp] theorem blockAbandons_of_ne {k : Kind} (hk : k ≠ .winderReset) (s t : State) : blockAbandons k s t = false := by
  simp [blockAbandons, hk]

/-- An assembly that a request's arrival has closed is one that the arrival abandoned. -/
theorem State.blockAbandons_heard (s : State) (h : Head) (k : Kind) :
    (s.abandoning h k || blockAbandons k s (s.heard h k)) = s.abandoning h k := by
  cases hb : s.abandoning h k
  · have e : (s.heard h k).assembly = s.assembly := by
      unfold State.abandoning at hb
      unfold State.heard State.takeRequest State.dropSnapshot
      rw [hb]
      split <;> rfl
    unfold blockAbandons
    rw [e]
    cases s.assembly <;> simp
  · rfl

/-- Answering a request other than WINDER RESET adds its reply to the frames sent and does nothing else. -/
theorem State.answering_eq (s t : State) (h : Head) {k : Kind} (hk : k ≠ .winderReset) (r : Code × Answer) :
    s.answering t h k r = { t with sent := t.sent ++ [s.replyTo h k r] } := by
  unfold State.answering State.replyTo
  rw [blockAbandons_of_ne hk, Bool.or_false]
  rfl

/-- Answering a request that its arrival alone has changed anything for. -/
theorem State.answering_heard (s : State) (h : Head) (k : Kind) (r : Code × Answer) :
    s.answering (s.heard h k) h k r = (s.heard h k).reply h (kindNumber k) (s.abandoning h k) r := by
  unfold State.answering
  rw [State.blockAbandons_heard]

/-- The reply stands last. -/
theorem State.answering_getLast (s t : State) (h : Head) {k : Kind} (hk : k ≠ .winderReset) (r : Code × Answer) :
    (s.answering t h k r).sent.getLast? = some (s.replyTo h k r) := by
  rw [State.answering_eq s t h hk]; simp

theorem State.answering_keeps (s t : State) (h : Head) (k : Kind) (r : Code × Answer) : t.Keeps (s.answering t h k r) :=
  t.emit_keeps _

/-- The screen does not look at the page snapshot. -/
theorem screen_dropSnapshot (s : State) (l : Link) (h : Head) (k : Kind) (n : Nat) (w : Option Nat) :
    screen (s.dropSnapshot l) h k n w = screen s h k n w := by
  unfold State.dropSnapshot; split <;> rfl

/-- A request that passes its screen is handed to its block, and answered with what the block answers (R167, R168). -/
theorem request_admitted {s : State} {h : Head} {k : Kind} {n : Nat} {w : Option Nat} (a : s.admits h k n w)
    (act : State → State × (Code × Answer)) :
    request s h k n w act = s.answering (act (s.heard h k)).1 h k (act (s.heard h k)).2 := by
  unfold request
  dsimp only
  rw [show screen ((s.takeRequest h k).dropSnapshot h.link) h k n w = none from a]
  rfl

/-- A request that its screen turns away is answered by the screen, and its block sees nothing of it (R167). -/
theorem request_turnedAway {s : State} {h : Head} {k : Kind} {n : Nat} {w : Option Nat} {c : Code}
    (a : screen (s.heard h k) h k n w = some c) (act : State → State × (Code × Answer)) :
    request s h k n w act = s.answering (s.heard h k) h k (c, .nothing) := by
  unfold request
  dsimp only
  rw [show screen ((s.takeRequest h k).dropSnapshot h.link) h k n w = some c from a, State.answering_heard]
  rfl

/-- A read that passes its screen changes nothing (R168). -/
theorem readRequest_admitted {s : State} {h : Head} {k : Kind} {n : Nat} {w : Option Nat} (a : s.admits h k n w)
    (answer : State → Code × Answer) :
    readRequest s h k n w answer = s.answering (s.heard h k) h k (answer (s.heard h k)) :=
  request_admitted a _

/-- A request for a winder that passes its screen is handed to its block with the winder that its code names. -/
theorem winderRequest_admitted {s : State} {h : Head} {k : Kind} {n code : Nat} {w : Winder} (hw : winderCode code = some w)
    (a : s.admits h k n (some code)) (act : Winder → State → State × (Code × Answer)) :
    winderRequest s h k n code act = s.answering (act w (s.heard h k)).1 h k (act w (s.heard h k)).2 := by
  unfold winderRequest
  rw [request_admitted a, hw]

/-- A paged read that passes its screen is handed on with the page snapshot as it stands (R171). -/
theorem pageRequest_admitted {s : State} {h : Head} {k : Kind} {n : Nat} {w : Option Nat} (a : s.admits h k n w)
    (hk : (k == .addDeck || k == .closeCall) = false) (hr : k ≠ .winderReset) (act : State → State × (Code × Answer)) :
    pageRequest s h k n w act = s.answering (act (s.takeRequest h k)).1 h k (act (s.takeRequest h k)).2 := by
  have b : screen (s.takeRequest h k) h k n w = none := by
    rw [← screen_dropSnapshot _ h.link]; exact a
  unfold pageRequest State.answering State.abandoning
  dsimp only
  rw [b, hk, blockAbandons_of_ne hr, Bool.or_false]

/-- A request of a drive that passes its screen is answered first, and then taken (R168). -/
theorem driveRequest_admitted {s : State} {h : Head} {k : Kind} {n : Nat} (a : s.admits h k n none)
    (answer : State → Code × Answer) (act : State → State) :
    driveRequest s h k n answer act = act (s.answering (s.heard h k) h k (answer (s.heard h k))) := by
  unfold driveRequest
  dsimp only
  rw [show screen ((s.takeRequest h k).dropSnapshot h.link) h k n none = none from a, State.answering_heard]
  rfl

/-- A request of a drive that its screen turns away is answered by the screen, and nothing more is done (R167). -/
theorem driveRequest_turnedAway {s : State} {h : Head} {k : Kind} {n : Nat} {c : Code}
    (a : screen (s.heard h k) h k n none = some c) (answer : State → Code × Answer) (act : State → State) :
    driveRequest s h k n answer act = s.answering (s.heard h k) h k (c, .nothing) := by
  unfold driveRequest
  dsimp only
  rw [show screen ((s.takeRequest h k).dropSnapshot h.link) h k n none = some c from a, State.answering_heard]
  rfl

/-! ## Fields that a presence byte precedes -/

/-- A field sent as its value or its absence is read as it was sent (R174). -/
@[simp] theorem withRead_of {α : Type} (o : Option α) (act : Option α → State → State × (Code × Answer)) :
    withRead (.of o) act = act o := by
  cases o <;> rfl
@[simp] theorem withRead_present {α : Type} (a : α) (act : Option α → State → State × (Code × Answer)) :
    withRead (.present a) act = act (some a) := rfl
@[simp] theorem withRead_absent {α : Type} (act : Option α → State → State × (Code × Answer)) :
    withRead .absent act = act none := rfl

/-- A presence byte that no code assigns is refused, and nothing else happens (R167, R174). -/
@[simp] theorem withRead_unassigned {α : Type} (n : Nat) (act : Option α → State → State × (Code × Answer)) (s : State) :
    withRead (.unassigned n) act s = (s, refuse .outOfRange) := rfl

/-! ## Frames that DAMAGED_FRAME's bytes complete -/

/-- A frame is taken as `exec` takes the command that it is, which is no DAMAGED_FRAME; any other command is no frame. -/
theorem execFrame_eq (i : Instr) (s : State) :
    (execFrame i s = exec i s ∧ ∀ l b, i ≠ .damagedFrame l b) ∨ execFrame i s = .next s := by
  cases i <;> first | exact .inr rfl | exact .inl ⟨rfl, nofun⟩

/-- What every frame's command keeps, and what the port, the frames sent and the frame errors do not touch, the bytes of
DAMAGED_FRAME keep. -/
theorem State.takeBytes_keeps {P : State → Prop} (hp : ∀ s p, P s → P { s with ports := p })
    (hf : ∀ s f, P s → P { s with frameErrors := f }) (hs : ∀ s l, P s → P { s with sent := l })
    (he : ∀ i s t, (∀ l b, i ≠ .damagedFrame l b) → exec i s = .next t → P s → P t) (s : State) (l : Link)
    (bytes : List RxByte) (h : P s) : P (s.takeBytes l bytes) := by
  have one : ∀ (s : State) (x : Received), P s → P (s.takeReceived l x) := by
    intro s x h
    cases x with
    | nothing => exact h
    | damaged => exact hf _ _ h
    | frame b =>
      unfold State.takeReceived
      dsimp only
      split
      · next t e =>
        rcases execFrame_eq (readFrame l b) s with ⟨k, d⟩ | k
        · exact hs _ _ (he _ _ _ d (k.symm.trans e) h)
        · rw [k] at e
          cases e
          exact hs _ _ h
      · exact h
      · exact h
  have all : ∀ (xs : List Received) (s : State), P s → P (xs.foldl (fun s x => s.takeReceived l x) s) := by
    intro xs
    induction xs with
    | nil => exact fun _ h => h
    | cons x rest ih => exact fun s h => ih _ (one _ _ h)
  exact hp _ _ (all _ _ (hp _ _ h))

/-! ## Tables of tests -/

/-- A request whose tests all pass is taken. -/
theorem State.tested_none {s : State} {tests : List (Bool × Reason)} (h : firstFailing tests = none)
    (act : State → State × (Code × Answer)) : s.tested tests act = act s := by
  unfold State.tested; rw [h]

/-- A request with a test that fails is refused by the first that does, and nothing changes. -/
theorem State.tested_some {s : State} {tests : List (Bool × Reason)} {r : Reason} (h : firstFailing tests = some r)
    (act : State → State × (Code × Answer)) : s.tested tests act = (s, refuse r) := by
  unfold State.tested; rw [h]

/-- A table passes when none of its tests fails. -/
theorem firstFailing_eq_none {tests : List (Bool × Reason)} : firstFailing tests = none ↔ ∀ e ∈ tests, e.1 = false := by
  induction tests with
  | nil => simp [firstFailing]
  | cons e rest ih =>
    obtain ⟨b, r⟩ := e
    cases b <;> simp [firstFailing, ih]

/-- Tests stated in order hold of a request whose table of tests has the same conditions and refusals: the first that fails gives
its refusal, and where none fails the request is taken. -/
theorem TestsInOrder.of_table {no : Reason → Prop} {taken : Prop} {tests : List (Prop × Reason)} {table : List (Bool × Reason)}
    (same : List.Forall₂ (fun e b => (e.1 ↔ b.1 = true) ∧ e.2 = b.2) tests table)
    (refused : ∀ r, firstFailing table = some r → no r) (passed : firstFailing table = none → taken) :
    TestsInOrder no tests taken := by
  induction same with
  | nil => exact passed rfl
  | @cons e b tests table h _ ih =>
    obtain ⟨p, r⟩ := e
    obtain ⟨c, r'⟩ := b
    obtain ⟨h, hr⟩ := h
    dsimp only at h hr
    subst hr
    refine ⟨fun hp => refused _ ?_, fun hp => ih (fun r k => refused r ?_) (fun k => passed ?_)⟩
    · simp [firstFailing, h.1 hp]
    · have : c = false := by simpa using mt h.2 hp
      simpa [firstFailing, this] using k
    · have : c = false := by simpa using mt h.2 hp
      simpa [firstFailing, this] using k

/-- Tests stated in order hold of a request whose block runs a table of tests with the same conditions and refusals; what it
does where none fails is left to `taken`. -/
theorem TestsInOrder.of_tested {s : State} {h : Head} {k : Kind} {c : Instr} {tests : List (Prop × Reason)} {taken : Prop}
    {table : List (Bool × Reason)} {act : State → State × (Code × Answer)}
    (runs : exec c s = .next (s.answering ((s.heard h k).tested table act).1 h k ((s.heard h k).tested table act).2))
    (same : List.Forall₂ (fun e b => (e.1 ↔ b.1 = true) ∧ e.2 = b.2) tests table)
    (passed : firstFailing table = none →
      exec c s = .next (s.answering (act (s.heard h k)).1 h k (act (s.heard h k)).2) → taken) :
    TestsInOrder (fun r => s.Reads c h k (.refused r, .nothing)) tests taken := by
  refine TestsInOrder.of_table same (fun r hr => ?_) (fun hn => passed hn ?_)
  · unfold State.Reads State.Answers
    rw [runs, State.tested_some hr]; rfl
  · rw [runs, State.tested_none hn]

/-- Where none of the tests holds, the request is taken. -/
theorem TestsInOrder.taken {no : Reason → Prop} {taken : Prop} {tests : List (Prop × Reason)}
    (h : TestsInOrder no tests taken) (none : ∀ e ∈ tests, ¬e.1) : taken := by
  induction tests with
  | nil => exact h
  | cons e rest ih => exact ih (h.2 (none e List.mem_cons_self)) (fun x hx => none x (List.mem_cons_of_mem _ hx))

/-! ## CLEAR INDICATIONS -/

/-- CLEAR INDICATIONS in full: each indication without its condition is cleared, and where OVER is, the slow cap sent is
forgotten and a winder in motion is sent RESUME (R113, R148). -/
theorem State.clearIndications_eq (s : State) (w : Winder) :
    s.clearIndications w =
      let m := s.monitor w
      let t : State :=
        { s with
          monitors := s.monitors.set w
            { m with
              overIndication := m.overIndication && m.overCondition
              underIndication := m.underIndication && m.underCondition } }
      if m.overIndication && !m.overCondition then
        let u : State := { t with winders := s.winders.set w { s.winder w with slowCap := none } }
        if s.inMotion w then u.sendOrder w .resume else u
      else t := by
  match s with
  | { monitors := ⟨{ overCondition := oc, overIndication := oi, .. }, { overCondition := oc', overIndication := oi', .. }⟩, .. } =>
    cases w
    · cases oc <;> cases oi <;> rfl
    · cases oc' <;> cases oi' <;> rfl

end Sys2Proof.Machine
end

