-- ==== Sys2Proof/Laws/Pipeline.lean ====
section
/-! SUPPORT. What the operations of the Trip Pipeline and of the end of an event do to the slots, and that they leave the winders and the position records alone; what a change of state does to the pipelines; what becomes of a withdrawn trip and its call; what forming the readiness does to a trip. -/

namespace Sys2Proof.Machine

/-! ## What the staged slot's work leaves alone -/

/-- What is kept, and besides it the winders, the records, the monitors, the caps and the skips' coupling. -/
structure State.Still (s t : State) : Prop extends State.Keeps s t where
  winders : t.winders = s.winders
  positions : t.positions = s.positions
  monitors : t.monitors = s.monitors
  caps : t.caps = s.caps
  restricted : t.restricted = s.restricted
  pairing : t.pairing = s.pairing
  pairBeyond : t.pairBeyond = s.pairBeyond
  repair : t.repair = s.repair
  clutchTimer : t.clutchTimer = s.clutchTimer

theorem State.Still.refl (s : State) : s.Still s := ⟨.refl s, rfl, rfl, rfl, rfl, rfl, rfl, rfl, rfl, rfl⟩

theorem State.Still.trans {s t u : State} (h : s.Still t) (k : t.Still u) : s.Still u :=
  ⟨h.toKeeps.trans k.toKeeps, k.winders.trans h.winders, k.positions.trans h.positions, k.monitors.trans h.monitors,
    k.caps.trans h.caps, k.restricted.trans h.restricted, k.pairing.trans h.pairing, k.pairBeyond.trans h.pairBeyond,
    k.repair.trans h.repair, k.clutchTimer.trans h.clutchTimer⟩

theorem State.Still.ite {s t u : State} {p : Prop} [Decidable p] (h : s.Still t) (k : s.Still u) :
    s.Still (if p then t else u) := by
  split <;> assumption

theorem State.withPipe_still (s : State) (w : Winder) (f : Pipe → Pipe) : s.Still (s.withPipe w f) :=
  ⟨s.withPipe_keeps w f, rfl, rfl, rfl, rfl, rfl, rfl, rfl, rfl, rfl⟩
theorem State.withQueue_still (s : State) (w : Winder) (f : List Call → List Call) : s.Still (s.withQueue w f) :=
  ⟨s.withQueue_keeps w f, rfl, rfl, rfl, rfl, rfl, rfl, rfl, rfl, rfl⟩
theorem State.withCounters_still (s : State) (w : Winder) (f : Counters → Counters) : s.Still (s.withCounters w f) :=
  ⟨s.withCounters_keeps w f, rfl, rfl, rfl, rfl, rfl, rfl, rfl, rfl, rfl⟩
theorem State.recordEnded_still (s : State) (w : Winder) (id : Nat) (r : EndReason) : s.Still (s.recordEnded w id r) :=
  ⟨s.recordEnded_keeps w id r, rfl, rfl, rfl, rfl, rfl, rfl, rfl, rfl, rfl⟩
theorem State.formReadiness_still (s : State) : s.Still s.formReadiness :=
  ⟨s.formReadiness_keeps, rfl, rfl, rfl, rfl, rfl, rfl, rfl, rfl, rfl⟩
theorem State.setContents_still (s : State) (k : Skip) (c : Contents) : s.Still (s.setContents k c) :=
  ⟨s.setContents_keeps k c, rfl, rfl, rfl, rfl, rfl, rfl, rfl, rfl, rfl⟩
theorem State.sendOrder_still (s : State) (w : Winder) (o : Order) : s.Still (s.sendOrder w o) :=
  ⟨s.sendOrder_keeps w o, rfl, rfl, rfl, rfl, rfl, rfl, rfl, rfl, rfl⟩
theorem State.sendGrant_still (s : State) (w : Winder) (t : Trip) (l : Leg) : s.Still (s.sendGrant w t l) :=
  ⟨s.sendGrant_keeps w t l, rfl, rfl, rfl, rfl, rfl, rfl, rfl, rfl, rfl⟩
theorem State.stage_still (s : State) (w : Winder) (t : Trip) : s.Still (s.stage w t) := s.withPipe_still w _
theorem State.record_still (s : State) (e : FaultEntry) : s.Still (s.record e) :=
  ⟨s.record_keeps e, by unfold State.record; dsimp only; split <;> rfl, by unfold State.record; dsimp only; split <;> rfl,
    by unfold State.record; dsimp only; split <;> rfl, by unfold State.record; dsimp only; split <;> rfl,
    by unfold State.record; dsimp only; split <;> rfl, by unfold State.record; dsimp only; split <;> rfl,
    by unfold State.record; dsimp only; split <;> rfl, by unfold State.record; dsimp only; split <;> rfl,
    by unfold State.record; dsimp only; split <;> rfl⟩
theorem State.deliver_still (s : State) (f : FaultReport) (h : f.severity ≠ .trip) : s.Still (s.deliver f) := by
  unfold State.deliver
  dsimp only
  split
  · next k => exact absurd k h
  all_goals exact s.record_still _
theorem State.endSource_still (s : State) (w : Winder) (t : Trip) (o : TripOutcome) : s.Still (s.endSource w t o) := by
  unfold State.endSource
  split
  · exact .refl s
  · exact s.recordEnded_still ..
theorem State.endTripRecord_still (s : State) (w : Winder) (t : Trip) (o : TripOutcome) :
    s.Still (s.endTripRecord w t o) := by
  unfold State.endTripRecord
  exact ((s.withPipe_still w _).trans (State.endSource_still _ w t o)).trans (State.withCounters_still _ w _)
theorem State.discardStaged_still (s : State) (w : Winder) (o : TripOutcome) : s.Still (s.discardStaged w o) := by
  unfold State.discardStaged
  split
  · exact .refl s
  · exact (s.withPipe_still w _).trans (State.endTripRecord_still _ w _ o)
theorem State.returnCall_still (s : State) (w : Winder) (c : Call) (st : CallState) : s.Still (s.returnCall w c st) := by
  unfold State.returnCall
  dsimp only
  split
  · exact s.withQueue_still w _
  · exact (s.withQueue_still w _).trans (State.recordEnded_still ..)
theorem State.withdrawStaged_still (s : State) (w : Winder) (st : CallState) : s.Still (s.withdrawStaged w st) := by
  unfold State.withdrawStaged
  split
  · exact (s.withPipe_still w _).trans (State.returnCall_still _ w _ st)
  · exact s.discardStaged_still w _
theorem State.refusePayload_still (s : State) (k : Skip) (t : Trip) : s.Still (s.refusePayload k t) :=
  ((s.discardStaged_still _ _).trans (State.setContents_still _ k _)).trans (State.deliver_still _ _ (by simp [payloadReport]))
theorem State.grantCycle_still (s : State) (t : Trip) (l : Leg) : s.Still (s.grantCycle t l) := by
  unfold State.grantCycle
  split
  · exact s.sendGrant_still _ t l
  · split
    · exact s.refusePayload_still _ t
    · exact (s.deliver_still _ (by simp [payloadReport])).trans (State.sendGrant_still _ _ t l)
    · exact s.sendGrant_still _ t l

/-- An offer of a staged trip's first leg moves no winder and no record (R83). -/
theorem State.offerLeg_still (s : State) (w : Winder) (h : (s.pipe w).active = none) : s.Still (s.offerLeg w) := by
  unfold State.offerLeg
  split
  · exact .refl s
  · split
    · exact .refl s
    · refine .ite (s.withPipe_still w _) (.ite ?_ (.ite (s.grantCycle_still _ _) (s.sendGrant_still w _ _)))
      unfold State.stopOffer
      rw [h]
      exact s.withdrawStaged_still w _

theorem State.tryOffer_still (s : State) (w : Winder) : s.Still (s.tryOffer w) := by
  unfold State.tryOffer
  split
  · next h =>
    refine s.offerLeg_still w ?_
    unfold State.canOffer at h
    split at h
    · simp at h
    · simp only [Bool.and_eq_true, Option.isNone_iff_eq_none] at h
      exact h.1.1.1.1.1.2
  · exact .refl s
theorem State.planFrom_still (s : State) (w : Winder) (n : Nat) : s.Still (s.planFrom w n) := by
  induction n generalizing s with
  | zero => exact .refl s
  | succ n ih =>
    unfold State.planFrom
    split
    · exact .refl s
    · split
      · exact (s.withQueue_still w _).trans (ih _)
      · exact ((s.withQueue_still w _).trans (State.recordEnded_still ..)).trans (ih _)
      · exact (s.withQueue_still w _).trans (State.stage_still _ w _)
theorem State.readyStaged_still (s : State) (w : Winder) : s.Still (s.readyStaged w) := by
  cases w
  · exact .refl s
  · exact s.formReadiness_still
theorem State.plan_still (s : State) (w : Winder) : s.Still (s.plan w) :=
  .ite ((s.planFrom_still w _).trans (State.readyStaged_still _ w)) (.refl s)
theorem State.settleFrom_still (s : State) (w : Winder) (n : Nat) : s.Still (s.settleFrom w n) := by
  induction n generalizing s with
  | zero => exact .refl s
  | succ n ih =>
    have h := (s.plan_still w).trans (State.tryOffer_still _ w)
    exact .ite (h.trans (ih _)) h

/-- The planner run and the first offer that end an event move no winder and no record. -/
theorem State.settle_still (s : State) (w : Winder) : s.Still (s.settle w) := s.settleFrom_still w _

/-- In a state in which no trip enters the staged slot, the end of an event does nothing. -/
theorem State.settle_quiet (s : State) (w : Winder) (h : (s.winder w).state.stages = false) : s.settle w = s := by
  have hp : s.plan w = s := by
    unfold State.plan State.plannerRuns
    rw [h]
    simp
  have hi : s.isIn w .idle = false := by
    unfold State.isIn
    generalize (s.winder w).state = st at *
    cases st <;> first | rfl | cases h
  have hc : s.canOffer w = false := by
    unfold State.canOffer
    rw [hi]
    split <;> simp
  unfold State.settle
  show s.settleFrom w (_ + 1 + 1) = s
  unfold State.settleFrom
  rw [hp]
  unfold State.tryOffer
  simp [hc]

/-! ## The slots -/

theorem State.recordEnded_pipe (s : State) (w v : Winder) (id : Nat) (r : EndReason) :
    (s.recordEnded w id r).pipe v = s.pipe v := rfl

theorem State.endSource_pipe (s : State) (w v : Winder) (t : Trip) (o : TripOutcome) :
    (s.endSource w t o).pipe v = s.pipe v := by
  unfold State.endSource; split <;> rfl

/-- The outcome records after a trip's end (R88). -/
theorem State.endTripRecord_pipe (s : State) (w : Winder) (t : Trip) (o : TripOutcome) :
    (s.endTripRecord w t o).pipe w = { s.pipe w with prior := (s.pipe w).latest, latest := some ⟨t.number, o⟩ } := by
  unfold State.endTripRecord
  simp only [State.withCounters_pipe, State.endSource_pipe, State.withPipe_pipe_self]

theorem State.endRePair_pipe (s : State) (t : Trip) (v : Winder) : (s.endRePair t).pipe v = s.pipe v := by
  unfold State.endRePair; split <;> rfl

/-- The pipeline after the end of the active trip (R87, R88). -/
theorem State.endActive_pipe (s : State) (w : Winder) (t : Trip) (o : TripOutcome) (h : (s.pipe w).active = some t) :
    (s.endActive w o).pipe w =
      { s.pipe w with
        active := none, offer := none, settle := none, prior := (s.pipe w).latest, latest := some ⟨t.number, o⟩ } := by
  unfold State.endActive
  rw [h]
  simp only [State.endTripRecord_pipe, State.endRePair_pipe, State.withPipe_pipe_self]

/-- With no active trip there is none to end. -/
theorem State.endActive_none (s : State) (w : Winder) (o : TripOutcome) (h : (s.pipe w).active = none) :
    s.endActive w o = s := by
  unfold State.endActive; rw [h]

theorem State.returnCall_pipe (s : State) (w v : Winder) (c : Call) (st : CallState) :
    (s.returnCall w c st).pipe v = s.pipe v := by
  unfold State.returnCall; dsimp only; split <;> rfl

/-- With no staged trip there is none to withdraw. -/
theorem State.withdrawStaged_none (s : State) (w : Winder) (st : CallState) (h : (s.pipe w).staged = none) :
    s.withdrawStaged w st = s := by
  unfold State.withdrawStaged State.discardStaged; rw [h]; rfl

/-- A withdrawal empties the staged slot and leaves the active slot alone (R90). -/
theorem State.withdrawStaged_slots (s : State) (w : Winder) (st : CallState) :
    ((s.withdrawStaged w st).pipe w).staged = none ∧ ((s.withdrawStaged w st).pipe w).active = (s.pipe w).active := by
  unfold State.withdrawStaged
  split
  · rw [State.returnCall_pipe, State.withPipe_pipe_self]; exact ⟨rfl, rfl⟩
  · unfold State.discardStaged
    split
    · next h => exact ⟨h, rfl⟩
    · rw [State.endTripRecord_pipe, State.withPipe_pipe_self]; exact ⟨rfl, rfl⟩

/-- What the staged slot's work leaves alone sends nothing when it is a withdrawal. -/
theorem State.withdrawStaged_sent (s : State) (w : Winder) (st : CallState) : (s.withdrawStaged w st).sent = s.sent := by
  unfold State.withdrawStaged State.discardStaged State.returnCall State.endTripRecord State.endSource State.recordEnded
  repeat' (first | rfl | split)

/-- The end of a trip sends nothing (R87). -/
theorem State.endActive_sent (s : State) (w : Winder) (o : TripOutcome) : (s.endActive w o).sent = s.sent := by
  unfold State.endActive State.endTripRecord State.endSource State.recordEnded State.endRePair
  repeat' (first | rfl | split)

/-! ## The change of state -/

/-- A winder that is already in a state does not enter it (R96). -/
theorem State.changeState_self (s : State) (w : Winder) (st : WinderState) (h : (s.winder w).state = st) :
    s.changeState w st = s := by
  unfold State.changeState; rw [if_pos h]

theorem State.armAtRunning_pipes (s : State) (w : Winder) (c : Conveyance) : (s.armAtRunning w c).pipes = s.pipes := by
  unfold State.armAtRunning; split <;> rfl
theorem State.armAtRunning_winders (s : State) (w : Winder) (c : Conveyance) : (s.armAtRunning w c).winders = s.winders := by
  unfold State.armAtRunning; split <;> rfl
theorem State.armAtRunning_sent (s : State) (w : Winder) (c : Conveyance) : (s.armAtRunning w c).sent = s.sent := by
  unfold State.armAtRunning; split <;> rfl

/-- Arming and disarming the motion checks touches no pipeline, no winder and no frame. -/
theorem State.motionAtEntry_same (s : State) (w : Winder) (st : WinderState) :
    (s.motionAtEntry w st).pipes = s.pipes ∧ (s.motionAtEntry w st).winders = s.winders ∧
    (s.motionAtEntry w st).sent = s.sent := by
  cases st <;> first
    | exact ⟨rfl, rfl, rfl⟩
    | exact ⟨(State.armAtRunning_pipes _ w _).trans (s.armAtRunning_pipes w _),
        (State.armAtRunning_winders _ w _).trans (s.armAtRunning_winders w _),
        (State.armAtRunning_sent _ w _).trans (s.armAtRunning_sent w _)⟩

/-- The winder record after a change of state (R96, R97). -/
theorem State.changeState_winder (s : State) (w : Winder) (st : WinderState) (h : (s.winder w).state ≠ st) :
    (s.changeState w st).winder w = (s.winder w).entered st s.now := by
  unfold State.changeState
  rw [if_neg h]
  have k := (State.motionAtEntry_same (s.withWinder w (fun r => r.entered st s.now)) w st).2.1
  exact (congrArg (fun p => p.get w) k).trans (State.withWinder_winder_self ..)

/-- A change of state sends nothing. -/
theorem State.changeState_sent (s : State) (w : Winder) (st : WinderState) : (s.changeState w st).sent = s.sent := by
  unfold State.changeState
  split
  · rfl
  · exact (State.motionAtEntry_same (s.withWinder w (fun r => r.entered st s.now)) w st).2.2

/-- The pipeline after a change of state: the settle timer idle (R116). -/
theorem State.changeState_pipe (s : State) (w : Winder) (st : WinderState) (h : (s.winder w).state ≠ st) :
    (s.changeState w st).pipe w = { s.pipe w with settle := none } := by
  unfold State.changeState
  rw [if_neg h]
  dsimp only
  have k := (State.motionAtEntry_same (s.withWinder w (fun r => r.entered st s.now)) w st).1
  rw [State.withPipe_pipe_self]
  exact congrArg (fun p : PerWinder Pipe => { p.get w with settle := none }) k

/-- The state that a winder leaves for at the end of its trip (R98). -/
theorem State.park_state (s : State) (w : Winder) :
    ((s.park w).winder w).state = if (s.winder w).holdPending then .parked else .idle := by
  unfold State.park
  have h : ∀ st, ((s.changeState w st).winder w).state = st := by
    intro st
    by_cases h : (s.winder w).state = st
    · rw [State.changeState_self _ _ _ h, h]
    · rw [State.changeState_winder _ _ _ h]; rfl
  split
  · rw [State.withWinder_winder_self]; exact h _
  · exact h _

/-- The outputs of a record that has just entered a state are those of the state (R97). -/
theorem WinderRecord.entered_outputsAgree (r : WinderRecord) (st : WinderState) (now : Time) :
    (r.entered st now).outputsAgree = true := by
  simp [WinderRecord.outputsAgree, WinderRecord.entered]

/-! ## The staged trip withdrawn -/

/-- The staged trip withdrawn, its call returned as Waiting: everything that R62 and R90 say of it. -/
theorem State.withdrawStaged_withdrawn (s : State) (w : Winder) : s.Withdrawn (s.withdrawStaged w .waiting) w := by
  unfold State.Withdrawn
  rcases h : (s.pipe w).staged with _ | x
  · have e : s.withdrawStaged w .waiting = s := by simp [State.withdrawStaged, State.discardStaged, h]
    rw [e]
    exact ⟨h, fun _ => rfl, fun _ k => absurd k (by simp), fun _ _ k => absurd k (by simp)⟩
  rcases hs : x.source with _ | c
  · have e : s.withdrawStaged w .waiting = (s.withPipe w Pipe.unstage).endTripRecord w x .withdrawn := by
      simp [State.withdrawStaged, State.discardStaged, h, hs]
    rw [e]
    unfold State.endTripRecord State.endSource
    rw [hs]
    refine ⟨by cases w <;> rfl, fun k => absurd k (by simp), ?_, ?_⟩
    · rintro _ ⟨⟩ -
      cases w <;> exact ⟨rfl, rfl⟩
    · rintro _ c ⟨⟩ k
      exact absurd (hs.symm.trans k) (by simp)
  · have e : s.withdrawStaged w .waiting = (s.withPipe w Pipe.unstage).returnCall w c .waiting := by
      simp [State.withdrawStaged, h, hs]
    have q : (s.withPipe w Pipe.unstage).queues = s.queues := rfl
    rw [e]
    unfold State.returnCall mergingEntry
    rw [q]
    refine ⟨?_, fun k => absurd k (by simp), ?_, ?_⟩
    · cases hf : (s.queues.get w).find? (fun y => y.work.merges c.work) <;> cases w <;> rfl
    · rintro _ ⟨⟩ k
      exact absurd (hs.symm.trans k) (by simp)
    · rintro _ c' ⟨⟩ k
      obtain rfl : c = c' := Option.some.inj (hs.symm.trans k)
      refine ⟨s.returnedState c.work .waiting, fun k hk hp => by simp [State.returnedState, hk, hp], fun hn => ?_,
        fun hq => ?_, fun e he => ?_⟩
      · cases hw : c.work with
        | cage => rfl
        | cycle k => simp [State.returnedState, hn k hw]
      · have : (s.queues.get w).find? (fun y => y.work.merges c.work) = none := by simpa using hq
        rw [this]
        cases w <;> rfl
      · rw [he]
        cases w <;> exact ⟨rfl, _, rfl⟩

/-- The withdrawal of a staged trip is seen by the slots, the outcomes, the queue, the ended-call list, the pairing and the time
base alone. -/
theorem State.Withdrawn.of_same {s s' t t' : State} {w : Winder} (h : s.Withdrawn t w)
    (before : (s'.pipe w).staged = (s.pipe w).staged ∧ s'.queues.get w = s.queues.get w ∧ s'.pairing = s.pairing ∧ s'.now = s.now)
    (after : (t'.pipe w).staged = (t.pipe w).staged ∧ (t'.pipe w).latest = (t.pipe w).latest ∧
      t'.queues.get w = t.queues.get w ∧ t'.ended.get w = t.ended.get w) : s'.Withdrawn t' w := by
  unfold State.Withdrawn at *
  rw [before.1, before.2.1, before.2.2.1, before.2.2.2, after.1, after.2.1, after.2.2.1, after.2.2.2]
  exact h

/-! ## Readiness -/

/-- Readying a trip changes its ready flag and nothing else (R133). -/
theorem State.readied_eq (s : State) (t : Trip) : s.readied t = { t with ready := (s.readied t).ready } := by
  unfold State.readied
  split <;> rfl

/-- A staged cycle whose first GRANT has not been sent is not ready while a cycle is active (R133). -/
theorem State.readied_of_cycleActive {s : State} {t : Trip} (active : s.cycleActive = true) (cycle : t.isRockCycle = true)
    (granted : t.granted = false) (k : Skip) (rising : t.rising = some k) : (s.readied t).ready = false := by
  simp [State.readied, cycle, granted, rising, active]

/-- The flag that a staged cycle takes is the readiness that R133 states. -/
theorem State.readyToRise_iff (s : State) (k : Skip) : (s.rockReady k && !s.cycleActive) = true ↔ s.ReadyToRise k := by
  unfold State.ReadyToRise State.rockReady State.cycleActive SkipRecord.isLoaded
  rcases s.pairing with p | _
  · rcases (s.skips.get k).contents <;> cases (s.pipe .rock).active <;> simp [Pairing.pocket, and_assoc]
  · simp [Pairing.pocket]

end Sys2Proof.Machine
end

