-- ==== Sys2Proof/Laws/EndOfEvent.lean ====
section
/-! SUPPORT. The planner's run and the turns of planner and offer that end an event: neither does more than the Waiting entries of the queue ask for, so that a run of more steps, or an end of more turns, is the same. -/

namespace Sys2Proof.Machine

/-! ## The planner's run -/

/-- How many entries of a winder's queue are Waiting. -/
def State.waiting (s : State) (w : Winder) : Nat := (s.queues.get w).countP (fun c => c.state == .waiting)

theorem State.waiting_le (s : State) (w : Winder) : s.waiting w ≤ (s.queues.get w).length := List.countP_le_length

/-- The validation of a call holds it only as Held-bar or Held-work (R78). -/
theorem State.validate_hold {s : State} {w : Winder} {c : Call} {st : CallState} (h : s.validate w c = .hold st) :
    st ≠ .waiting := by
  unfold State.validate at h
  dsimp only at h
  rintro rfl
  repeat' split at h
  all_goals simp_all

theorem holdCall_waiting (q : List Call) (c : Call) (st : CallState) (hst : st ≠ .waiting) (hc : c ∈ q)
    (hw : c.state = .waiting) :
    (holdCall q c.id st).countP (fun c => c.state == .waiting) < q.countP (fun c => c.state == .waiting) := by
  have le (l : List Call) : (holdCall l c.id st).countP (fun c => c.state == .waiting) ≤
      l.countP (fun c => c.state == .waiting) := by
    induction l with
    | nil => exact le_rfl
    | cons a l ih =>
      have : (holdCall (a :: l) c.id st) = (if a.id = c.id then { a with state := st } else a) :: holdCall l c.id st := rfl
      rw [this, List.countP_cons, List.countP_cons]
      have : (if (if a.id = c.id then { a with state := st } else a).state == .waiting then 1 else 0) ≤
          (if a.state == .waiting then 1 else 0) := by
        by_cases h : a.id = c.id <;> simp [h, hst]
      omega
  induction q with
  | nil => cases hc
  | cons a l ih =>
    have e : (holdCall (a :: l) c.id st) = (if a.id = c.id then { a with state := st } else a) :: holdCall l c.id st := rfl
    rw [e, List.countP_cons, List.countP_cons]
    rcases List.mem_cons.1 hc with rfl | hm
    · have := le l
      simp [hst, hw]; omega
    · have := ih hm
      have : (if (if a.id = c.id then { a with state := st } else a).state == .waiting then 1 else 0) ≤
          (if a.state == .waiting then 1 else 0) := by
        by_cases h : a.id = c.id <;> simp [h, hst]
      omega

theorem dropCall_waiting (q : List Call) (c : Call) (hc : c ∈ q) (hw : c.state = .waiting) :
    (dropCall q c.id).countP (fun c => c.state == .waiting) < q.countP (fun c => c.state == .waiting) := by
  have le (l : List Call) : (dropCall l c.id).countP (fun c => c.state == .waiting) ≤
      l.countP (fun c => c.state == .waiting) := (List.filter_sublist (l := l)).countP_le
  induction q with
  | nil => cases hc
  | cons a l ih =>
    rcases List.mem_cons.1 hc with rfl | hm
    · have := le l
      simp only [dropCall, bne_self_eq_false, Bool.false_eq_true, not_false_eq_true, List.filter_cons_of_neg,
        List.countP_cons, hw, beq_self_eq_true, if_true]
      simp only [dropCall] at this
      omega
    · have := ih hm
      simp only [dropCall] at this ⊢
      rw [List.filter_cons, List.countP_cons]
      split
      · rw [List.countP_cons]; omega
      · omega

/-- A run of the planner does no more than its Waiting entries ask for: a longer run is the same (R77). -/
theorem State.planFrom_enough (s : State) (w : Winder) (n : Nat) (h : s.waiting w ≤ n) :
    s.planFrom w (n + 1) = s.planFrom w n := by
  induction n generalizing s with
  | zero =>
    unfold State.planFrom
    have : (s.queues.get w).find? (fun c => c.state == .waiting) = none := by
      unfold State.waiting at h
      simpa [List.countP_eq_zero] using h
    rw [this]
  | succ n ih =>
    rw [State.planFrom, State.planFrom]
    cases hf : (s.queues.get w).find? (fun c => c.state == .waiting) with
    | none => rfl
    | some c =>
      have hm := List.mem_of_find?_eq_some hf
      have hw : c.state = .waiting := by simpa using List.find?_some hf
      dsimp only
      cases hv : s.validate w c with
      | hold st =>
        have := holdCall_waiting _ c st (State.validate_hold hv) hm hw
        refine ih _ ?_
        unfold State.waiting at *
        rw [State.withQueue_get_self]
        omega
      | remove r =>
        have := dropCall_waiting _ c hm hw
        refine ih _ ?_
        unfold State.waiting at *
        show List.countP _ ((s.withQueue w (fun q => dropCall q c.id)).queues.get w) ≤ n
        rw [State.withQueue_get_self]
        omega
      | stage t => rfl

/-- Any two runs of at least as many turns as there are Waiting entries are the same. -/
theorem State.planFrom_any (s : State) (w : Winder) {n m : Nat} (hn : s.waiting w ≤ n) (hm : s.waiting w ≤ m) :
    s.planFrom w n = s.planFrom w m := by
  have up : ∀ k, s.planFrom w (s.waiting w + k) = s.planFrom w (s.waiting w) := by
    intro k
    induction k with
    | zero => rfl
    | succ k ih => rw [← ih]; exact s.planFrom_enough w _ (Nat.le_add_right ..)
  obtain ⟨a, rfl⟩ := Nat.exists_eq_add_of_le hn
  obtain ⟨b, rfl⟩ := Nat.exists_eq_add_of_le hm
  rw [up, up]

/-! ## The offer of a staged trip -/

theorem State.endTripRecord_queues (s : State) (w : Winder) (t : Trip) (o : TripOutcome) :
    (s.endTripRecord w t o).queues = s.queues := by
  unfold State.endTripRecord State.endSource; dsimp only; split <;> rfl

theorem State.discardStaged_queues (s : State) (w : Winder) (o : TripOutcome) : (s.discardStaged w o).queues = s.queues := by
  unfold State.discardStaged
  split
  · rfl
  · exact State.endTripRecord_queues ..

theorem State.deliver_queues (s : State) (f : FaultReport) (h : f.severity ≠ .trip) : (s.deliver f).queues = s.queues := by
  unfold State.deliver State.record
  dsimp only
  split
  · next k => exact absurd k h
  all_goals split <;> rfl

theorem State.sendGrant_queues (s : State) (w : Winder) (t : Trip) (l : Leg) : (s.sendGrant w t l).queues = s.queues := rfl

theorem State.setContents_queues (s : State) (k : Skip) (c : Contents) : (s.setContents k c).queues = s.queues := rfl

theorem State.payloadReport_queues (s : State) (k : Skip) (n : Nat) : (s.deliver (payloadReport k n)).queues = s.queues :=
  s.deliver_queues _ (by simp [payloadReport])

theorem State.grantCycle_queues (s : State) (t : Trip) (l : Leg) : (s.grantCycle t l).queues = s.queues := by
  unfold State.grantCycle State.refusePayload
  split
  · rw [State.sendGrant_queues]
  · split
    · rw [State.payloadReport_queues, State.setContents_queues, State.discardStaged_queues]
    · rw [State.sendGrant_queues, State.payloadReport_queues]
    · rw [State.sendGrant_queues]

/-- A trip withdrawn as Held-work brings no Waiting entry back (R90). -/
theorem State.withdrawStaged_waiting (s : State) (w : Winder) :
    (s.withdrawStaged w .heldWork).waiting w ≤ s.waiting w := by
  unfold State.withdrawStaged
  split
  · next c _ =>
    have hb : (s.withPipe w Pipe.unstage).returnedState c.work .heldWork = .heldWork := by
      unfold State.returnedState; split <;> simp
    unfold State.returnCall State.waiting
    rw [hb]
    dsimp only
    split
    · rw [State.withQueue_get_self, List.countP_cons]; simp
    · rw [show ∀ (x : State) i r, (x.recordEnded w i r).queues = x.queues from fun _ _ _ => rfl, State.withQueue_get_self,
        List.countP_cons]
      simpa [dropCall] using (List.filter_sublist (l := s.queues.get w)).countP_le
  · unfold State.waiting; rw [State.discardStaged_queues]

/-- The first offer of a staged trip brings no Waiting entry into the queue (R83). -/
theorem State.offerLeg_waiting (s : State) (w : Winder) (h : (s.pipe w).active = none) :
    (s.offerLeg w).waiting w ≤ s.waiting w := by
  unfold State.offerLeg
  split
  · exact le_rfl
  · split
    · exact le_rfl
    · split
      · exact le_rfl
      · split
        · unfold State.stopOffer; rw [h]; exact s.withdrawStaged_waiting w
        · split
          · unfold State.waiting; rw [State.grantCycle_queues]
          · exact le_rfl

/-- A planner run that leaves a trip staged where there was none has used a Waiting entry up. -/
theorem State.planFrom_waiting (s : State) (w : Winder) (n : Nat) :
    (s.planFrom w n).waiting w ≤ s.waiting w ∧
    ((s.pipe w).staged = none → ((s.planFrom w n).pipe w).staged ≠ none → (s.planFrom w n).waiting w < s.waiting w) := by
  induction n generalizing s with
  | zero => exact ⟨le_rfl, fun h k => absurd h k⟩
  | succ n ih =>
    rw [State.planFrom]
    cases hf : (s.queues.get w).find? (fun c => c.state == .waiting) with
    | none => exact ⟨le_rfl, fun h k => absurd h k⟩
    | some c =>
      have hm := List.mem_of_find?_eq_some hf
      have hw : c.state = .waiting := by simpa using List.find?_some hf
      have hd := dropCall_waiting _ c hm hw
      dsimp only
      cases hv : s.validate w c with
      | hold st =>
        have hh := holdCall_waiting _ c st (State.validate_hold hv) hm hw
        have e : (s.withQueue w (fun q => holdCall q c.id st)).waiting w < s.waiting w := by
          unfold State.waiting; rw [State.withQueue_get_self]; exact hh
        exact ⟨(ih _).1.trans e.le, fun _ _ => lt_of_le_of_lt (ih _).1 e⟩
      | remove r =>
        have e : ((s.withQueue w (fun q => dropCall q c.id)).recordEnded w c.id r).waiting w < s.waiting w := by
          show List.countP _ ((s.withQueue w (fun q => dropCall q c.id)).queues.get w) < _
          rw [State.withQueue_get_self]; exact hd
        exact ⟨(ih _).1.trans e.le, fun _ _ => lt_of_le_of_lt (ih _).1 e⟩
      | stage t =>
        have e : ((s.withQueue w (fun q => dropCall q c.id)).stage w t).waiting w < s.waiting w := by
          show List.countP _ ((s.withQueue w (fun q => dropCall q c.id)).queues.get w) < _
          rw [State.withQueue_get_self]; exact hd
        exact ⟨e.le, fun _ _ => e⟩

theorem State.readyStaged_waiting (s : State) (w v : Winder) : (s.readyStaged v).waiting w = s.waiting w := by
  cases v <;> rfl

theorem State.readyStaged_staged (s : State) (w : Winder) :
    ((s.readyStaged w).pipe w).staged = none ↔ (s.pipe w).staged = none := by
  cases w
  · rfl
  · show Option.map _ _ = none ↔ _
    simp; rfl

theorem State.plan_waiting (s : State) (w : Winder) :
    (s.plan w).waiting w ≤ s.waiting w ∧
    ((s.pipe w).staged = none → ((s.plan w).pipe w).staged ≠ none → (s.plan w).waiting w < s.waiting w) := by
  unfold State.plan
  split
  · rw [State.readyStaged_waiting, Ne, State.readyStaged_staged]
    exact s.planFrom_waiting w _
  · exact ⟨le_rfl, fun h k => absurd h k⟩

/-! ## The end of an event -/

/-- How many more turns the end of an event can take. -/
def State.turns (s : State) (w : Winder) : Nat := s.waiting w + (if (s.pipe w).staged = none then 0 else 1)

theorem State.canOffer_slots {s : State} {w : Winder} (h : s.canOffer w = true) :
    (s.pipe w).active = none ∧ (s.pipe w).staged ≠ none := by
  unfold State.canOffer at h
  split at h
  · cases h
  · next hs =>
    simp only [Bool.and_eq_true, Option.isNone_iff_eq_none] at h
    exact ⟨h.1.1.1.1.1.2, by rw [hs]; simp⟩

/-- A turn after which another follows has used one up. -/
theorem State.turns_drop (s : State) (w : Winder) (h : (s.plan w).canOffer w = true)
    (k : (((s.plan w).offerLeg w).pipe w).staged = none) : ((s.plan w).offerLeg w).turns w < s.turns w := by
  obtain ⟨ha, hs⟩ := State.canOffer_slots h
  have h1 := (s.plan w).offerLeg_waiting w ha
  have h2 := s.plan_waiting w
  unfold State.turns
  rw [if_pos k]
  split
  · next h0 => have := h2.2 h0 hs; omega
  · have := h2.1; omega

/-- One turn: the planner's run, the offer, and another turn where the offer has emptied the staged slot. -/
theorem State.settleFrom_succ (s : State) (w : Winder) (n : Nat) :
    s.settleFrom w (n + 1) =
      if (((s.plan w).tryOffer w).pipe w).staged.isNone && (s.plan w).canOffer w then ((s.plan w).tryOffer w).settleFrom w n
      else (s.plan w).tryOffer w := rfl

/-- Turns beyond those that the end of an event can take do nothing. -/
theorem State.settleFrom_enough (s : State) (w : Winder) (n : Nat) (h : s.turns w < n) :
    s.settleFrom w (n + 1) = s.settleFrom w n := by
  induction n generalizing s with
  | zero => omega
  | succ n ih =>
    rw [s.settleFrom_succ w (n + 1), s.settleFrom_succ w n]
    split
    · next k =>
      simp only [Bool.and_eq_true, Option.isNone_iff_eq_none] at k
      have e : (s.plan w).tryOffer w = (s.plan w).offerLeg w := if_pos k.2
      rw [e] at k ⊢
      have := s.turns_drop w k.2 k.1
      exact ih _ (by omega)
    · rfl

/-- Any two ends of more turns than can be taken are the same. -/
theorem State.settleFrom_any (s : State) (w : Winder) {n m : Nat} (hn : s.turns w < n) (hm : s.turns w < m) :
    s.settleFrom w n = s.settleFrom w m := by
  have up : ∀ k, s.settleFrom w (s.turns w + 1 + k) = s.settleFrom w (s.turns w + 1) := by
    intro k
    induction k with
    | zero => rfl
    | succ k ih => rw [← ih]; exact s.settleFrom_enough w (s.turns w + 1 + k) (by omega)
  obtain ⟨a, rfl⟩ := Nat.exists_eq_add_of_le hn
  obtain ⟨b, rfl⟩ := Nat.exists_eq_add_of_le hm
  rw [Nat.succ_eq_add_one, up, up]

theorem State.turns_le (s : State) (w : Winder) : s.turns w < (s.queues.get w).length + 2 := by
  have := s.waiting_le w
  unfold State.turns
  split <;> omega

end Sys2Proof.Machine
end

