-- ==== Sys2Proof/Laws/Ops.lean ====
section
/-! SUPPORT. The laws of the exact arithmetic, of the numbered tables and of the bounded lists of Ops.lean, Calls.lean and Faults.lean: everything each of them does, said once. -/

namespace Sys2Proof.Machine

/-! ## Exact arithmetic -/

/-- The quotient that `roundDiv` gives is within half a divisor of the number. -/
theorem roundDiv_near (n : Int) {d : Nat} (hd : 0 < d) : 2 * |roundDiv n d * d - n| ≤ d := by
  have hd' : (0 : Int) < d := by exact_mod_cast hd
  unfold roundDiv
  have key : ∀ m : Int, 2 * |(2 * m + d) / (2 * d) * d - m| ≤ d := by
    intro m
    have h1 := Int.emod_add_mul_ediv (2 * m + d) (2 * d)
    have h2 := Int.emod_nonneg (2 * m + d) (show (2 * (d : Int)) ≠ 0 by omega)
    have h3 := Int.emod_lt_of_pos (2 * m + d) (show (0 : Int) < 2 * d by omega)
    generalize (2 * m + d) / (2 * d) = q at *
    generalize (2 * m + (d : Int)) % (2 * d) = r at *
    have : 2 * (q * d - m) = d - r := by linarith [h1, mul_comm (d : Int) q, mul_assoc (2 : Int) d q]
    rw [show (2 : Int) * |q * d - m| = |2 * (q * d - m)| by rw [abs_mul]; rfl, this, abs_le]
    constructor <;> omega
  split
  · exact key n
  · have := key (-n)
    rw [show -((2 * -n + (d : Int)) / (2 * d)) * (d : Int) - n = -((2 * -n + d) / (2 * d) * d - -n) by ring, abs_neg]
    exact this

/-- `ceilDiv n d` is the least number whose d-fold reaches n. -/
theorem ceilDiv_le_iff (n k : Nat) {d : Nat} (hd : 0 < d) : ceilDiv n d ≤ k ↔ n ≤ d * k := by
  unfold ceilDiv
  rw [Nat.div_le_iff_le_mul_add_pred hd]
  constructor
  · intro h; omega
  · intro h; omega

/-- The bits of a square root from a start whose square does not exceed n, with the next start too great. -/
theorem sqrtFrom_spec (n k r : Nat) (lo : r * r ≤ n) (hi : n < (r + 2 ^ k) * (r + 2 ^ k)) :
    sqrtFrom n k r * sqrtFrom n k r ≤ n ∧ n < (sqrtFrom n k r + 1) * (sqrtFrom n k r + 1) := by
  induction k generalizing r with
  | zero => exact ⟨lo, by simpa [sqrtFrom] using hi⟩
  | succ k ih =>
    unfold sqrtFrom
    split
    · next h => exact ih _ h (by rw [show r + 2 ^ k + 2 ^ k = r + 2 ^ (k + 1) by ring]; exact hi)
    · next h => exact ih _ lo (by omega)

/-- The whole square root of a number below 2^64. -/
theorem wholeSqrt_spec {n : Nat} (h : n < 2 ^ 64) :
    wholeSqrt n * wholeSqrt n ≤ n ∧ n < (wholeSqrt n + 1) * (wholeSqrt n + 1) :=
  sqrtFrom_spec n 32 0 (by omega) (by norm_num at *; omega)

/-- A saturated count stays within 32 bits. -/
theorem saturate_le (n : Nat) : saturate n ≤ 4294967295 := Nat.min_le_right ..

/-! ## Numbered tables -/

section Tables
variable {α : Type}

/-- A table whose numbers strictly rise. -/
abbrev Rising (t : List (Nat × α)) : Prop := (t.map (·.1)).Pairwise (· < ·)

@[simp] theorem tableGet_nil (n : Nat) : tableGet ([] : List (Nat × α)) n = none := rfl

theorem tableGet_cons (e : Nat × α) (t : List (Nat × α)) (n : Nat) :
    tableGet (e :: t) n = if e.1 = n then some e.2 else tableGet t n := by
  unfold tableGet
  by_cases h : e.1 = n <;> simp [h]

/-- What a table read gives stands in the table. -/
theorem tableGet_mem {t : List (Nat × α)} {n : Nat} {a : α} (h : tableGet t n = some a) : (n, a) ∈ t := by
  induction t with
  | nil => simp at h
  | cons e t ih =>
    rw [tableGet_cons] at h
    split at h
    · next he => simp only [Option.some.injEq] at h; subst he h; simp
    · exact List.mem_cons_of_mem _ (ih h)

/-- A rising table gives each entry at its own number. -/
theorem tableGet_of_mem {t : List (Nat × α)} (hr : Rising t) {n : Nat} {a : α} (h : (n, a) ∈ t) :
    tableGet t n = some a := by
  induction t with
  | nil => simp at h
  | cons e t ih =>
    rw [tableGet_cons]
    simp only [Rising, List.map_cons, List.pairwise_cons] at hr
    rcases List.mem_cons.1 h with h | h
    · subst h; simp
    · have := hr.1 n (List.mem_map.2 ⟨_, h, rfl⟩)
      rw [if_neg (by omega)]
      exact ih hr.2 h

/-- The members of a table after an entry is put at a number. -/
theorem mem_tablePut {t : List (Nat × α)} {n : Nat} {a : α} {e : Nat × α} (h : e ∈ tablePut t n a) :
    e = (n, a) ∨ e ∈ t := by
  induction t with
  | nil => simpa [tablePut] using h
  | cons x t ih =>
    unfold tablePut at h
    split at h
    · rcases List.mem_cons.1 h with h | h
      · simp [h]
      · rcases ih h with h | h <;> simp [h]
    · split at h
      · rcases List.mem_cons.1 h with h | h <;> simp [h]
      · rcases List.mem_cons.1 h with h | h
        · simp [h]
        · exact .inr h

/-- A table still rises after an entry is put at a number. -/
theorem tablePut_rising {t : List (Nat × α)} (hr : Rising t) (n : Nat) (a : α) : Rising (tablePut t n a) := by
  induction t with
  | nil => simp [tablePut, Rising]
  | cons e t ih =>
    have hr' := hr
    simp only [Rising, List.map_cons, List.pairwise_cons] at hr'
    unfold tablePut
    split
    · next h =>
      simp only [Rising, List.map_cons, List.pairwise_cons]
      refine ⟨fun m hm => ?_, ih hr'.2⟩
      obtain ⟨x, hx, rfl⟩ := List.mem_map.1 hm
      rcases mem_tablePut hx with hx | hx
      · rw [hx]; exact h
      · exact hr'.1 _ (List.mem_map.2 ⟨x, hx, rfl⟩)
    · split
      · next h =>
        simp only [Rising, List.map_cons, List.pairwise_cons]
        exact ⟨fun m hm => h ▸ hr'.1 m hm, hr'.2⟩
      · next h1 h2 =>
        simp only [Rising, List.map_cons, List.pairwise_cons]
        refine ⟨fun m hm => ?_, hr'.1, hr'.2⟩
        rcases List.mem_cons.1 hm with hm | hm
        · omega
        · have := hr'.1 m hm; omega

/-- A read after an entry is put at a number: the entry there, and elsewhere what stood before. -/
theorem tableGet_tablePut {t : List (Nat × α)} (hr : Rising t) (n m : Nat) (a : α) :
    tableGet (tablePut t n a) m = if m = n then some a else tableGet t m := by
  induction t with
  | nil =>
    simp only [tablePut, tableGet_cons, tableGet_nil]
    by_cases h : m = n
    · simp [h]
    · simp [h, Ne.symm h]
  | cons e t ih =>
    have hr' := hr
    simp only [Rising, List.map_cons, List.pairwise_cons] at hr'
    unfold tablePut
    split
    · next h =>
      rw [tableGet_cons, ih hr'.2, tableGet_cons]
      by_cases hm : m = n
      · subst hm; rw [if_neg (by omega)]; simp
      · simp [hm]
    · split
      · next h =>
        rw [tableGet_cons, tableGet_cons]
        by_cases hm : m = n
        · simp [hm]
        · rw [if_neg (by simpa [eq_comm] using hm), if_neg hm, if_neg (by omega)]
      · rw [tableGet_cons]
        by_cases hm : m = n
        · simp [hm]
        · simp [hm, Ne.symm hm]

/-- A table still rises after a number is freed. -/
theorem tableDrop_rising {t : List (Nat × α)} (hr : Rising t) (n : Nat) : Rising (tableDrop t n) :=
  List.Pairwise.sublist (List.Sublist.map _ (List.filter_sublist)) hr

/-- A read after a number is freed: nothing there, and elsewhere what stood before. -/
theorem tableGet_tableDrop (t : List (Nat × α)) (n m : Nat) :
    tableGet (tableDrop t n) m = if m = n then none else tableGet t m := by
  induction t with
  | nil => simp [tableDrop]
  | cons e t ih =>
    unfold tableDrop at *
    by_cases he : e.1 = n
    · rw [List.filter_cons_of_neg (by simp [he]), ih, tableGet_cons]
      by_cases hm : m = n
      · simp [hm]
      · rw [if_neg hm, if_neg hm, if_neg (by omega)]
    · rw [List.filter_cons_of_pos (by simp [he]), tableGet_cons, tableGet_cons, ih]
      by_cases hm : m = n
      · subst hm; simp [he]
      · simp [hm]

/-- The lowest free number, where there is one, lies in its range, is free, and every number of the range below it is
taken. -/
theorem lowestFree_some {t : List (Nat × α)} {from_ count n : Nat} (h : lowestFree t from_ count = some n) :
    from_ ≤ n ∧ n < from_ + count ∧ tableGet t n = none ∧ ∀ m, from_ ≤ m → m < n → tableGet t m ≠ none := by
  induction count generalizing from_ with
  | zero => simp [lowestFree] at h
  | succ count ih =>
    unfold lowestFree at h
    split at h
    · next hf =>
      simp only [Option.some.injEq] at h
      subst h
      exact ⟨le_refl _, by omega, by simpa using hf, fun m h1 h2 => by omega⟩
    · next hf =>
      obtain ⟨h1, h2, h3, h4⟩ := ih h
      refine ⟨by omega, by omega, h3, fun m hm hn => ?_⟩
      rcases Nat.eq_or_lt_of_le hm with he | hl
      · subst he; simpa using hf
      · exact h4 m hl hn

/-- Where no number is free, every number of the range is taken. -/
theorem lowestFree_none {t : List (Nat × α)} {from_ count : Nat} (h : lowestFree t from_ count = none) :
    ∀ m, from_ ≤ m → m < from_ + count → tableGet t m ≠ none := by
  induction count generalizing from_ with
  | zero => intro m h1 h2; omega
  | succ count ih =>
    unfold lowestFree at h
    split at h
    · simp at h
    · next hf =>
      intro m hm hn
      rcases Nat.eq_or_lt_of_le hm with he | hl
      · subst he; simpa using hf
      · exact ih h m hl (by omega)

end Tables

/-! ## Bounded lists -/

/-- An ended-call list never holds more than 16 entries (R64). -/
theorem addEnded_length_le (l : List Ended) (e : Ended) (h : l.length ≤ 16) : (addEnded l e).length ≤ 16 := by
  unfold addEnded; simp only [List.length_append, List.length_drop, List.length_cons, List.length_nil]; omega

/-- The entry just added stands last. -/
@[simp] theorem addEnded_getLast (l : List Ended) (e : Ended) : (addEnded l e).getLast? = some e := by
  simp [addEnded]

/-- What recording an entry does, in full (R154, R155). -/
theorem State.record_eq (s : State) (e : FaultEntry) :
    s.record e = { s with
      primary := primaryAfter s.primary e
      faults := if s.faults.length < 16 then s.faults ++ [e] else s.faults
      overflow := if s.faults.length < 16 then s.overflow else min 255 (s.overflow + 1) } := by
  unfold State.record; split <;> rfl

/-- A Stop or a Note is only recorded (R156). -/
theorem State.deliver_minor (s : State) (f : FaultReport) (h : f.severity ≠ .trip) : s.deliver f = s.record (s.entryOf f) := by
  unfold State.deliver
  split
  · next h' => exact absurd h' h
  all_goals rfl

end Sys2Proof.Machine
end

