-- ==== Sys2Proof/Laws/Wire.lean ====
section
/-! SUPPORT. The bytes of a zone set: the list of its numbers where it fits, and else a map in which a number's bit tells whether it is in the set; and the room that they take. -/

namespace Sys2Proof.Machine

/-- The list of a set takes a byte for their count and one for each number. -/
theorem listed_u8_length (set : List Nat) : (listed u8 set).length = 1 + set.length := by
  simp [listed, u8]; omega

/-- A set whose list fits goes as that list. -/
theorem zoneSetBytes_list {room : Nat} {set : List Nat} (h : 1 + set.length ≤ room) :
    zoneSetBytes room set = listed u8 set := by
  simp [zoneSetBytes, listed_u8_length, h]

/-- A longer set goes as the byte 255 and the eight bytes of its map. -/
theorem zoneSetBytes_map {room : Nat} {set : List Nat} (h : room < 1 + set.length) :
    zoneSetBytes room set = 255#8 :: (List.range 8).flatMap (zoneMapByte set) := by
  simp [zoneSetBytes, listed_u8_length, Nat.not_le.2 h, u8]

/-- No zone set takes more bytes than there are, where there are at least the nine of its map. -/
theorem zoneSetBytes_length {room : Nat} (h : 9 ≤ room) (set : List Nat) : (zoneSetBytes room set).length ≤ room := by
  unfold zoneSetBytes
  split
  · assumption
  · simpa [zoneMapByte, u8] using h

/-- Each bit of a map's byte tells whether its number is in the set. -/
theorem zoneMapByte_bit (set : List Nat) (place : Nat) {i : Nat} (h : i < 8) :
    ((zoneMapByte set place).getD 0 0#8).getLsbD i = set.contains (8 * place + i) := by
  have bits : ∀ b : Fin 8 → Bool, ∀ i : Fin 8,
      (BitVec.ofNat 8 ((if b 0 then 2 ^ 0 else 0) + ((if b 1 then 2 ^ 1 else 0) + ((if b 2 then 2 ^ 2 else 0) +
        ((if b 3 then 2 ^ 3 else 0) + ((if b 4 then 2 ^ 4 else 0) + ((if b 5 then 2 ^ 5 else 0) +
        ((if b 6 then 2 ^ 6 else 0) + ((if b 7 then 2 ^ 7 else 0) + 0))))))))).getLsbD i = b i := by
    decide +kernel
  exact bits (fun i => set.contains (8 * place + i)) ⟨i, h⟩

/-- A map tells, for each number below 64, whether it is in the set. -/
theorem zoneMap_bit (set : List Nat) {n : Nat} (h : n < 64) :
    (((List.range 8).flatMap (zoneMapByte set)).getD (n / 8) 0#8).getLsbD (n % 8) = true ↔ n ∈ set := by
  have place : ((List.range 8).flatMap (zoneMapByte set)).getD (n / 8) 0#8 = (zoneMapByte set (n / 8)).getD 0 0#8 := by
    have : n / 8 < 8 := by omega
    generalize n / 8 = p at this
    interval_cases p <;> rfl
  rw [place, zoneMapByte_bit set _ (Nat.mod_lt _ (by decide)), Nat.div_add_mod]
  simp

end Sys2Proof.Machine
end

