-- ==== Sys2Proof/WellFormed.lean ====
section
/-! DEFINITION. What a command can carry: each field within the width its layout gives it (R165, R174), and each frame
event of the kind its row names. Values inside these widths that no code assigns are well-formed and are refused by the
part itself (R167). -/

namespace Sys2Proof

/-- A field of one byte. -/
def isU8 (n : Nat) : Bool := decide (n < 256)

/-- A field of two bytes. -/
def isU16 (n : Nat) : Bool := decide (n < 65536)

/-- A field of four bytes. -/
def isU32 (n : Nat) : Bool := decide (n < 4294967296)

/-- A signed field of two bytes. -/
def isI16 (n : Int) : Bool := decide (-32768 ≤ n ∧ n ≤ 32767)

/-- A signed field of four bytes. -/
def isI32 (n : Int) : Bool := decide (-2147483648 ≤ n ∧ n ≤ 2147483647)

/-- A list of one-byte items, with a one-byte count. -/
def isBytes (l : List Nat) : Bool := isU8 l.length && l.all isU8

/-- A field after a presence byte: the field in its width where it is present, and otherwise a byte (R174). -/
def Presence.wf {α : Type} (inWidth : α → Bool) : Presence α → Bool
  | .absent => true
  | .present a => inWidth a
  | .unassigned code => isU8 code && decide (2 ≤ code)

/-- A request's head: a one-byte tag, and a body length that a frame can have (R165, R166). -/
def Head.wf (h : Head) : Bool := isU8 h.tag && decide (h.length ≤ 96)

/-- A drum's part of a report (section 11.6). -/
def DrumReading.wf (r : DrumReading) : Bool := isI32 r.count && isI16 r.speed && isU16 r.load

/-- A report's body has drum 1's part where it is the rock drive's 20 bytes, and not otherwise (section 11.6). -/
def ReportBody.wf (h : Head) (b : ReportBody) : Bool :=
  isU8 b.driveState && isU8 b.faultCode && isU8 b.brakeState && isU8 b.clutchState && b.first.wf &&
  (match b.second with
   | none => h.length != 20
   | some r => r.wf && h.length == 20)

/-- The body of MANUAL TRIP (R93). -/
def ManualBody.wf : ManualBody → Bool
  | .service station decks cls riders payload =>
    isU8 station && isBytes decks && isU8 cls && riders.wf isBytes && payload.wf isU16
  | .rock rising => isU8 rising
  | .other winder => isU8 winder && decide (2 ≤ winder)

/-- The tracking settings in their widths (R174). -/
def Tracking.wf (t : Tracking) : Bool :=
  isU8 t.growth && isU16 t.coldBand && isU16 t.creepThreshold && isU16 t.ambiguity && isU16 t.warn && isU16 t.trip &&
  isU16 t.standstill && isU16 t.unpermitted && isU16 t.pair

/-- A link other than the two drive links. -/
def Link.isPartner : Link → Bool
  | .console | .signal | .ore => true
  | .rockDrive | .serviceDrive => false

/-- Whether a command is one that can reach the part. -/
def Instr.wf : Instr → Bool
  | .powerOn | .assemblyTimeout | .snapshotExpiry | .clutchTimerExpiry => true
  | .emergencyStopAsserted _ | .emergencyStopCleared _ | .maintenanceKeyChange _ | .commissioningInputChange _ => true
  | .shaftWorkRecordWriteEnd _ | .commitWriteEnd _ => true
  | .stopNotAchieved _ | .driveReportTimeout _ | .settleExpiry _ | .underTimerExpiry _ | .tripOvertime _ => true
  | .backoffEnd _ => true
  | .markerPass _ code => isU8 code
  | .damagedFrame _ bytes => !bytes.isEmpty
  | .strayReplyFrame link kind tag => link.isPartner && Machine.isReplyKind kind && isU8 tag
  | .unlistedKindRequest link kind tag =>
    isU8 kind && isU8 tag && !Machine.isReplyKind kind && !Machine.kindNumberListed kind link
  | .call h station cls decks riders payload priority =>
    h.wf && isU8 station && isU8 cls && isBytes decks && riders.wf isBytes && payload.wf isU16 && isU8 priority
  | .openCall h station cls => h.wf && isU8 station && isU8 cls
  | .addDeck h deck => h.wf && isU8 deck
  | .closeCall h riders payload => h.wf && riders.wf isBytes && payload.wf isU16
  | .cancelCall h winder id | .queryCall h winder id => h.wf && isU8 winder && isU8 id
  | .endedCallExpiry _ id => isU8 id
  | .ready h trip leg => h.wf && isU16 trip && isU8 leg
  | .grantReply _ tag code | .grantVoidReply _ tag code | .noticeReply _ _ tag code | .clutchReply _ _ tag code =>
    isU8 tag && isU8 code
  | .grantReplyTimeout _ tag => isU8 tag
  | .requestReplyTimeout _ kind tag =>
    isU8 tag && [Kind.grantVoid, .slow, .resume, .stopNotice, .brake, .clutchOpen, .clutchClose].contains kind
  | .barStation h n | .queryBar h n | .removeWorkZone h n | .cycle h n | .tipped h n | .querySkip h n
  | .removeZone h n | .readZone h n | .readStation h n | .readRockPoint h n | .readClass h n
  | .removeMarker h n | .readMarker h n | .readPosition h n | .readFaults h n | .driveFault h n => h.wf && isU8 n
  | .stop h w | .tripStatus h w | .release h w | .hold h w | .clearHeld h w | .winderReset h w
  | .acknowledgeTrip h w | .releaseLockout h w | .readWinder h w | .readCap h w | .restartTracking h w
  | .readSettle h w | .readEnvelope h w | .clearIndications h w | .setEnvelopeLock h w | .setTripLock h w
  | .stopMonitor h w | .startMonitor h w => h.wf && isU8 w
  | .clearBars h | .readGeometry h | .readTracking h | .readPayload h | .clearFaults h | .readCounters h
  | .clearCounters h | .commit h | .identify h => h.wf
  | .addWorkZone h mask upper lower label => h.wf && isU8 mask && isI32 upper && isI32 lower && isBytes label
  | .loaded h skip mass => h.wf && isU8 skip && isU16 mass
  | .setMode h w mode => h.wf && isU8 w && isU8 mode
  | .manualTrip h body => h.wf && body.wf
  | .inspectTrip h conveyance target => h.wf && isU8 conveyance && isI32 target
  | .readQueue h w first => h.wf && isU8 w && isU8 first
  | .writeZone h number kind mask upper lower cap label =>
    h.wf && number.wf isU8 && isU8 kind && isU8 mask && isI32 upper && isI32 lower && cap.wf isU16 && isBytes label
  | .writeGeometry h pitch span => h.wf && pitch.wf isU16 && span.wf isU32
  | .writeStation h station depth window decks inService =>
    h.wf && isU8 station && depth.wf isI32 && isU8 window && isU8 decks && isU8 inService
  | .writeRockPoint h point depth window => h.wf && isU8 point && depth.wf isI32 && window.wf isU8
  | .writeClass h cls speed decel limit => h.wf && isU8 cls && isU16 speed && isU16 decel && isU16 limit
  | .writeTracking h settings => h.wf && settings.wf
  | .writeDrumScale h drum scale => h.wf && isU8 drum && isU32 scale
  | .setReference h drum depth => h.wf && isU8 drum && isI32 depth
  | .writeMarker h id compartment depth accuracy =>
    h.wf && isU8 id && isU8 compartment && isI32 depth && isU8 accuracy
  | .writeOfferLimit h w limit => h.wf && isU8 w && isU8 limit
  | .writeReportInterval h w interval => h.wf && isU8 w && isU16 interval
  | .writeSettle h w base cap => h.wf && isU8 w && isU16 base && isU8 cap
  | .rePair h pocket free => h.wf && isU8 pocket && isU8 free
  | .setSkipContents h skip contents mass => h.wf && isU8 skip && isU8 contents && mass.wf isU16
  | .writePayload h tolerance action => h.wf && isU16 tolerance && isU8 action
  | .writeEnvelope h w hysteresis mode under margin =>
    h.wf && isU8 w && isU16 hysteresis && isU8 mode && isU8 under && isU8 margin
  | .positionReport h body => h.wf && body.wf h
  | .legComplete h trip leg => h.wf && isU16 trip && isU8 leg

end Sys2Proof
end

