-- ==== Sys2Proof/Tests/Slice0.lean ====
section
/-! SUPPORT. The package's own tests: what WellFormed refuses, one step of a few commands of each family, and, for each
obligation with hypotheses, a state and operands that meet them. -/

namespace Sys2Proof.Machine.Slice0

-- One theorem after the other: run side by side, so many evaluations by the kernel take more threads than the memory allows.
set_option Elab.async false

/-! ## Well-formedness -/

/-- A request head of the console link. -/
def con (length : Nat) : Head := ⟨.console, 7, length⟩

/-- A request head of the signal link. -/
def sig (length : Nat) : Head := ⟨.signal, 8, length⟩

/-- A request head of the ore link. -/
def ore (length : Nat) : Head := ⟨.ore, 9, length⟩

/-- A request head of the rock drive's link. -/
def rockDrive (length : Nat) : Head := ⟨.rockDrive, 10, length⟩

/-- A request head of the service drive's link. -/
def serviceDrive (length : Nat) : Head := ⟨.serviceDrive, 11, length⟩

/-- Tracking settings with one field too wide. -/
def wide : Tracking := { trackingDefaults with pair := 65536 }

/-- A drum at rest at count 0. -/
def restReading : DrumReading := ⟨0, 0, 1000⟩

/-- The body of a service report at rest. -/
def serviceBody : ReportBody := ⟨0, 0, 0, 0, restReading, none⟩

theorem test_wf_refuses_heads :
    [Instr.identify ⟨.console, 256, 0⟩, .identify ⟨.console, 0, 97⟩, .clearBars (con 97), .readGeometry (con 97),
     .readTracking (con 97), .readPayload (con 97), .clearFaults (con 97), .readCounters (con 97), .clearCounters (con 97),
     .commit (con 97)].all (fun c => !c.wf) = true := by decide

theorem test_wf_refuses_frames :
    [Instr.markerPass .cage 256, .damagedFrame .console [], .strayReplyFrame .rockDrive 129 0,
     .strayReplyFrame .console 128 0, .strayReplyFrame .console 211 0, .strayReplyFrame .console 129 256,
     .unlistedKindRequest .console 256 0, .unlistedKindRequest .console 83 256, .unlistedKindRequest .console 130 0,
     .unlistedKindRequest .console 1 0, .unlistedKindRequest .rockDrive 80 0].all (fun c => !c.wf) = true := by decide

theorem test_wf_refuses_calls :
    [Instr.call (sig 97) 1 1 [0] .absent .absent 0, .call (sig 8) 256 1 [0] .absent .absent 0,
     .call (sig 8) 1 256 [0] .absent .absent 0,
     .call (sig 8) 1 1 [256] .absent .absent 0, .call (sig 8) 1 1 [0] (.present [256]) .absent 0,
     .call (sig 8) 1 1 [0] .absent (.present 65536) 0, .call (sig 8) 1 1 [0] .absent .absent 256, .openCall (sig 2) 256 1,
     .openCall (sig 2) 1 256, .addDeck (sig 1) 256, .closeCall (sig 2) (.present [256]) .absent,
     .closeCall (sig 2) .absent (.present 65536),
     .cancelCall (con 2) 256 1, .queryCall (con 2) 0 256, .endedCallExpiry .rock 256, .ready (sig 3) 65536 1,
     .ready (sig 3) 1 256].all (fun c => !c.wf) = true := by decide

theorem test_wf_refuses_replies :
    [Instr.grantReply .rock 256 1, .grantReply .rock 0 256, .grantVoidReply .rock 256 1, .noticeReply .rock .slow 0 256,
     .clutchReply .rock .openClutch 256 1, .grantReplyTimeout .rock 256, .requestReplyTimeout .rock .slow 256,
     .requestReplyTimeout .rock .grant 0].all (fun c => !c.wf) = true := by decide

theorem test_wf_refuses_one_field_requests :
    [Instr.barStation (con 1) 256, .queryBar (con 1) 256, .removeWorkZone (con 1) 256, .cycle (ore 1) 256,
     .tipped (ore 1) 256, .querySkip (ore 1) 256, .removeZone (con 1) 256, .readZone (con 1) 256, .readStation (con 1) 256,
     .readRockPoint (con 1) 256, .readClass (con 1) 256, .removeMarker (con 1) 256, .readMarker (con 1) 256,
     .readPosition (con 1) 256, .readFaults (con 1) 256, .driveFault (rockDrive 1) 256, .stop (con 1) 256,
     .tripStatus (con 1) 256, .release (con 1) 256, .hold (con 1) 256, .clearHeld (con 1) 256, .winderReset (con 1) 256,
     .acknowledgeTrip (con 1) 256, .releaseLockout (con 1) 256, .readWinder (con 1) 256, .readCap (con 1) 256,
     .restartTracking (con 1) 256, .readSettle (con 1) 256, .readEnvelope (con 1) 256, .clearIndications (con 1) 256,
     .setEnvelopeLock (con 1) 256, .setTripLock (con 1) 256, .stopMonitor (con 1) 256, .startMonitor (con 1) 256].all
      (fun c => !c.wf) = true := by decide

theorem test_wf_refuses_zone_and_trip_requests :
    [Instr.addWorkZone (sig 9) 256 0 1 [], .addWorkZone (sig 9) 1 (-2147483649) 1 [], .addWorkZone (sig 9) 1 0 2147483648 [],
     .addWorkZone (sig 9) 1 0 1 [256], .loaded (ore 3) 256 1, .loaded (ore 3) 1 65536, .setMode (con 2) 256 0,
     .setMode (con 2) 0 256, .manualTrip (con 2) (.rock 256), .manualTrip (con 1) (.other 1), .manualTrip (con 1) (.other 256),
     .manualTrip (con 5) (.service 256 [0] 1 .absent .absent), .manualTrip (con 5) (.service 1 [256] 1 .absent .absent),
     .manualTrip (con 5) (.service 1 [0] 256 .absent .absent), .manualTrip (con 5) (.service 1 [0] 1 (.present [256]) .absent),
     .manualTrip (con 5) (.service 1 [0] 1 .absent (.present 65536)), .inspectTrip (con 5) 256 0, .inspectTrip (con 5) 0 2147483648,
     .readQueue (con 2) 256 1, .readQueue (con 2) 0 256, .writeZone (con 13) (.present 256) 1 1 0 1 .absent [],
     .writeZone (con 13) .absent 256 1 0 1 .absent [], .writeZone (con 13) .absent 1 256 0 1 .absent [],
     .writeZone (con 13) .absent 1 1 2147483648 1 .absent [], .writeZone (con 13) .absent 1 1 0 2147483648 .absent [],
     .writeZone (con 13) .absent 1 1 0 1 (.present 65536) [], .writeZone (con 13) .absent 1 1 0 1 .absent [256]].all
      (fun c => !c.wf) = true := by decide

theorem test_wf_refuses_settings_writes :
    [Instr.writeGeometry (con 4) (.present 65536) .absent, .writeGeometry (con 6) .absent (.present 4294967296),
     .writeStation (con 5) 256 .absent 40 7 1, .writeStation (con 9) 1 (.present 2147483648) 40 7 1,
     .writeStation (con 5) 1 .absent 256 7 1,
     .writeStation (con 5) 1 .absent 40 256 1, .writeStation (con 5) 1 .absent 40 7 256, .writeRockPoint (con 3) 256 .absent .absent,
     .writeRockPoint (con 7) 0 (.present 2147483648) .absent, .writeRockPoint (con 4) 0 .absent (.present 256),
     .writeClass (con 7) 256 500 500 60, .writeClass (con 7) 0 65536 500 60, .writeClass (con 7) 0 500 65536 60,
     .writeClass (con 7) 0 500 500 65536, .writeTracking (con 17) wide, .writeDrumScale (con 5) 256 1000,
     .writeDrumScale (con 5) 0 4294967296, .setReference (con 5) 256 0, .setReference (con 5) 0 2147483648,
     .writeMarker (con 7) 256 0 0 5, .writeMarker (con 7) 1 256 0 5, .writeMarker (con 7) 1 0 2147483648 5,
     .writeMarker (con 7) 1 0 0 256, .writeOfferLimit (con 2) 256 1, .writeOfferLimit (con 2) 0 256,
     .writeReportInterval (con 3) 256 20, .writeReportInterval (con 3) 0 65536, .writeSettle (con 4) 256 500 0,
     .writeSettle (con 4) 0 65536 0, .writeSettle (con 4) 0 500 256].all (fun c => !c.wf) = true := by decide

theorem test_wf_refuses_rock_envelope_and_drive_requests :
    [Instr.rePair (con 2) 256 0, .rePair (con 2) 0 256, .setSkipContents (con 3) 256 1 .absent,
     .setSkipContents (con 3) 0 256 .absent,
     .setSkipContents (con 5) 0 2 (.present 65536), .writePayload (con 3) 65536 0, .writePayload (con 3) 200 256,
     .writeEnvelope (con 6) 256 0 0 10 5, .writeEnvelope (con 6) 0 65536 0 10 5, .writeEnvelope (con 6) 0 0 256 10 5,
     .writeEnvelope (con 6) 0 0 0 256 5, .writeEnvelope (con 6) 0 0 0 10 256,
     .positionReport (serviceDrive 12) { serviceBody with driveState := 256 },
     .positionReport (serviceDrive 12) { serviceBody with faultCode := 256 },
     .positionReport (serviceDrive 12) { serviceBody with brakeState := 256 },
     .positionReport (serviceDrive 12) { serviceBody with clutchState := 256 },
     .positionReport (serviceDrive 12) { serviceBody with first := ⟨2147483648, 0, 0⟩ },
     .positionReport (serviceDrive 12) { serviceBody with first := ⟨0, 32768, 0⟩ },
     .positionReport (serviceDrive 12) { serviceBody with first := ⟨0, 0, 65536⟩ },
     .positionReport (rockDrive 20) serviceBody, .positionReport (serviceDrive 12) { serviceBody with second := some restReading },
     .legComplete (rockDrive 3) 65536 1, .legComplete (rockDrive 3) 1 256].all (fun c => !c.wf) = true := by decide

theorem test_wf_refuses_presence_bytes :
    [Instr.call (sig 8) 1 1 [0] (.unassigned 1) .absent 0, .call (sig 8) 1 1 [0] .absent (.unassigned 256) 0,
     .closeCall (sig 2) (.unassigned 0) .absent, .closeCall (sig 2) .absent (.unassigned 1),
     .manualTrip (con 5) (.service 1 [0] 1 (.unassigned 256) .absent),
     .manualTrip (con 5) (.service 1 [0] 1 .absent (.unassigned 1)), .writeZone (con 13) (.unassigned 1) 1 1 0 1 .absent [],
     .writeZone (con 13) .absent 1 1 0 1 (.unassigned 256) [], .writeGeometry (con 2) (.unassigned 1) .absent,
     .writeGeometry (con 2) .absent (.unassigned 256), .writeStation (con 5) 1 (.unassigned 0) 40 7 1,
     .writeRockPoint (con 3) 0 (.unassigned 1) .absent, .writeRockPoint (con 3) 0 .absent (.unassigned 256),
     .setSkipContents (con 3) 0 2 (.unassigned 1)].all (fun c => !c.wf) = true := by decide

theorem test_wf_accepts :
    [Instr.identify (con 0), .writeGeometry (con 2) (.unassigned 2) (.unassigned 255), .closeCall (sig 2) .absent (.present 65535),
     .strayReplyFrame .console 210 255, .unlistedKindRequest .console 83 255,
     .positionReport (serviceDrive 12) serviceBody, .positionReport (rockDrive 20) { serviceBody with second := some restReading },
     .manualTrip (con 1) (.other 2), .markerPass .cage 255, .damagedFrame .ore [⟨false, 0#8⟩]].all (·.wf) = true := by decide

/-! ## Small states -/

/-- What a command leaves. -/
def after (c : Instr) (s : State) : State :=
  match exec c s with
  | .next t => t
  | .fault _ | .refused _ => s

/-- The code of the last reply in `sent`. -/
def lastCode (s : State) : Option Code :=
  match s.sent.getLast? with
  | some (.reply _ _ _ r) => some r.code
  | some (.order _ _ _) | none => none

/-- A Valid record at rest at a depth. -/
def standing (depth : Int) : Position :=
  { Position.atPowerOn 600 0 with
    estimate := some depth, reportEstimate := some depth, band := 20, base := 10, state := .valid, motionRef := some depth }

/-- A service report at rest. -/
def serviceReport : Report := ⟨99990, .ready, 0, .applied, none, restReading, restReading⟩

/-- A rock report at rest, the clutch closed. -/
def rockReport : Report := ⟨99990, .ready, 0, .applied, some .closed, restReading, restReading⟩

/-- A station in service at a depth. -/
def served (depth : Int) : Station := ⟨some depth, 40, DeckSet.all, true⟩

/-- A configured part at rest: the cage at 0, skip 0 at the tip, skip 1 loaded at pocket A, the drums clutched. -/
def ground : State :=
  { State.reset with
    now := 100000
    unconfigured := false
    faults := []
    startupCheck := false
    commissioning := true
    bars := Vector.replicate 16 false
    work := { Settings.defaults with
      stations := Settings.defaults.stations.set 1 (served 500000)
      markers := [⟨7, .cage, 100000, 20⟩] }
    positions := ⟨standing 0, standing 3110000, standing (-28000), standing 2960000⟩
    reports := ⟨some serviceReport, some rockReport⟩
    drumDepth := ⟨some 0, some (-28000), some 2960000⟩
    pairing := .paired .a
    clutch := some .closed
    skips := ⟨⟨.empty, 0⟩, ⟨.loaded 1000, 0⟩⟩ }

/-- A winder record in a state. -/
def inState (st : WinderState) : WinderRecord :=
  { WinderRecord.atPowerOn with state := st, permit := st.isMotion, brakeDemand := st.demandsBrake, reportInState := true }

/-- The part with its service winder in a state. -/
def service (st : WinderState) : State := { ground with winders := ⟨inState st, inState .parked⟩ }

/-- The part with its rock winder in a state. -/
def rock (st : WinderState) : State := { ground with winders := ⟨inState .parked, inState st⟩ }

/-- A leg of a cage trip in a state, its re-level count given. -/
def cageLeg (st : LegState) (relevels : Nat) : Leg :=
  ⟨[⟨.cage, 500000, some 40⟩, ⟨.counterweight, 2610000, some 40⟩], .cage, some .upper, .men, .descending, relevels, st⟩

/-- A call to station 1 for the upper deck. -/
def upperCall (id : Nat) (st : CallState) : Call := ⟨id, .console, .cage 1 .men [.upper] (some [5]) none, false, st, 0⟩

/-- Trip 3, for call 3, its one leg in a state. -/
def cageTrip (st : LegState) : Trip :=
  { Trip.built 3 .cage .men [cageLeg st 0] with source := some (upperCall 3 .waiting), station := some 1 }

/-- Trip 5, a rock cycle with skip 1 rising. -/
def cycleTrip : Trip :=
  { Trip.built 5 .rockCycle .rock (ground.cycleLegs .skip1) with
    source := some ⟨2, .ore, .cycle .skip1, false, .waiting, 0⟩ }

/-- The part with trip 3 active in a state of the winder and of its leg. -/
def active (st : WinderState) (leg : LegState) : State :=
  let s := service st
  { s with pipes := s.pipes.set .service { Pipe.atPowerOn with active := some (cageTrip leg), lastTrip := 3 } }

/-- The part in IDLE with trip 3 staged. -/
def staged : State :=
  let s := service .idle
  { s with pipes := s.pipes.set .service { Pipe.atPowerOn with staged := some (cageTrip .pending), lastTrip := 3 } }

/-- The part in IDLE with trip 3 staged, its GRANT of tag 0 awaited until a reading. -/
def offered (expiry : Time) : State :=
  { staged with
    pipes := staged.pipes.set .service { staged.pipe .service with offer := some (.awaiting 0 expiry) }
    drives := staged.drives.set .service ⟨1, [⟨.grant, 0, expiry⟩], [⟨0, 3, 1⟩]⟩ }

/-- The part with calls queued for the service winder. -/
def queued (calls : List Call) : State := { ground with queues := ⟨calls, []⟩ }

/-- The part with a zone of a kind in the shaft, at number 20. -/
def zoned (kind : ZoneKind) (upper lower : Int) : State :=
  { ground with zones := [(20, ⟨kind, ⟨true, true, false, false⟩, upper, lower, some 500, []⟩)] }

/-- The rock winder in CLUTCHING with a re-pair in a phase. -/
def clutching (phase : RePairPhase) : State :=
  let s := rock .clutching
  { s with
    repair := some ⟨phase, .b, .skip1, none⟩
    pairing := .unpaired
    pipes := s.pipes.set .rock { Pipe.atPowerOn with
      active := some (Trip.built 6 .rePair .rePair [s.freeLeg .skip1 .b 6]), lastTrip := 6 } }

/-- A page of faults held for its later pages. -/
def held (kind : ReadKind) : State :=
  { ground with snapshot := some ⟨kind, .faults 0, [.primary none, .primary none], 98000⟩ }

/-- The state a trip fault of the service winder is taken in, as a report. -/
def tripReport (kind : FaultKind) (detail : Option Int) : FaultReport :=
  ⟨kind, .trip, .service, some .cage, none, none, detail⟩

/-- The part with trip 5 active in a state of the rock winder and of its leg. -/
def cycling (st : WinderState) (leg : LegState) : State :=
  let s := rock st
  { s with pipes := s.pipes.set .rock { Pipe.atPowerOn with
      active := some (cycleTrip.withLeg (fun l => { l with state := leg })), lastTrip := 5 } }

/-- The part with its rock winder in IDLE and trip 5 staged. -/
def cycleStaged : State :=
  let s := rock .idle
  { s with pipes := s.pipes.set .rock { Pipe.atPowerOn with staged := some cycleTrip, lastTrip := 5 } }

/-- A property of what an option holds, from the test of it. -/
theorem held_of {α : Type} {o : Option α} {p : α → Prop} [DecidablePred p] (h : o.all (fun a => decide (p a)) = true) :
    ∀ a, o = some a → p a := by
  intro a e
  subst e
  simpa using h

/-! ## The hypotheses of the obligations are met, clause by clause -/

theorem test_hyp_StepTakesTheFrontCommand :
    ({ State.reset with pending := [.commit (con 0), .powerOn] } : State).pending = .commit (con 0) :: [.powerOn] := rfl

theorem test_hyp_IdleStepIsOneMillisecond : State.reset.pending = [] ∧ (active .running .moving).pending = [] := ⟨rfl, rfl⟩

theorem test_hyp_EveryCommandCompletes : Instr.commit (con 0) ≠ .powerOn := by decide

/-- The invariants hold of a state in which a step takes a command. -/
theorem test_hyp_Invariants :
    let s := { active .running .moving with pending := [.stop (con 1) 0], queues := ⟨List.replicate 24 (upperCall 1 .heldBar), []⟩ }
    (s.outputsAgree = true ∧ s.fieldsAgree = true ∧ s.faultsBounded = true ∧ s.endedBounded = true ∧
      s.zonesSound = true ∧ s.settingsInRange = true ∧ s.tripsAgree = true ∧ s.queuesBounded = true) ∧
    ∃ t, step s = .next t := ⟨by decide +kernel, _, rfl⟩

/-- The slots and the bound of the queues tell states apart: a trip active in IDLE, none in RUNNING, one staged in STOPPING or
with a hold pending, a re-pair of paired skips, and a queue that is full with the staged slot occupied. -/
theorem test_invariants_tell :
    let stopping : State := { staged with winders := ⟨inState .stopping, inState .parked⟩ }
    let holding : State := { staged with winders := ⟨{ inState .idle with holdPending := true }, inState .parked⟩ }
    let full : State := { staged with queues := ⟨List.replicate 24 (upperCall 1 .heldBar), []⟩ }
    staged.tripsAgree = true ∧ (clutching .opening).tripsAgree = true ∧ (cycling .running .moving).tripsAgree = true ∧
    (active .idle .moving).tripsAgree = false ∧ (service .running).tripsAgree = false ∧ stopping.tripsAgree = false ∧
    holding.tripsAgree = false ∧ ({ clutching .opening with pairing := .paired .a } : State).tripsAgree = false ∧
    staged.queuesBounded = true ∧ full.queuesBounded = false := by decide +kernel

/-- The requests of the console that a clause needs admitted, with their lengths and winder fields. -/
theorem test_hyp_admitted_console :
    ∀ x ∈ ([(.readGeometry, 0, none), (.readStation, 1, none), (.readRockPoint, 1, none), (.readClass, 1, none),
        (.readTracking, 0, none), (.readMarker, 1, none), (.readPayload, 0, none), (.readSettle, 1, some 1),
        (.readWinder, 1, some 1), (.readCap, 1, some 0), (.readEnvelope, 1, some 0), (.tripStatus, 1, some 1),
        (.queryBar, 1, none), (.readZone, 1, none), (.readCounters, 0, none), (.identify, 0, none), (.readQueue, 2, some 1),
        (.readFaults, 1, none), (.readPosition, 1, none), (.queryCall, 2, some 0), (.clearHeld, 1, some 0),
        (.clearFaults, 0, none), (.clearCounters, 0, none), (.commit, 0, none), (.setEnvelopeLock, 1, some 1)] :
        List (Kind × Nat × Option Nat)), ground.admits (con x.2.1) x.1 x.2.1 x.2.2 := by
  unfold State.admits; decide +kernel

theorem test_hyp_ScreenOrder :
    2 ≤ 255 ∧ ground.admits (con 1) .readWinder 1 (some 2) ∧ ground.admits (con 1) .readWinder 1 (some 255) ∧
    ground.admits (ore 1) .querySkip 1 none := by
  unfold State.admits; decide +kernel

/-- Long reads and requests of a drive that the screen turns away. -/
theorem test_hyp_ScreenOrder_turned_away :
    let busy : State := { ground with commit := some ⟨StoredConfig.blank, 200000⟩ }
    busy.turnedAway (con 2) .readQueue 2 (some 0) = some .busy ∧ busy.turnedAway (con 1) .readFaults 1 none = some .busy ∧
    ground.turnedAway (con 2) .readPosition 1 none = some (.refused .malformed) ∧
    ground.turnedAway (con 12) .positionReport (if (con 12).link = .rockDrive then 20 else 12) none =
      some (.refused .notForThisLink) ∧
    ground.turnedAway (sig 3) .legComplete 3 none = some (.refused .notForThisLink) ∧
    ground.turnedAway (rockDrive 2) .driveFault 1 none = some (.refused .malformed) := by decide +kernel

/-- Requests with a presence byte that no code assigns, past their screen. -/
theorem test_hyp_ScreenOrder_presence_bytes :
    (Presence.unassigned 2 : Presence Nat).read = none ∧ (Presence.unassigned 2 : Presence (List Nat)).read = none ∧
    (Presence.unassigned 2 : Presence Int).read = none ∧
    ground.admits (con 7) .call (callSize [0] (.unassigned 2) .absent) none ∧
    ground.admits (sig 2) .closeCall (ridersSize (.unassigned 2) + optionalSize 2 (Presence.of (none : Option Nat))) none ∧
    ground.admits (con 7) .manualTrip (manualSize (con 7) (.service 1 [0] 1 .absent (.unassigned 2))) none ∧
    ground.admits (con 13) .writeZone
      (optionalSize 1 (.unassigned 2 : Presence Nat) + 10 + optionalSize 2 (.absent : Presence Nat) + listSize []) none ∧
    ground.admits (con 2) .writeGeometry
      (optionalSize 2 (.absent : Presence Nat) + optionalSize 4 (.unassigned 255 : Presence Nat)) none ∧
    ground.admits (con 5) .writeStation (4 + optionalSize 4 (.unassigned 2 : Presence Int)) none ∧
    ground.admits (con 3) .writeRockPoint
      (1 + optionalSize 4 (.unassigned 2 : Presence Int) + optionalSize 1 (.absent : Presence Nat)) none ∧
    ground.admits (con 3) .setSkipContents (2 + optionalSize 2 (.unassigned 2 : Presence Nat)) none := by
  unfold State.admits; decide +kernel

/-- Bytes that end in a damaged frame, in none and in a whole one, and the kinds of the whole ones. -/
theorem test_hyp_FramesThatAreNoListedRequest :
    let bytes (k : Nat) : List RxByte := (frameBytes k 3 [0]).map (RxByte.mk false)
    receiveBytes .hunting [⟨false, 0xA5⟩, ⟨false, 97⟩] = (.hunting, [.damaged]) ∧
    receiveBytes .hunting [⟨false, 0xA5⟩] = (.inFrame [], []) ∧
    (receiveBytes .hunting (bytes 20)).1 = .hunting ∧ (receiveBytes .hunting (bytes 20)).2.length = 1 ∧
    (kindNumber .identify = kindNumber .identify ∧ kindListed .identify .console = true) ∧
    (isReplyKind 0 = false ∧ kindNumberListed 0 .console = false) ∧
    (isReplyKind (kindNumber .grant + 128) = true ∧ driveWinder .console = none ∧ driveWinder .rockDrive = some .rock) := by
  decide +kernel

theorem test_hyp_OtherRepliesHaveNoFurtherEffect : Kind.brake ≠ .grant := by decide

theorem test_hyp_FramesAreReceivedByTheirCrc : (List.replicate 96 (0xFF#8 : Byte)).length ≤ 96 := by decide

theorem test_hyp_SettingsReadsAnswer :
    rockPointCode 2 = some .pocketB ∧ rockPointCode 3 = none ∧ classCode 5 = some .rePair ∧ classCode 6 = none ∧
    winderCode 1 = some .rock ∧ winderCode 2 = none ∧ stationCode 15 = some 15 ∧ stationCode 16 = none := by decide

theorem test_hyp_StatusReadsAnswer : ground.admits (ore 1) .querySkip 1 none ∧ skipCode 1 = some .skip1 := by
  unfold State.admits; decide +kernel

theorem test_hyp_LongReadsAnswerInPages :
    ground.snapshot = none ∧
    (∃ x, (held .faults).snapshot = some x ∧ 1 < 2 ∧ 2 ≤ x.items.length ∧ x.kind = .faults) ∧
    (∃ x, (held .positions).snapshot = some x ∧ x.kind = .positions) ∧
    (∃ x, (held (.queue .rock)).snapshot = some x ∧ x.kind = .queue .rock ∧
      2000 ≤ ((held (.queue .rock)).now - x.formedAt).toNat) ∧
    (held .faults).admits (con 1) .readFaults 1 none ∧ (held .positions).admits (con 1) .readPosition 1 none ∧
    (held (.queue .rock)).admits (con 2) .readQueue 2 (some 1) := by
  unfold State.admits
  exact ⟨rfl, ⟨_, rfl, by decide +kernel⟩, ⟨_, rfl, rfl⟩, ⟨_, rfl, rfl, by decide +kernel⟩, by decide +kernel⟩

/-- A first item of 0 and one beyond the total, a continuation of another read and of none, and a winder that no code names
(R167, R171). -/
theorem test_hyp_LongReadsAnswerInPages_refusals :
    (∃ x, (held .faults).snapshot = some x ∧ 1 < 3 ∧ x.items.length < 3 ∧ x.kind ≠ .positions) ∧
    ([(.readFaults (con 1) 0, ground), (.readFaults (con 1) 3, held .faults), (.readQueue (con 2) 2 1, ground),
      (.readPosition (con 1) 2, held .faults), (.readFaults (con 1) 2, ground)] : List (Instr × State)).map
        (fun p => lastCode (after p.1 p.2)) =
      [.outOfRange, .outOfRange, .outOfRange, .noSnapshot, .noSnapshot].map (fun r => some (.refused r)) :=
  ⟨⟨_, rfl, by decide +kernel⟩, by decide +kernel⟩

theorem test_hyp_QueryCallFindsTheCall :
    let s := queued [upperCall 1 .waiting, upperCall 2 .heldBar]
    (s.admits (con 2) .queryCall 2 (some 0) ∧
      s.queues.get .service = [upperCall 1 .waiting] ++ upperCall 2 .heldBar :: [] ∧ (∀ x ∈ [upperCall 1 .waiting], x.id ≠ 2)) ∧
    ((∀ x ∈ staged.queues.get .service, x.id ≠ 3) ∧ (staged.pipe .service).staged = some (cageTrip .pending) ∧
      (cageTrip .pending).source = some (upperCall 3 .waiting)) ∧
    (((active .running .moving).pipe .service).active = some (cageTrip .moving) ∧
      ((active .running .moving).pipe .service).staged = none) := by
  unfold State.admits; decide +kernel

theorem test_hyp_ShaftWritesFollowTheirTests :
    (between 3000 6000 3000 = true ∧ ground.isIn .service .parked = true ∧ ground.admits (con 4) .writeGeometry 4 none) ∧
    (between 2000000 3200000 2000000 = true ∧ Option.all (between 3000 6000) (some 6000) = true ∧
      ground.commissioning = true ∧ ground.admits (con 8) .writeGeometry (optionalSize 2 (Presence.present 6000) + 5) none) ∧
    (ground.queues.get .service = [] ∧ readStation 15 (some 3200000) 10 7 1 = some ⟨some 3200000, 10, DeckSet.all, true⟩ ∧
      ground.admits (con 9) .writeStation (4 + optionalSize 4 (Presence.present (3200000 : Int))) none) ∧
    (rockPointCode 2 = some .pocketB ∧ ground.isIn .rock .parked = true ∧ Option.all depthInRange (some 3200000) = true ∧
      Option.all (between 10 250) (some 250) = true ∧
      (ground.work.rockPoints.write .pocketB (some 3200000) (some 250)).ordered = true ∧
      ground.admits (con 8) .writeRockPoint (1 + optionalSize 4 (Presence.present (3200000 : Int)) + optionalSize 1 (Presence.present 250)) none ∧
      ground.pairing = .paired .a) ∧
    (classCode 2 = some .rock ∧ classInRange ⟨18000, 1500, 7200⟩ = true ∧
      (ground.work.classes.set .rock ⟨18000, 1500, 7200⟩).creepLeast = true ∧
      (∀ w ∈ classWinders .rock, ground.isIn w .parked = true) ∧ ground.admits (con 7) .writeClass 7 none ∧
      ground.inMotion .service = false) := by
  unfold State.admits; decide +kernel

/-- The refusals of the same writes, one by one; the last bytes of the ranges refuse too. -/
theorem test_hyp_ShaftWritesFollowTheirTests_more_refusals :
    let calling := queued [upperCall 1 .waiting]
    let running : State := { rock .idle with commissioning := false }
    (ground.admits (con 2) .writeGeometry (optionalSize 2 (Presence.of (none : Option Nat)) +
        optionalSize 4 (Presence.of (none : Option Nat))) none ∧ 6000 < 6001 ∧ 3200000 < 3200001) ∧
    (16 ≤ 16 ∧ stationCode 1 = some 1 ∧ (∀ c ∈ ground.queues.get .service, c.work.names 1 = false) ∧
      readStation 0 (some 1) 40 7 1 = none ∧ readStation 1 none 40 7 1 = some ⟨none, 40, DeckSet.all, true⟩ ∧
      calling.admits (con 5) .writeStation (4 + optionalSize 4 (Presence.of (none : Option Int))) none) ∧
    (3 ≤ 255 ∧ rockPointCode 0 = some .tip ∧ running.isIn .rock .parked = false ∧ ground.isIn .rock .parked = true ∧
      State.reset.isIn .rock .parked = true ∧ State.reset.commissioning = false ∧
      (ground.work.rockPoints.write .tip (some 3200000) none).ordered = false ∧
      ground.admits (con 7) .writeRockPoint (1 + optionalSize 4 (Presence.of (some (3200000 : Int))) +
        optionalSize 1 (Presence.of (none : Option Nat))) none) ∧
    (6 ≤ 6 ∧ classCode 5 = some .rePair ∧ classInRange ⟨18001, 500, 60⟩ = false ∧ classInRange ⟨18000, 500, 60⟩ = true ∧
      (ground.work.classes.set .rePair ⟨18000, 500, 60⟩).creepLeast = true ∧
      (∃ w ∈ classWinders .rePair, running.isIn w .parked = false) ∧ running.admits (con 7) .writeClass 7 none) := by
  unfold State.admits; decide +kernel

/-- A rock point write that keeps the span of the pairing, and one that does not; a zone table in order. -/
theorem test_hyp_ShaftWritesFollowTheirTests_spans :
    let write (n : Nat) (depth : Int) : State :=
      after (.writeRockPoint (con (1 + optionalSize 4 (Presence.of (some depth)) + optionalSize 1 (Presence.of (none : Option Nat))))
        n (.of (some depth)) (.of none)) ground
    (write 2 2970000).pairing = .paired .a ∧ (write 1 2950000).pairing = .unpaired ∧
    lastCode (write 1 2950000) = some .done ∧ lastCode (write 2 2970000) = some .done ∧
    zonesOrdered (zoned .overwind 0 20).zones = true := by decide +kernel

/-- The refusals of the same writes. -/
theorem test_hyp_ShaftWritesFollowTheirTests_refusals :
    (State.reset.commissioning = false ∧ State.reset.admits (con 6) .writeGeometry (optionalSize 2 (Presence.of (none : Option Nat)) + 5) none) ∧
    ((service .idle).isIn .service .parked = false ∧ (service .idle).admits (con 4) .writeGeometry 4 none ∧
      (service .idle).admits (con 5) .writeStation (4 + optionalSize 4 (Presence.of (none : Option Int))) none) ∧
    (∃ c ∈ (queued [upperCall 1 .waiting]).queues.get .service, c.work.names 1 = true) ∧
    ((ground.work.classes.set .rock ⟨400, 500, 60⟩).creepLeast = false ∧ classInRange ⟨0, 500, 60⟩ = false) := by
  unfold State.admits; decide +kernel

theorem test_hyp_TrackingWritesAreTaken :
    (ground.bothParked = true ∧ trackingOk trackingDefaults = true ∧ ground.admits (con 17) .writeTracking 17 none) ∧
    (conveyanceCode 3 = some .skip1 ∧ ground.commissioning = true ∧ ground.isIn (ownerOf .skip1) .parked = true ∧
      between 1 255 255 = true ∧ depthInRange (-60000) = true ∧ between 5 50 50 = true ∧ ground.work.markers.length < 48 ∧
      ground.admits (con 7) .writeMarker 7 none) ∧
    (ground.marker 7 = some ⟨7, .cage, 100000, 20⟩ ∧ ground.isIn (ownerOf .cage) .parked = true ∧
      ground.admits (con 1) .removeMarker 1 none) := by
  unfold State.admits; decide +kernel

theorem test_hyp_WinderSettingsAreWritten :
    winderCode 1 = some .rock ∧ ground.isIn .rock .parked = true ∧ ground.admits (con 2) .writeOfferLimit 2 (some 1) ∧
    ground.admits (con 3) .writeReportInterval 3 (some 1) ∧ ground.admits (con 4) .writeSettle 4 (some 1) ∧
    payloadActionCode 1 = some .flag ∧ ground.admits (con 3) .writePayload 3 none := by
  unfold State.admits; decide +kernel

theorem test_hyp_DrumsAndRestartMakeRecordsCold :
    let s := { ground with monitors := ⟨{ Monitor.atPowerOn with running := false }, Monitor.atPowerOn⟩ }
    (ground.isIn .rock .parked = true ∧ ground.admits (con 1) .restartTracking 1 (some 1) ∧
      ground.drumDepth.get (drumOf .skip0) = some (-28000) ∧ depthInRange (ground.depthOf .skip0 (-28000)) = true ∧
      State.reset.drumDepth.get .drum1 = none) ∧
    (drumCode 0 = some .service ∧ s.commissioning = true ∧ s.isIn (drumWinder .service) .parked = true ∧
      (s.monitor (drumWinder .service)).running = false ∧ between 1000 100000 1000 = true ∧
      s.admits (con 5) .writeDrumScale 5 none ∧ s.reports.get (drumWinder .service) = some serviceReport) ∧
    (drumCode 2 = some .drum1 ∧ ground.latestAtRest .rock = true ∧ ground.reports.get .rock = some rockReport ∧
      depthInRange 3200000 = true ∧ ground.admits (con 5) .setReference 5 none) := by
  unfold State.admits; decide +kernel

theorem test_hyp_RecordsFollowTheDrums :
    0 < ground.work.scales.get .drum1 ∧ depthInRange (-60000) = true ∧ depthInRange (-60001) = false ∧
    (standing 0).estimate = some 0 ∧ (standing 0).travel ≤ 10000000 ∧ (Position.atPowerOn 600 0).estimate = none ∧
    ((standing 0).takeReport trackingDefaults 10 50).rest = true ∧
    ((standing 0).takeReport trackingDefaults 10 51).rest = false ∧
    ((standing 0).takeReport trackingDefaults 10 (-51)).rest = false := by decide +kernel

theorem test_hyp_ReportsUpdateTheRecords :
    driveWinder (serviceDrive 12).link = some .service ∧ driveWinder (rockDrive 20).link = some .rock ∧
    (∃ r, readReport .service ground.now serviceBody = some r) ∧
    (∃ r, readReport .rock ground.now { serviceBody with second := some restReading } = some r) ∧
    readReport .service ground.now { serviceBody with driveState := 3 } = none :=
  ⟨rfl, rfl, ⟨_, rfl⟩, ⟨_, rfl⟩, rfl⟩

/-- What the motion check finds and the pair check compares. -/
theorem test_hyp_ReportsUpdateTheRecords_checks :
    let moving : State := { ground with
      positions := ground.positions.set .skip1 { standing 2960000 with rest := false, armed := true } }
    let adrift (d : Int) : State := { ground with positions := ground.positions.set .skip1 (standing d) }
    let difference (s : State) : Option Int := s.pairDifference .a
    ((moving.position .skip1).armed = true ∧ (moving.position .skip1).rest = false ∧
      (ground.position .cage).motionRef = some 0 ∧ ground.drumDepth.get (drumOf .cage) = some 0 ∧
      ¬(ground.work.tracking.unpermitted < (0 - 0 : Int).natAbs)) ∧
    (ground.pairing = .paired .a ∧ difference ground = some 0 ∧ (difference (adrift 2962501)) = some 2501 ∧
      ground.work.tracking.pair < (2501 : Int).natAbs ∧ ground.startupCheck = false ∧ ground.pairBeyond = false) ∧
    (State.reset.pairing = .unpaired ∧ State.reset.startupCheck = true) := by decide +kernel

theorem test_hyp_MarkerPassesCorrectTheRecord :
    (ground.work.markers.find? (fun m => m.id == 7 && m.compartment == .cage) = some ⟨7, .cage, 100000, 20⟩ ∧
      (ground.position .cage).state ≠ .lost ∧ (ground.position .cage).reportEstimate = some 0 ∧
      ground.reports.get (ownerOf .cage) = some serviceReport) ∧
    ground.work.markers.find? (fun m => m.id == 7 && m.compartment == .skip0) = none ∧
    ({ ground with positions := State.reset.positions } : State).position .cage = Position.atPowerOn 600 0 := by
  decide +kernel

theorem test_hyp_TouchingIsSharingADepth :
    zonesOrdered (zoned .slow 0 20).zones = true ∧ ((zoned .slow 0 20).rebuildSet .cage).position .cage ≠ standing 0 ∧
    (State.reset.position .cage).estimate = none := by decide +kernel

theorem test_hyp_CapIsTheLeastTerm :
    ground.inMotion .service = false ∧ (active .running .moving).inMotion .service = true ∧
    (active .running .moving).activeLeg .service = some (cageLeg .moving 0) := by decide +kernel

theorem test_hyp_ApproachLimitIsTheWholeRoot :
    2 * (ground.work.classes.get (cageLeg .moving 0).cls).decel * ground.toGo (cageLeg .moving 0) < 2 ^ 64 ∧
    0 < (⟨12000, 750, 480⟩ : ClassSettings).decel := by decide +kernel

theorem test_hyp_ZonesAreWrittenAndRemoved :
    let s := zoned .slow 0 20
    (ground.bothParked = true ∧ isFixed (some 0) = true ∧ ground.commissioning = true ∧ ground.zonePlace (some 0) = some 0 ∧
      ground.zoneKind 0 = none ∧ readZone 1 15 (-60000) 3200000 (some 500) [] ≠ none ∧
      ground.admits (con 16) .writeZone (optionalSize 1 (Presence.present 0) + 10 + optionalSize 2 (Presence.present 500) + listSize []) none) ∧
    (ground.zonePlace none = some 16 ∧ ground.zonePlace (some 63) = some 63) ∧
    (s.bothParked = true ∧ (tableGet s.zones 20).any (fun z => z.kind == .slow) = true ∧
      s.admits (con 1) .removeZone 1 none) ∧
    (s.winders.service.slowCap = none ∧ s.winders.rock.slowCap = none) := by
  unfold State.admits; decide +kernel

theorem test_hyp_WorkZonesAreAddedAndRemoved :
    let s := zoned .work 90000 99999
    (∃ z, readWorkZone 3 100000 100001 [] = some z ∧ lowestFreeOrdinary ground.zones = some 16 ∧
      ground.zoneOccupied z = false) ∧
    (∃ z, readWorkZone 3 20 21 [] = some z ∧ ground.zoneOccupied z = true) ∧
    (ground.admits (sig 10) .addWorkZone (9 + listSize []) none ∧ (tableGet s.zones 20).any (fun z => z.kind == .work) = true ∧
      s.admits (con 1) .removeWorkZone 1 none ∧ tableGet s.zones 63 = none ∧ 64 ≤ 64 ∧
      (tableGet (zoned .slow 0 20).zones 20).any (fun z => z.kind == .slow) = true) := by
  unfold State.admits
  exact ⟨⟨_, rfl, by decide +kernel⟩, ⟨_, rfl, by decide +kernel⟩, by decide +kernel⟩

/-- REMOVE WORK ZONE and CLEAR BARS with the winder in IDLE: the calls they release are planned at once (R43, R71, R77). -/
theorem test_releases_are_planned :
    let s (st : CallState) : State :=
      { service .idle with
        zones := [(20, ⟨.work, ⟨true, true, false, false⟩, 90000, 99999, none, []⟩)], bars := Vector.replicate 16 true
        queues := ⟨[upperCall 3 st], []⟩ }
    let unbarred : State := { s .heldWork with bars := Vector.replicate 16 false }
    let unzoned : State := { s .heldBar with zones := [] }
    let staged (c : Instr) (s : State) : Option (Option Nat) :=
      ((after c s).pipe .service).staged.map (fun t => t.source.map (·.id))
    staged (.removeWorkZone (con 1) 20) unbarred = some (some 3) ∧ staged (.clearBars (con 0)) unzoned = some (some 3) := by
  decide +kernel

theorem test_hyp_EntryFaultsAreThoseOfTheZonesJoined :
    ((zoned .overwind 0 20).rebuildSet .cage).entryFaults .service .cage (standing 0) false =
      [⟨.overwind, .trip, .service, some .cage, none, some 20, none⟩] := by decide +kernel

/-- The trip that an acceptance puts in the active slot, recovery or not. -/
theorem test_hyp_EntryFaultsAreThoseOfTheZonesJoined_recovery :
    let accepted (r : Bool) : State :=
      let p : Pipe := { staged.pipe .service with staged := some { cageTrip .pending with recovery := r } }
      { staged with pipes := staged.pipes.set .service p.accept }
    ((accepted true).pipe .service).active.all (·.recovery) = true ∧
    ((accepted false).pipe .service).active.all (fun t => !t.recovery) = true ∧
    ((accepted true).pipe .service).active ≠ none ∧ ((accepted false).pipe .service).active ≠ none := by decide +kernel

theorem test_hyp_CallsAreMergedOrAdmitted :
    let s := queued [upperCall 1 .waiting]
    let work := CallWork.cage 1 .men [.upper] (some [5]) none
    (stationCode 1 = some 1 ∧ cageClassCode 0 = some .men ∧ codes deckCode [0] = some [.upper] ∧ flagCode 1 = some true ∧
      deckCountOk .console [0] = true ∧ countsInRange (some [5]) none = true ∧
      countsOk .men [.upper] (some [5]) none = true ∧ [Deck.upper].Nodup ∧ (ground.work.stations[1]).inService = true ∧
      (∀ d ∈ [Deck.upper], (ground.work.stations[1]).decks.has d = true) ∧
      s.admits (con 9) .call (callSize [0] (.present [5]) .absent) none) ∧
    (s.queues.get .service).find? (fun x => x.work.merges work) = some (upperCall 1 .waiting) ∧
    ((∀ x ∈ ground.queues.get .service, x.work.merges work = false) ∧ ground.admissionCount .service < 24) ∧
    (let full := queued (List.replicate 24 { upperCall 1 .waiting with work := .cage 2 .men [.upper] (some [5]) none })
     (∀ x ∈ full.queues.get .service, x.work.merges work = false) ∧ 24 ≤ full.admissionCount .service) ∧
    (skipCode 0 = some .skip0 ∧ ground.admits (ore 1) .cycle 1 none ∧ ground.admissionCount .rock < 4) ∧
    ((ground.liveIds .service).length < 250 ∧ 1 ≤ ground.lastCallId.get .service ∧ ground.lastCallId.get .service ≤ 250) := by
  unfold State.admits; decide +kernel

/-- The other outcomes of CYCLE. -/
theorem test_hyp_CallsAreMergedOrAdmitted_cycles :
    let cycle (k : Skip) : Call := ⟨1, .ore, .cycle k, false, .waiting, 0⟩
    let s (n : Nat) : State := { ground with queues := ⟨[], List.replicate n (cycle .skip0)⟩ }
    ((s 1).queues.get .rock).find? (fun x => x.work.merges (.cycle .skip0)) = some (cycle .skip0) ∧
    (∀ x ∈ (s 4).queues.get .rock, x.work.merges (.cycle .skip1) = false) ∧ 4 ≤ (s 4).admissionCount .rock ∧
    2 ≤ 2 ∧ lastCode (after (.cycle (ore 1) 2) ground) = some (.refused .outOfRange) ∧
    moveToHead [upperCall 1 .waiting, upperCall 2 .waiting] 2 =
      [{ upperCall 2 .waiting with priority := true }, upperCall 1 .waiting] := by
  decide +kernel

theorem test_hyp_AssemblyBuildsACall :
    let s (decks : List Deck) : State := { ground with assembly := some ⟨1, .men, decks, 80000⟩ }
    (ground.admits (sig 2) .openCall 2 none ∧ (ground.work.stations[1]).inService = true ∧
      (ground.work.stations[15]).inService = false) ∧
    ((s []).assembly = some ⟨1, .men, [], 80000⟩ ∧ deckCode 2 = some .lower ∧ (s []).admits (sig 1) .addDeck 1 none) ∧
    (ground.assembly = none ∧ ground.admits (sig 1) .addDeck 1 none ∧
      ground.admits (sig 2) .closeCall (ridersSize .absent + optionalSize 2 (Presence.of (none : Option Nat))) none) ∧
    ((s [.upper]).admits (sig 4) .closeCall (ridersSize (.present [5]) + optionalSize 2 (Presence.of (none : Option Nat))) none ∧
      countsInRange (some [5]) none = true ∧ (s [.upper]).cageCallTests 1 .men [.upper] (some [5]) none = none ∧
      (s [.upper]).queues.get .service = [] ∧ (s [.upper]).admissionCount .service < 24 ∧
      20000 ≤ ((s []).now - 80000).toNat) := by
  unfold State.admits; decide +kernel

/-- Codes that name no station, class or deck. -/
theorem test_hyp_AssemblyBuildsACall_codes :
    let s : State := { ground with assembly := some ⟨1, .men, [], 80000⟩ }
    (16 ≤ 16 ∨ 2 ≤ 0) ∧ (16 ≤ 1 ∨ 2 ≤ 2) ∧ 3 ≤ 3 ∧ s.assembly = some ⟨1, .men, [], 80000⟩ ∧
    ([.openCall (sig 2) 16 0, .openCall (sig 2) 1 2, .addDeck (sig 1) 3] : List Instr).map
        (fun c => lastCode (after c s)) = List.replicate 3 (some (.refused .outOfRange)) := by decide +kernel

/-- CLOSE CALL with counts out of range, refused by a test, merged, and with the queue full. -/
theorem test_hyp_AssemblyBuildsACall_closed :
    let s (calls : List Call) : State := { queued calls with assembly := some ⟨1, .men, [.upper], 80000⟩ }
    let work := CallWork.cage 1 .men [.upper] (some [5]) none
    let other : Call := { upperCall 1 .waiting with work := .cage 2 .men [.upper] (some [5]) none }
    countsInRange (some [256]) none = false ∧ (s []).cageCallTests 1 .men [.upper] (some [5, 5]) none = some .outOfRange ∧
    (s [upperCall 1 .waiting]).admits (sig 4) .closeCall (ridersSize (Presence.of (some [5])) +
      optionalSize 2 (Presence.of (none : Option Nat))) none ∧
    ((s [upperCall 1 .waiting]).queues.get .service).find? (fun x => x.work.merges work) = some (upperCall 1 .waiting) ∧
    (∀ x ∈ (s (List.replicate 24 other)).queues.get .service, x.work.merges work = false) ∧
    24 ≤ (s (List.replicate 24 other)).admissionCount .service := by
  unfold State.admits; decide +kernel

theorem test_hyp_CallsAreCancelledAndExpire :
    let s := queued [upperCall 1 .waiting]
    s.admits (con 2) .cancelCall 2 (some 0) ∧ (∃ c ∈ s.queues.get .service, c.id = 1) ∧
    (∀ c ∈ staged.queues.get .service, c.id ≠ 3) ∧ (staged.pipe .service).staged = some (cageTrip .pending) ∧
    ((active .running .moving).pipe .service).active = some (cageTrip .moving) ∧
    (ground.pipe .service).staged = none ∧ (ground.pipe .service).active = none := by
  unfold State.admits; decide +kernel

theorem test_hyp_BarsAreSetAndCleared :
    ground.admits (con 1) .barStation 1 none ∧ ground.bars[15] = false ∧ State.reset.bars[15] = true ∧
    ground.isIn .service .parked = true ∧ (ground.pipe .service).staged = none ∧ ground.admits (con 0) .clearBars 0 none ∧
    ground.bars = Vector.replicate 16 false ∧ State.reset.bars ≠ Vector.replicate 16 false ∧
    16 ≤ 16 ∧ lastCode (after (.barStation (con 1) 16) ground) = some (.refused .outOfRange) := by
  unfold State.admits; decide +kernel

/-- A bar newly set on the station of the staged or the active trip, by the state of the winder, and on another's. -/
theorem test_hyp_BarsAreSetAndCleared_trips :
    let lands (slot : Option Trip) (st : Fin 16) : Bool := slot.any (fun t => t.station == some st)
    let s := active .running .moving
    lands (staged.pipe .service).staged 1 = true ∧ lands (s.pipe .service).active 1 = true ∧
    lands (s.pipe .service).active 2 = false ∧
    [WinderState.running, .stopping, .settling, .dwelling, .idle].all (fun st =>
      lands ((active st .moving).pipe .service).active 1 && (active st .moving).isIn .service st) = true ∧
    ({ s with winders := s.winders.set .service { s.winder .service with state := .stopping } } : State).belowCritical
      .service = true ∧ (s.pipe .service).active = some (cageTrip .moving) := by decide +kernel

theorem test_hyp_ThePlannerStagesTheFirstWaitingCall :
    let s := { service .idle with queues := ⟨[upperCall 1 .heldBar, upperCall 3 .waiting], []⟩ }
    ground.plannerRuns .service = false ∧ s.plannerRuns .service = true ∧
    (s.queues.get .service).find? (fun c => c.state == .waiting) = some (upperCall 3 .waiting) ∧
    s.validate .service (upperCall 3 .waiting) = .stage (s.callTrip .service (upperCall 3 .waiting)) := by
  decide +kernel

theorem test_hyp_ReadyLeadsToOffers :
    (staged.admits (sig 3) .ready 3 none ∧ (staged.pipe .service).staged = some (cageTrip .pending) ∧
      (staged.pipe .service).active = none) ∧
    (let s := active .dwelling .pending
     (s.pipe .service).staged = none ∧ (s.pipe .service).active = some (cageTrip .pending) ∧
      (s.winder .service).state = .dwelling ∧ (cageTrip .pending).current = 1 ∧ (s.pipe .service).offer = none) ∧
    (reached 100000#32 100000#32 = true ∧ reached 100000#32 100001#32 = false) := by
  unfold State.admits; decide +kernel

theorem test_hyp_OffersSendGrant :
    (staged.pipe .service).onOffer = some (cageTrip .pending) ∧ (cageTrip .pending).leg = some (cageLeg .pending 0) ∧
    ¬((cageLeg .pending 0).isCoupled = true ∧ staged.pairing = .unpaired) ∧
    staged.pathCheck .work (staged.legPaths (cageLeg .pending 0)) (staged.overOwn (cageTrip .pending).recovery) = none ∧
    ((cageTrip .pending).isRockCycle = true → (cageTrip .pending).granted = true) := by decide +kernel

/-- A WORK zone on the path of a staged trip, of an active one and of a free move; a coupled leg found Unpaired. -/
theorem test_hyp_OffersSendGrant_stops :
    let zones (s : State) : State := { s with zones := [(20, ⟨.work, ⟨true, true, true, true⟩, -60000, 3200000, none, []⟩)] }
    let meets (s : State) (w : Winder) : Bool :=
      (s.pipe w).onOffer.any (fun t => t.leg.any (fun l =>
        (s.pathCheck .work (s.legPaths l) (s.overOwn t.recovery)).isSome && !s.uncouples l))
    meets (zones staged) .service = true ∧ (staged.pipe .service).active = none ∧
    (cageTrip .pending).source = some (upperCall 3 .waiting) ∧
    (∀ x ∈ staged.queues.get .service, x.work.merges (upperCall 3 .waiting).work = false) ∧
    meets (zones (active .dwelling .pending)) .service = true ∧ ((active .dwelling .pending).pipe .service).active ≠ none ∧
    (active .dwelling .pending).isIn .service .clutching = false ∧
    meets (zones (clutching .freeMove)) .rock = true ∧ ((clutching .freeMove).winder .rock).state = .clutching ∧
    ((clutching .freeMove).pipe .rock).active.all (fun t => t.kind == .rePair) = true ∧
    (ground.cycleLeg .skip1 .a).isCoupled = true ∧ ({ cycleStaged with pairing := .unpaired } : State).pairing = .unpaired := by
  decide +kernel

/-- The first offer of a rock cycle, with each result of the payload check. -/
theorem test_hyp_OffersSendGrant_payload :
    let leg := ground.cycleLeg .skip1 .a
    (cycleStaged.pipe .rock).onOffer = some cycleTrip ∧ (cycleStaged.pipe .rock).active = none ∧ cycleTrip.leg = some leg ∧
    skipOf leg.leading = some .skip1 ∧ cycleTrip.isRockCycle = true ∧ cycleTrip.granted = false ∧
    cycleStaged.uncouples leg = false ∧ cycleStaged.pathCheck .work (cycleStaged.legPaths leg) (cycleStaged.overOwn false) = none ∧
    cycleStaged.reports.get .rock = some rockReport ∧ (cycleStaged.skips.get .skip1).contents = .loaded 1000 ∧
    (rockReport.reading (drumOf Skip.skip1.conveyance)).load = 1000 ∧ Config.skipRating < 65535 ∧
    cycleStaged.work.payloadTolerance < max 1000 9000 - min 1000 9000 ∧
    ¬(cycleStaged.work.payloadTolerance < max 1000 1000 - min 1000 1000) := by decide +kernel

theorem test_hyp_GrantRepliesActOnTheOffer :
    let s := offered 100000
    let taken : State := { s with
      pipes := s.pipes.set .service (s.pipe .service).accept
      winders := s.winders.set .service { s.winder .service with state := .running } }
    (s.isAwaited .service .grant 0 = true ∧ (s.pipe .service).offer = some (.awaiting 0 100000) ∧
      s.isAwaited .service .grant 1 = false ∧ s.awaitedExpired .service .grant 0 = true) ∧
    (s.isIn .service .running = false ∧ taken.belowCritical .service = true ∧
      (s.pipe .service).active.or (s.pipe .service).staged = some (cageTrip .pending) ∧
      (cageTrip .pending).leg = some (cageLeg .pending 0) ∧ (s.pipe .service).active = none) ∧
    ((s.pipe .service).onOffer = some (cageTrip .pending) ∧ (cageTrip .pending).offerCount < 7) ∧
    (let p : Pipe := { s.pipe .service with staged := some { cageTrip .pending with offerCount := 7 } }
     p.onOffer = some { cageTrip .pending with offerCount := 7 } ∧ p.active = none) := by decide +kernel

/-- The eighth refusal of an active trip and of a free move. -/
theorem test_hyp_GrantRepliesActOnTheOffer_eighth :
    let eighth (t : Trip) : Trip := { t with offerCount := 7 }
    let p : Pipe := { (active .dwelling .offered).pipe .service with active := some (eighth (cageTrip .offered)) }
    p.onOffer = some (eighth (cageTrip .offered)) ∧ p.active ≠ none ∧ (cageTrip .offered).kind ≠ .rePair ∧
    ((clutching .freeMove).winder .rock).state = .clutching ∧
    (((clutching .freeMove).pipe .rock).active.map eighth).all (fun t => t.kind == .rePair && t.offerCount == 7) = true := by
  decide +kernel

theorem test_hyp_ConsoleTripsAreStaged :
    let manual : WinderRecord := { inState .idle with mode := .manual }
    let s := { ground with winders := ⟨manual, manual⟩ }
    let inspect : WinderRecord := { inState .idle with mode := .inspection }
    let t := { ground with winders := ⟨inspect, inspect⟩ }
    (between 1 3 [0].length = true ∧
      firstFailing (s.manualCageTests (.cage 1 .men [.upper] (some [5]) none) 1 [.upper]) = none ∧
      s.admits (con 9) .manualTrip (manualSize (con 9) (.service 1 [0] 0 (.present [5]) .absent)) none) ∧
    (firstFailing (s.manualTests .rock ++ [(s.pairing == .unpaired, .unpaired)] ++ s.pathTests (s.cycleLegs .skip1)) = none ∧
      s.admits (con 2) .manualTrip 2 none) ∧
    (conveyanceCode 0 = some .cage ∧ depthInRange 3200000 = true ∧ firstFailing (t.inspectTests .cage) = none ∧
      firstFailing (t.inspectLegTests (t.inspectionLeg .cage 50000 (t.nextTrip .service))) = none ∧
      t.admits (con 5) .inspectTrip 5 none) := by
  unfold State.admits; decide +kernel

/-- Each watching timer is due in one of these states and not in the other. -/
theorem test_hyp_WatchingTimersRaiseTheirFaults :
    let due (t : Trip) : Bool := decide ((ground.work.classes.get t.cls).limit * 1000 < t.motionTime)
    due { cageTrip .moving with motionTime := 480001 } = true ∧ due { cageTrip .moving with motionTime := 480000 } = false ∧
    (let s : State := { service .running with reports := ⟨some { serviceReport with at_ := 99000 }, none⟩ }
     s.silentDue .service = true ∧ (service .running).silentDue .service = false) ∧
    (((active .running .moving).pipe .service).active = some (cageTrip .moving) ∧
      (cageTrip .moving).legs[(cageTrip .moving).current - 1]? = some (cageLeg .moving 0) ∧
      ({ cageTrip .moving with legs := [] } : Trip).legs[(cageTrip .moving).current - 1]? = none ∧
      (ground.pipe .service).active = none) := by decide +kernel

theorem test_hyp_LegCompleteStartsTheSettleWait :
    let s := active .running .moving
    (driveWinder (serviceDrive 3).link = some .service ∧ (s.pipe .service).active = some (cageTrip .moving) ∧
      (cageTrip .moving).leg = some (cageLeg .moving 0) ∧ (cageTrip .moving).current = 1 ∧
      (s.winder .service).state ≠ .stopping ∧ (cageTrip .moving).kind ≠ .inspection) ∧
    ((active .stopping .moving).winder .service).state = .stopping ∧
    ((s.winder .service).state ≠ .settling ∧ reached s.now s.now = true) := by decide +kernel

theorem test_hyp_LandingTestAndWhatFollows :
    let s := active .settling .settling
    let off : Position := standing 500021
    (∃ p, s.position .cage = p ∧ s.examined (cageTrip .settling) (cageLeg .settling 0) = [⟨.cage, 500000, 40⟩]) ∧
    (40 < (Position.atPowerOn 600 0).band ∧ (standing 500020).band ≤ 40 ∧ (standing 500020).estimate = some 500020) ∧
    ((500000 : Int) - 40 ≤ 500020 - 20 ∧ (500020 : Int) + 20 ≤ 500000 + 40) ∧
    (off.estimate = some 500021 ∧ ¬((500021 : Int) + 20 ≤ 500000 + 40) ∧ 3 ≤ (cageLeg .settling 3).relevels ∧
      (cageLeg .settling 2).relevels < 3) ∧
    ((s.pipe .service).active = some (cageTrip .settling) ∧ (cageTrip .settling).kind ≠ .rePair ∧
      (s.winder .service).state = .settling ∧ (cageTrip .settling).legs.length ≤ (cageTrip .settling).current ∧
      (s.winder .service).holdPending = false) := by
  exact ⟨⟨_, rfl, by decide +kernel⟩, by decide +kernel⟩

/-- A record that holds no estimate, its band within the window: the landing test re-levels the leg, and fails at the fourth
miss; a pair with such a record fails on the skip that is not within its window (R119, R124; log 59). -/
theorem test_hyp_LandingTestAndWhatFollows_no_estimate :
    let lost : Position := { standing 0 with estimate := none }
    let s : State := { active .settling .settling with positions := ground.positions.set .cage lost }
    let pair (c : Conveyance) : State :=
      { cycling .settling .settling with
        positions := ⟨standing 0, standing 3110000, standing 2960000, standing (-28000)⟩ }.withPosition c
        (fun p => { p with estimate := none })
    let test (c : Conveyance) : List (FaultKind × Option Conveyance) :=
      (((pair c).landingTest .rock cycleTrip (ground.cycleLeg .skip1 .a)).faults.map (fun e => (e.kind, e.conveyance)))
    (lost.band ≤ 40 ∧ lost.estimate = none ∧ s.position .cage = lost) ∧
    (s.counters.get .service).relevels = 0 ∧
    ((s.landingTest .service (cageTrip .settling) (cageLeg .settling 0)).counters.get .service).relevels = 1 ∧
    (s.landingTest .service (cageTrip .settling) (cageLeg .settling 3)).faults.map (·.kind) = [.landingNotAchieved] ∧
    test .skip1 = [(.landingNotAchieved, some .skip1)] ∧ test .skip0 = [(.landingNotAchieved, some .skip0)] := by
  decide +kernel

/-- The two clauses of a trip with a leg still to come. -/
theorem test_hyp_LandingTestAndWhatFollows_more_legs :
    let t := { cageTrip .settling with legs := [cageLeg .settling 0, cageLeg .pending 0] }
    t.current < t.legs.length ∧ { inState .settling with holdPending := true }.holdPending = true := by decide +kernel

/-- A rock cycle's leg too uncertain, landed, missed in one sense, and missed in two. -/
theorem test_hyp_LandingTestAndWhatFollows_pair :
    let leg := ground.cycleLeg .skip1 .a
    let tip := ground.work.rockPoints.tip
    let low := ground.work.rockPoints.get Pocket.a.point
    let inside (p : Position) (e : RockPointEntry) : Bool := p.inWindow e.depth e.window
    cycleTrip.isRockCycle = true ∧ cycleTrip.leg = some leg ∧ skipOf leg.leading = some .skip1 ∧
    ground.pairing = .paired .a ∧ 0 < (Position.atPowerOn 600 0).band - tip.window ∧ (standing 0).band - tip.window = 0 ∧
    (standing 0).band - low.window = 0 ∧ inside (standing (-28000)) tip = true ∧ inside (standing 2960000) low = true ∧
    inside (standing (-27900)) tip = false ∧ inside (standing 2959900) low = false ∧
    (0 < (-27900 : Int) - tip.depth ∧ 0 < low.depth - (2959900 : Int)) ∧
    ¬((0 < (-27900 : Int) - tip.depth ∧ 0 < low.depth - (2960100 : Int)) ∨
      ((-27900 : Int) - tip.depth < 0 ∧ low.depth - (2960100 : Int) < 0)) := by decide +kernel

theorem test_hyp_ReleaseFollowsItsTests :
    let silentOf (s : State) : Prop := s.reports.get .service = none ∨ (s.winder .service).silent ≠ .clear
    let lostOf (s : State) : Prop := ∃ c ∈ conveyancesOf .service, (s.position c).state = .lost
    (ground.admits (con 1) .release 1 (some 0) ∧ (ground.winder .service).state = .parked ∧ ground.unconfigured = false ∧
      (ground.monitor .service).running = true ∧ ground.emergencyLine.get .service = false ∧ ¬silentOf ground ∧
      ¬lostOf ground ∧ (ground.winder .service).held = false) ∧
    (State.reset.unconfigured = true ∧ silentOf State.reset ∧ (service .running).isIn .service .parked = false ∧
      ((service .running).winder .service).holdPending = false) ∧
    lostOf { ground with positions := ground.positions.set .cage { standing 0 with state := .lost } } := by
  unfold State.admits; decide +kernel

theorem test_hyp_HoldActsByTheState :
    [WinderState.parked, .idle, .running, .settling, .dwelling, .stopping, .clutching, .tripped, .lockout].all (fun st =>
      (screen ((service st).heard (con 1) .hold) (con 1) .hold 1 (some 0)).isNone &&
      (screen ((service st).heard (con 1) .stop) (con 1) .stop 1 (some 0)).isNone) = true ∧
    ((active .dwelling .pending).pipe .service).active = some (cageTrip .pending) ∧
    ((active .dwelling .pending).pipe .service).staged = none := by decide +kernel

theorem test_hyp_StopActsByTheState :
    let s := active .running .moving
    s.admits (con 1) .stop 1 (some 0) ∧ (s.winder .service).state = .running ∧
    ({ s with winders := s.winders.set .service { s.winder .service with state := .stopping } } : State).belowCritical
      .service = true ∧ (s.pipe .service).active = some (cageTrip .moving) ∧
    ((clutching .freeMove).winder .rock).state = .clutching ∧ (clutching .freeMove).admits (con 1) .stop 1 (some 1) := by
  unfold State.admits; decide +kernel

/-- A free move with its offer in progress, its clutch timer idle, takes a STOP; one with no offer; and an opening phase. -/
theorem test_hyp_StopActsByTheState_clutching :
    let s : State := clutching .freeMove
    let offering : State := { s with pipes := s.pipes.set .rock { s.pipe .rock with offer := some (.awaiting 0 100400) } }
    let t := after (.stop (con 1) 1) offering
    (offering.repair = some ⟨.freeMove, .b, .skip1, none⟩ ∧ (offering.pipe .rock).offer ≠ none ∧ offering.clutchTimer = none ∧
      (s.pipe .rock).offer = none ∧ (clutching .opening).repair = some ⟨.opening, .b, .skip1, none⟩) ∧
    t.clutchTimer = some 120000 ∧ (t.pipe .rock).offer = none ∧ t.repair = some ⟨.freeMove, .b, .skip1, some .stopped⟩ := by
  decide +kernel

/-- A staged trip with its call, one whose call absorbs an entry that asks the same, one of the console, and a staged cycle, as
HOLD, the entry to STOPPING and a Trip fault withdraw them (R62, R90; log 38). -/
theorem test_withdrawn_calls :
    let moving (slot : Trip) (calls : List Call) : State :=
      let s := active .running .moving
      { s with queues := ⟨calls, []⟩, pipes := s.pipes.set .service { s.pipe .service with staged := some slot } }
    let asks := cageTrip .pending
    let console := { asks with kind := TripKind.manual, source := none }
    let call (s : State) := (s.queues.get .service).map (fun c => (c.id, c.state))
    let all (s : State) := [after (.hold (con 1) 0) s, s.enterStopping .service .bar, s.deliver (tripReport .overspeed none)]
    let dwelling : State := { moving asks [] with winders := ⟨inState .dwelling, inState .parked⟩ }
    let cycle := (cycleStaged.deliver ⟨.positionLost, .trip, .rock, none, none, none, none⟩)
    (all (moving asks [upperCall 8 .heldBar])).map call = List.replicate 3 [(3, .waiting)] ∧
    (all (moving asks [])).map call = List.replicate 3 [(3, .waiting)] ∧
    (all (moving console [])).map call = List.replicate 3 [] ∧
    (all (moving console [])).map (fun s => (s.pipe .service).latest) = List.replicate 3 (some ⟨3, .withdrawn⟩) ∧
    call (after (.hold (con 1) 0) dwelling) = [(3, .waiting)] ∧
    (cycle.queues.get .rock).map (·.state) = [.waiting] ∧ cycleStaged.pairing ≠ .unpaired := by decide +kernel

/-- A report at rest that ends a stop, and one that ends none. -/
theorem test_hyp_StopActsByTheState_report :
    ((active .stopping .moving).winder .service).state = .stopping ∧
    (∀ c ∈ conveyancesOf .service, ((active .stopping .moving).position c).rest = true) ∧
    ((active .running .moving).winder .service).state ≠ .stopping := by decide +kernel

theorem test_hyp_WinderResetClearsWhatItNames :
    ground.admits (con 1) .winderReset 1 (some 1) ∧ (ground.winder .rock).state = .parked ∧
    ((rock .idle).winder .rock).state ≠ .parked := by
  unfold State.admits; decide +kernel

theorem test_hyp_ModeAcknowledgeAndLockout :
    (modeCode 1 = some .manual ∧ ground.admits (con 2) .setMode 2 (some 0) ∧ (ground.winder .service).state = .parked ∧
      ground.commissioning = true ∧ State.reset.commissioning = false ∧ (State.reset.winder .service).recovery = false ∧
      (State.reset.winder .service).slowCap = none ∧ (staged.winder .service).state = .idle ∧
      (staged.pipe .service).staged ≠ none) ∧
    ((service .tripped).admits (con 1) .acknowledgeTrip 1 (some 0) ∧
      ((service .tripped).winder .service).state = .tripped ∧ (service .tripped).emergencyLine.get .service = false ∧
      ((service .tripped).winder .service).reportInState = true ∧ (service .tripped).latestAtRest .service = true) ∧
    (let s : State := { service .lockout with maintenanceKey := true }
     s.admits (con 1) .releaseLockout 1 (some 0) ∧ (s.winder .service).state = .lockout ∧ s.maintenanceKey = true ∧
      (s.winder .service).reportInState = true ∧ s.latestAtRest .service = true ∧
      (service .lockout).maintenanceKey = false) := by
  unfold State.admits; decide +kernel

theorem test_hyp_ModeAcknowledgeAndLockout_mode : 3 ≤ 255 ∧ ground.admits (con 2) .setMode 2 (some 1) := by
  unfold State.admits; decide +kernel

theorem test_hyp_ChangeOfStateSetsWhatFollowsIt :
    (ground.winder .service).state ≠ .running ∧ ((service .running).winder .service).state ≠ .tripped := by decide +kernel

theorem test_hyp_InputLinesAndDriveFaults :
    ground.emergencyLine.get .rock = false ∧
    ({ ground with emergencyLine := ⟨false, true⟩ } : State).emergencyLine.get .rock = true ∧
    driveWinder (rockDrive 1).link = some .rock ∧ (rockDrive 1).length = 1 ∧ rockReport.drive ≠ .fault ∧
    { rockReport with drive := .fault }.drive = .fault ∧ (ground.winder .rock).driveFaultLatch = false ∧
    { inState .parked with driveFaultLatch := true }.driveFaultLatch = true := by decide +kernel

theorem test_hyp_FaultsAreRecorded :
    let e : FaultEntry := FaultEntry.startupStoreInvalid
    ground.primary = none ∧ ({ ground with primary := some e } : State).primary ≠ none ∧ ground.faults.length < 16 ∧
    16 ≤ ({ ground with faults := List.replicate 16 e } : State).faults.length := by decide +kernel

theorem test_hyp_TripFaultsActByTheState :
    (tripReport .overwind none).severity = .trip ∧ (tripReport .driveFault (some 31)).detail = some 31 ∧
    ((service .lockout).winder .service).state = .lockout ∧ ((service .tripped).winder .service).state = .tripped ∧
    ((active .running .moving).pipe .service).active = some (cageTrip .moving) ∧
    ((active .running .moving).pipe .service).staged = none ∧
    (staged.pipe .service).staged = some (cageTrip .pending) ∧ (cageTrip .pending).source = some (upperCall 3 .waiting) ∧
    Winder.rock ≠ (tripReport .overwind none).winder := by
  decide +kernel

/-- A staged cycle for which the four parts of the readiness condition hold is not ready while the cycle before it is active,
whatever forms the flag, and is ready by the next rock report once that cycle has ended (R133; log 54). -/
theorem test_readiness_waits_for_the_cycle_before :
    let before : State := cycling .settling .settling
    let s : State := { before with
      pipes := before.pipes.set .rock { before.pipe .rock with staged := some { cycleTrip with number := 6 } } }
    let ready (s : State) : Option Bool := (s.pipe .rock).staged.map (·.ready)
    let report := Instr.positionReport (rockDrive 20)
      { serviceBody with clutchState := 1, first := ⟨-280000, 0, 1000⟩, second := some ⟨29600000, 0, 1000⟩ }
    s.cycleActive = true ∧ s.rockReady .skip1 = true ∧ ready s.formReadiness = some false ∧
    (after report s).rockReady .skip1 = true ∧ ready (after report s) = some false ∧
    (let t := s.endActive .rock .completed
     t.cycleActive = false ∧ ready t = some false ∧ ready (after report t) = some true) ∧
    cycleStaged.cycleActive = false ∧ cycleStaged.rockReady .skip1 = true ∧ ready cycleStaged.formReadiness = some true := by
  decide +kernel

theorem test_hyp_SkipContentsAndReadiness :
    (ground.pairing = .paired .a ∧ (ground.position Skip.skip1.conveyance).rest = true ∧
      ground.standsAt .skip1 Pocket.a.point = true ∧ ground.admits (ore 3) .loaded 3 none ∧
      ({ ground with skips := ⟨⟨.empty, 0⟩, ⟨.empty, 0⟩⟩ } : State).skips.skip1.isLoaded = false) ∧
    State.reset.pairing = .unpaired ∧
    (ground.admits (ore 1) .tipped 1 none ∧ ground.standsAt .skip0 .tip = true ∧ ground.standsAt .skip1 .tip = false) ∧
    (contentsCode 1 (some 1000) = some (.loaded 1000) ∧
      ground.admits (con 5) .setSkipContents (2 + optionalSize 2 (Presence.present 1000)) none ∧ (ground.pipe .rock).active = none ∧
      (ground.pipe .rock).staged = none) ∧
    (cycleTrip.isRockCycle = true ∧ cycleTrip.leg = some (ground.cycleLeg .skip1 .a) ∧
      skipOf (ground.cycleLeg .skip1 .a).leading = some .skip1 ∧ cycleTrip.granted = false) := by
  unfold State.admits; decide +kernel

theorem test_hyp_RePairGoesByTheClutch :
    let s (c : Clutch) : State := { rock .idle with clutch := some c }
    (pocketCode 1 = some .b ∧ skipCode 1 = some .skip1 ∧ (s .closed).rePairTests .b .skip1 = none ∧
      (s .opened).rePairTests .b .skip1 = none ∧ (s .closed).admits (con 2) .rePair 2 none ∧ (s .closed).clutch = some .closed ∧
      (s .closed).pairing ≠ .unpaired) ∧
    ((clutching .opening).repair = some ⟨.opening, .b, .skip1, none⟩ ∧
      ((clutching .opening).winder .rock).stopPending = false ∧
      (clutching .freeMove).repair = some ⟨.freeMove, .b, .skip1, none⟩) ∧
    ((clutching .closing).repair = some ⟨.closing, .b, .skip1, none⟩ ∧
      ((clutching .closing).pipe .rock).active.all (fun a => a.kind == .rePair) = true ∧
      ((clutching .closing).pipe .rock).active ≠ none ∧ ((clutching .closing).winder .rock).state = .clutching) := by
  unfold State.admits; decide +kernel

/-- The closing confirmation releases the calls that becoming Unpaired held, and leaves the others (R69, R135). -/
theorem test_closing_confirmation_releases_the_calls :
    let cycle (id : Nat) (st : CallState) : Call := ⟨id, .ore, .cycle .skip0, false, st, 0⟩
    let s : State := { clutching .closing with queues := ⟨[], [cycle 1 .heldPairing, cycle 2 .heldWork]⟩ }
    let u := s.takeClutch .closed
    (u.queues.get .rock).map (·.state) = [.waiting, .heldWork] ∧ u.pairing = .paired .b ∧ u.clutch = some .closed ∧
    u.pairBeyond = false := by decide +kernel

/-- The cycle that the planner stages is ready by the condition of R133, a cage trip is not (R78, R82). -/
theorem test_hyp_ThePlannerStagesTheFirstWaitingCall_ready :
    let cycle (k : Skip) : State := { rock .idle with queues := ⟨[], [⟨1, .ore, .cycle k, false, .waiting, 0⟩]⟩ }
    let ready (k : Skip) : Option Bool := (((cycle k).plan .rock).pipe .rock).staged.map (·.ready)
    let cage : State := { service .idle with queues := ⟨[upperCall 3 .waiting], []⟩ }
    (cycle .skip1).plannerRuns .rock = true ∧ ready .skip1 = some true ∧ ready .skip0 = some false ∧
    ((cage.plan .service).pipe .service).staged.map (·.ready) = some false := by decide +kernel

/-- A clutch report with no re-pair in hand, the confirmation of a free move, and what becoming Unpaired finds staged. -/
theorem test_hyp_RePairGoesByTheClutch_reports :
    let inspection : Trip := Trip.built 6 .inspection .inspection [ground.cycleLeg .skip1 .a]
    (ground.repair = none ∧ ground.pairing ≠ .unpaired ∧ State.reset.pairing = .unpaired ∧
      ((cycling .running .moving).activeLeg .rock).any Leg.isCoupled = true ∧ (ground.activeLeg .rock) = none) ∧
    (inspection.kind = .inspection ∧ inspection.leg.any Leg.isCoupled = true ∧ Clutch.opened ≠ .closed) ∧
    (((clutching .freeMove).pipe .rock).offer = none ∧ ((clutching .freeMove).winder .rock).state = .clutching ∧
      ((rock .tripped).winder .rock).state ≠ .clutching) ∧
    ((cycleStaged.pipe .rock).staged = some cycleTrip ∧ cycleTrip.isRockCycle = true ∧ inspection.isRockCycle = false ∧
      cycleTrip.source = some ⟨2, .ore, .cycle .skip1, false, .waiting, 0⟩ ∧
      (∀ x ∈ cycleStaged.queues.get .rock, x.work.merges (.cycle .skip1) = false)) := by decide +kernel

/-- A comparison made and one not made; each condition raised, standing and cleared. -/
theorem test_hyp_EnvelopeConditions :
    let s := active .running .moving
    ((s.monitor .service).running = true ∧ s.inMotion .service = true ∧ ground.inMotion .service = false) ∧
    ({ inState .running with slowCap := some 500 }.slowCap = some 500 ∧ (s.caps.get .service).speed < 500 ∧
      (inState .running).slowCap = none) ∧
    (overAfter false 501 500 100 = true ∧ overAfter false 500 500 100 = false ∧ overAfter true 400 500 100 = false ∧
      overAfter true 401 500 100 = true) ∧
    (criticalHolds 551 500 10 = true ∧ criticalHolds 550 500 10 = false) ∧
    (s.activeLeg .service = some (cageLeg .moving 0) ∧ (s.winder .service).state = .running ∧
      underAfter false 2999 12000 100 3000 500000 96000 = true ∧ underAfter true 3100 12000 100 3000 500000 96000 = false) := by
  decide +kernel

theorem test_hyp_EnvelopeRequestsAreTaken :
    let locked : State := { ground with monitors := ⟨{ Monitor.atPowerOn with tripLock := true }, Monitor.atPowerOn⟩ }
    let stopped : State := { ground with monitors := ⟨{ Monitor.atPowerOn with running := false }, Monitor.atPowerOn⟩ }
    (readEnvelope 500 1 50 15 = some ⟨500, .latched, 50, 15⟩ ∧ (stopped.winder .service).state = .parked ∧
      (stopped.monitor .service).envelopeLock = false ∧ (stopped.monitor .service).tripLock = false ∧
      (stopped.monitor .service).running = false ∧ stopped.admits (con 6) .writeEnvelope 6 (some 0)) ∧
    (locked.admits (con 1) .stopMonitor 1 (some 0) ∧ (locked.monitor .service).tripLock = true ∧
      ground.admits (con 1) .setTripLock 1 (some 0) ∧ ground.admits (con 1) .startMonitor 1 (some 0) ∧
      ground.admits (con 1) .clearIndications 1 (some 0)) ∧
    (let high : State := { active .running .moving with
       monitors := ⟨{ Monitor.atPowerOn with overIndication := true }, Monitor.atPowerOn⟩ }
     (high.monitor .service).overIndication = true ∧ (high.monitor .service).overCondition = false ∧
       high.inMotion .service = true ∧ high.admits (con 1) .clearIndications 1 (some 0)) := by
  unfold State.admits; decide +kernel

/-- WRITE ENVELOPE refused in the order of R149, by each lock, and a change to Follow that clears an indication (R148). -/
theorem test_hyp_EnvelopeRequestsAreTaken_refusals :
    let write (hysteresis mode under margin : Nat) := Instr.writeEnvelope (con 6) 0 hysteresis mode under margin
    let monitored (m : Monitor) : State := { ground with monitors := ⟨m, Monitor.atPowerOn⟩ }
    let m : Monitor := { Monitor.atPowerOn with running := false }
    let s : State :=
      { monitored { m with overIndication := true } with
        work := { ground.work with envelope := ground.work.envelope.set .service ⟨100, .latched, 25, 10⟩ } }
    let t := after (write 100 0 25 10) s
    ground.work.envelope.get .service = ⟨100, .follow, 25, 10⟩ ∧
    [(write 101 0 25 10, service .idle), (write 100 2 25 10, ground), (write 100 0 9 10, ground), (write 100 0 25 16, ground),
      (write 250 0 25 10, service .idle), (write 250 0 25 10, monitored { m with envelopeLock := true }),
      (write 100 0 25 11, monitored { m with tripLock := true }), (write 250 0 25 10, ground), (write 100 0 26 10, ground)].map
        (fun p => lastCode (after p.1 p.2)) =
      [Reason.outOfRange, .outOfRange, .outOfRange, .outOfRange, .notParked, .locked, .locked, .monitorRunning,
        .monitorRunning].map (fun r => some (.refused r)) ∧
    lastCode (after (write 100 0 25 10) (monitored { m with envelopeLock := true })) = some .done ∧
    lastCode (after (write 250 0 25 10) (monitored { m with tripLock := true })) = some .done ∧
    lastCode t = some .done ∧ (t.monitor .service).overIndication = false ∧
    (s.monitor .service).overIndication = true ∧ (s.monitor .service).overCondition = false ∧
    indicationModeCode 0 = some .follow ∧ indicationModeCode 1 = some .latched := by decide +kernel

theorem test_hyp_RecordsAndStores :
    (ground.winder .service).state ≠ .tripped ∧ ((service .tripped).winder .service).state = .tripped ∧
    ground.bothParked = true ∧ (service .idle).bothParked = false ∧ State.reset.unconfigured = true ∧
    State.reset.configurable = false ∧ ground.faults.length < 16 ∧
    (after (.commit (con 0)) ground).commit ≠ none ∧ (after (.barStation (con 1) 3) ground).recordWrite ≠ none := by
  decide +kernel

theorem test_hyp_PowerOnRunsTheStartUpSequence :
    let s : State := { ground with
      storedCurrent := { StoredConfig.blank with sound := true }
      recordCurrent := { ShaftRecord.blank with sound := true } }
    s.storedCurrent.sound = true ∧ s.recordCurrent.sound = true ∧
    (∀ e ∈ s.storedCurrent.zones, tableGet s.recordCurrent.work e.1 = none) ∧ s.emergencyLine = ⟨false, false⟩ ∧
    ground.storedCurrent.sound = false ∧ ground.recordCurrent.sound = false := by decide +kernel

/-- POWER ON with one store unsound, with a line asserted, and with a stored entry displaced by a recorded one (R14, R107,
R179). -/
theorem test_power_on_clauses :
    let zone (kind : ZoneKind) : Zone := ⟨kind, ⟨true, true, false, false⟩, 0, 20, none, []⟩
    let s : State := { ground with
      emergencyLine := ⟨false, true⟩
      storedCurrent := { StoredConfig.blank with sound := true, zones := [(20, zone .inspect)], generation := 7 } }
    let both : State := { s with recordCurrent := { ShaftRecord.blank with sound := true, work := [(20, zone .work)] } }
    let t := after .powerOn s
    let u := after .powerOn both
    (s.emergencyLine.get .rock = true ∧ s.emergencyLine.get .service = false) ∧
    t.faults.map (·.kind) = [.storeInvalid, .emergencyStop] ∧ t.primary.map (·.kind) = some .emergencyStop ∧
    t.sent = [.order .rock 0 .brake] ∧ (t.winder .rock).state = .tripped ∧ (t.winder .service).state = .parked ∧
    (t.position .skip0).armed = false ∧ (t.position .cage).armed = true ∧ t.generation = 7 ∧ t.overflow = 0 ∧
    t.zones = [(20, zone .inspect)] ∧
    u.faults.map (·.kind) = [.emergencyStop] ∧ u.zones = [(16, zone .inspect), (20, zone .work)] := by decide +kernel

/-- CLOSE CALL with a presence byte that no code assigns, on an assembly with a deck and on an empty one. -/
theorem test_hyp_AssemblyBuildsACall_presence :
    let s (decks : List Deck) : State := { ground with assembly := some ⟨1, .men, decks, 80000⟩ }
    let size := ridersSize (.unassigned 2) + optionalSize 2 (Presence.absent : Presence Nat)
    (Presence.unassigned 2 : Presence (List Nat)).read = none ∧ (Presence.unassigned 2 : Presence Nat).read = none ∧
    (s [.upper]).admits (sig 2) .closeCall size none ∧ (s []).admits (sig 2) .closeCall size none ∧
    ground.admits (sig 2) .closeCall size none ∧ ground.assembly = none ∧ [Deck.upper] ≠ [] := by
  unfold State.admits; decide +kernel

/-- A disagreement above the trip limit, above the warn limit alone, at each limit, and one not reported. -/
theorem test_hyp_MarkerPassesCorrectTheRecord_disagreement :
    let x := ground.work.tracking
    x.trip < (401 : Int).natAbs ∧ x.trip < (-401 : Int).natAbs ∧ (x.warn < (400 : Int).natAbs ∧ (400 : Int).natAbs ≤ x.trip) ∧
    (x.warn < (-101 : Int).natAbs ∧ (-101 : Int).natAbs ≤ x.trip) ∧ ((100 : Int).natAbs ≤ x.warn ∧ (100 : Int).natAbs ≤ x.trip) ∧
    (let low : State := { ground with work := { ground.work with tracking := { x with warn := 500 } } }
     low.work.tracking.trip < (450 : Int).natAbs ∧ (450 : Int).natAbs ≤ low.work.tracking.warn) := by decide +kernel

/-- A zone of each kind in the sets, a band above the creep threshold, and inspection mode. -/
theorem test_hyp_CapIsTheLeastTerm_terms :
    let joined (kind : ZoneKind) (u l : Int) : State := ((zoned kind u l).rebuildSet .cage).rebuildSet .counterweight
    (let s := joined .slow 0 20
     tableGet s.zones 20 ≠ none ∧ 20 ∈ (s.position .cage).zoneSet ∧ 20 ∉ (s.position .counterweight).zoneSet ∧
      .cage ∈ conveyancesOf .service) ∧
    (let s := joined .passing (-60000) 3200000
     (∀ c ∈ conveyancesOf .service, 20 ∈ (s.position c).zoneSet) ∧
      (tableGet s.zones 20).any (fun z => z.kind == .passing && z.cap == some 500) = true) ∧
    (trackingDefaults.creepThreshold < (Position.atPowerOn 600 0).band ∧
      ¬(∃ c ∈ conveyancesOf .service, ground.work.tracking.creepThreshold < (ground.position c).band)) ∧
    ((active .stopping .moving).inMotion .service = true ∧
      ({ inState .running with mode := .inspection } : WinderRecord).mode = .inspection) := by decide +kernel

/-- A descending leg before its target, an ascending one past it, and a record with no estimate. -/
theorem test_hyp_ApproachLimitIsTheWholeRoot_distance :
    let leg := cageLeg .moving 0
    leg.motions.find? (fun m => m.conveyance == leg.leading) = some ⟨.cage, 500000, some 40⟩ ∧
    (ground.position leg.leading).estimate = some 0 ∧ leg.direction = .descending ∧ ground.toGo leg = 500000 ∧
    ({ leg with direction := .ascending } : Leg).direction = .ascending ∧ ground.toGo { leg with direction := .ascending } = 0 ∧
    (State.reset.position leg.leading).estimate = none := by decide +kernel

/-- ADD WORK ZONE out of range in each of its fields and with the table full; a zone met by the paths of a staged and of an
active trip; a path with and without an estimate; a zone found on the paths and one passed over. -/
theorem test_hyp_WorkZonesAreAddedAndRemoved_paths :
    let full : State := { ground with
      zones := (List.range 48).map (fun n => (n + 16, ⟨.slow, ⟨true, false, false, false⟩, 90000, 90001, some 500, []⟩)) }
    let s := zoned .work 90000 99999
    let meets (p : Path) : Bool := (tableGet s.zones 20).any (fun z => z.meetsPath p)
    (readWorkZone 3 0 1 (List.replicate 13 65) = none ∧ readWorkZone 16 0 1 [] = none ∧ readWorkZone 0 0 1 [] = none ∧
      readWorkZone 3 1 1 [] = none ∧ ground.admits (sig 10) .addWorkZone (9 + listSize []) none) ∧
    ((readWorkZone 3 0 1 []).isSome = true ∧ lowestFreeOrdinary full.zones = none ∧ zonesOrdered full.zones = true) ∧
    ((ground.stagedPaths (cageTrip .pending).legs).any meets = true ∧ (s.activePaths (cageTrip .moving)).any meets = true ∧
      ((active .running .moving).pipe .service).active = some (cageTrip .moving)) ∧
    ((ground.position .cage).estimate ≠ none ∧ (State.reset.position .cage).estimate = none ∧
      (ground.path .cage 0 [500000]).interval = ⟨-20, 500020⟩) ∧
    (zonesOrdered s.zones = true ∧ s.pathCheck .work [s.path .cage 0 [500000]] (fun _ _ => false) = some 20 ∧
      s.pathCheck .work [s.path .cage 0 [500000]] (fun _ n => n == 20) = none ∧
      s.pathCheck .work [s.path .skip0 0 [500000]] (fun _ _ => false) = none) := by
  unfold State.admits; decide +kernel

/-- A call of each kind of work, and one over a rating. -/
theorem test_hyp_ThePlannerStagesTheFirstWaitingCall_trips :
    (upperCall 3 .waiting).work = .cage 1 .men [.upper] (some [5]) none ∧
    (cycleTrip.source.map (·.work)) = some (.cycle .skip1) ∧
    (CallWork.cage 1 .men [.upper] (some [60]) (some 12000)).overRating = false ∧
    (CallWork.cage 1 .men [.upper] (some [61]) none).overRating = true ∧
    (CallWork.cage 1 .material [.upper] none (some 12001)).overRating = true := by decide +kernel

/-- Decks reached from above, from below and from the first of them; an active trip's last target and none; a pairing. -/
theorem test_hyp_ThePlannerStagesTheFirstWaitingCall_legs :
    let decks : List Deck := [.upper, .lower]
    let at_ (e : Int) : State := { ground with positions := ground.positions.set .cage (standing e) }
    let first (e : Int) : Option (Option Deck × Machine.Class × Direction) :=
      ((at_ e).cageLegs (served 500000) decks .men).head?.map (fun l => (l.deck, l.cls, l.direction))
    let s := active .running .moving
    ((served 500000).depth = some 500000 ∧ decks.Sublist [.upper, .middle, .lower] ∧ decks.head? = some .upper ∧
      decks.getLast? = some .lower) ∧
    ((at_ 0).planOrigin .cage = 0 ∧ first 0 = some (some .lower, .men, .descending)) ∧
    ((at_ 900000).planOrigin .cage = 900000 ∧ first 900000 = some (some .upper, .men, .ascending)) ∧
    first 490801 = some (some .lower, .creep, .descending) ∧ first 499999 = some (some .upper, .creep, .ascending) ∧
    ((cageTrip .moving).legs.getLast? = some (cageLeg .moving 0) ∧ (cageLeg .moving 0).target .cage = some 500000 ∧
      (s.pipe .service).active = some (cageTrip .moving) ∧ (s.position .cage).estimate = some 0 ∧
      s.planOrigin .cage = 500000) ∧
    ((ground.pipe .service).active = none ∧ (ground.position .cage).estimate = some 0 ∧ ground.pairing = .paired .a ∧
      ground.planOrigin .cage = 0) := by decide +kernel

/-- An inspection leg in each direction, of each conveyance, with the clutch closed on a pairing and opened. -/
theorem test_hyp_ConsoleTripsAreStaged_legs :
    let legs (s : State) (c : Conveyance) (x : Int) : Leg := s.inspectionLeg c x 1
    let free : State := { ground with clutch := some .opened }
    (ground.planOrigin .cage < 50000 ∧ (legs ground .cage 50000).direction = .descending ∧
      -50 < ground.planOrigin .cage ∧ (legs ground .cage (-50)).direction = .ascending) ∧
    (skipOf .skip0 = some .skip0 ∧ skipOf .skip1 = some .skip1 ∧ ground.clutch = some .closed ∧ ground.pairing = .paired .a ∧
      free.clutch = some .opened) ∧
    ((legs ground .skip1 2000000).motions.length = 2 ∧ (legs free .skip1 2000000).motions.length = 1) := by decide +kernel

/-- A free skip above its pocket and below it. -/
theorem test_hyp_RePairGoesByTheClutch_legs :
    let low := ground.work.rockPoints.get Pocket.a.point
    (ground.position Skip.skip0.conveyance).estimate = some (-28000) ∧ (-28000 : Int) < low.depth ∧
    (standing (low.depth + 1)).estimate = some (low.depth + 1) ∧
    (ground.freeLeg .skip0 .a 1).direction = .descending := by decide +kernel

/-- Pages of one item, of several, and of fewer than are left. -/
theorem test_hyp_LongReadsAnswerInPages_pages :
    let entry : FaultEntry := ⟨.overFault, .note, some .service, some .cage, some 0, 20, 0, none, none, none, 0, none⟩
    let items := [PageItem.primary none, .fault 1 entry, .fault 2 entry, .fault 3 entry, .fault 4 entry]
    items.drop 0 ≠ [] ∧ 2 ≤ (pageItems (.faults 0) items 1).length ∧
    (pageItems (.faults 0) items 1).length < (items.drop 0).length := by decide +kernel

/-- The CRC register over the nine digits that the check value of this generator is given for. -/
theorem test_crc : crcOf [0x31, 0x32, 0x33, 0x34, 0x35, 0x36, 0x37, 0x38, 0x39] = 0x29B1#16 := by decide +kernel

/-- A report that makes both records of a winder Lost, one of the two, and neither. -/
theorem test_hyp_ReportsUpdateTheRecords_lost :
    let wide (c : Bool) (d : Conveyance) (s : State) : State :=
      if c then { s with positions := s.positions.set d { s.position d with base := 1400 } } else s
    let states (a b : Bool) : List RecordState :=
      let u := (wide a .cage (wide b .counterweight ground)).updateRecords .service serviceReport
      [(u.position .cage).state, (u.position .counterweight).state]
    let faults (a b : Bool) : List (FaultKind × Option Conveyance) :=
      ((wide a .cage (wide b .counterweight ground)).updateRecords .service serviceReport).faults.map
        (fun e => (e.kind, e.conveyance))
    states true true = [.lost, .lost] ∧ states true false = [.lost, .valid] ∧ states false true = [.valid, .lost] ∧
    states false false = [.valid, .valid] ∧ faults true true = [(.positionLost, some .cage), (.positionLost, some .counterweight)] ∧
    faults true false = [(.positionLost, some .cage)] ∧ faults false true = [(.positionLost, some .counterweight)] ∧
    faults false false = [] := by decide +kernel

/-- Slots empty and full, trips with and without a call, a call returned with and without an entry to absorb, and a hold
pending and clear. -/
theorem test_hyp_CallsAreCancelledAndExpire_endings :
    let cycle : CallWork := .cycle .skip1
    let held : State := { service .settling with winders := ⟨{ inState .settling with holdPending := true }, inState .parked⟩ }
    ((ground.pipe .service).active = none ∧ (ground.pipe .service).staged = none ∧
      ((active .settling .settling).pipe .service).active = some (cageTrip .settling) ∧
      (staged.pipe .service).staged = some (cageTrip .pending)) ∧
    ((cageTrip .pending).source = some (upperCall 3 .waiting) ∧ (Trip.built 6 .rePair .rePair []).source = none) ∧
    (((queued [upperCall 9 .waiting]).queues.get .service).find? (fun x => x.work.merges (upperCall 3 .waiting).work) =
        some (upperCall 9 .waiting) ∧ (∀ x ∈ ground.queues.get .service, x.work.merges (upperCall 3 .waiting).work = false)) ∧
    ((cycle = .cycle .skip1 ∧ State.reset.pairing = .unpaired) ∧ ground.pairing ≠ .unpaired) ∧
    ((held.winder .service).holdPending = true ∧ (ground.winder .service).holdPending = false) := by decide +kernel

/-- A queue with no Waiting entry, a first Waiting call that is held, and one that is removed. -/
theorem test_hyp_ThePlannerStagesTheFirstWaitingCall_held :
    let s (calls : List Call) (kind : ZoneKind) : State :=
      { service .idle with
        queues := ⟨calls, []⟩, zones := [(20, ⟨kind, ⟨true, true, false, false⟩, 90000, 99999, some 500, []⟩)] }
    let c := upperCall 3 .waiting
    ((s [upperCall 1 .heldBar] .slow).plannerRuns .service = true ∧
      ∀ c ∈ (s [upperCall 1 .heldBar] .slow).queues.get .service, c.state ≠ .waiting) ∧
    ((s [c] .work).plannerRuns .service = true ∧
      ((s [c] .work).queues.get .service).find? (fun c => c.state == .waiting) = some c ∧
      (s [c] .work).validate .service c = .hold .heldWork) ∧
    ((s [c] .inspect).plannerRuns .service = true ∧
      ((s [c] .inspect).queues.get .service).find? (fun c => c.state == .waiting) = some c ∧
      (s [c] .inspect).validate .service c = .remove (.refusedZone 20)) := by decide +kernel

/-- The end of an event with nothing to offer, with a first offer that sends GRANT, and with one that empties the slot. -/
theorem test_hyp_ReadyLeadsToOffers_settled :
    let ready : State :=
      { staged with
        pipes := staged.pipes.set .service
          { staged.pipe .service with staged := some { cageTrip .pending with ready := true } } }
    let met : State := { ready with zones := [(20, ⟨.work, ⟨true, true, false, false⟩, 90000, 99999, none, []⟩)] }
    (staged.plan .service).canOffer .service = false ∧
    ((ready.plan .service).canOffer .service = true ∧
      (((ready.plan .service).offerLeg .service).pipe .service).staged ≠ none) ∧
    ((met.plan .service).canOffer .service = true ∧
      (((met.plan .service).offerLeg .service).pipe .service).staged = none) := by decide +kernel

/-- A free move that has landed, and what follows it (R121, R140). -/
theorem test_hyp_LandingTestAndWhatFollows_freeMove :
    let s : State := { clutching .freeMove with winders := ⟨inState .parked, inState .settling⟩ }
    let t := Trip.built 6 .rePair .rePair [s.freeLeg .skip1 .b 6]
    let u := s.landLeg .rock t
    (t.kind = .rePair ∧ (s.winder .rock).state = .settling ∧ s.repair = some ⟨.freeMove, .b, .skip1, none⟩) ∧
    (u.winder .rock).state = .clutching ∧ u.repair = some ⟨.closing, .b, .skip1, none⟩ ∧ u.clutchTimer = some 120000 ∧
    u.sent = [.order .rock 0 .clutchClose] := by decide +kernel

/-! ## The refusals that the obligations state, one request for each test in its order -/

/-- The code that each request is answered with in its state. -/
def codesOf (l : List (Instr × State)) : List (Option Code) := l.map (fun p => lastCode (after p.1 p.2))

/-- Refusals, one for each reason. -/
def refusals (l : List Reason) : List (Option Code) := l.map (fun r => some (.refused r))

/-- The refusals of WRITE DRUM SCALE and SET REFERENCE (R27, R28), of RESTART TRACKING out of PARKED (R23), and an estimate
that SET REFERENCE leaves as it was, since the counterweight's falls out of range. -/
theorem test_refusals_of_drums :
    let scale (n k : Nat) := Instr.writeDrumScale (con 5) n k
    let reference (x : Int) := Instr.setReference (con 5) 0 x
    let still : State := { ground with monitors := ⟨{ Monitor.atPowerOn with running := false }, Monitor.atPowerOn⟩ }
    let closed (s : State) : State := { s with commissioning := false }
    let moving : State := { ground with positions := ground.positions.set .cage { standing 0 with rest := false } }
    let t := after (reference 3200000) ground
    codesOf [(scale 3 1000, still), (scale 0 1000, closed still), (scale 0 1000, { service .idle with monitors := still.monitors }),
      (scale 0 1000, ground), (scale 0 999, still)] =
        refusals [.outOfRange, .notCommissioning, .notParked, .monitorRunning, .outOfRange] ∧
    codesOf [(reference 0, closed ground), (reference 0, service .idle), (reference 0, moving), (reference 3200001, ground),
      (.restartTracking (con 1) 0, service .idle)] =
        refusals [.notCommissioning, .notParked, .notAtRest, .outOfRange, .notParked] ∧
    (t.position .cage).estimate = some 3200000 ∧ (t.position .counterweight).estimate = some 3110000 ∧
    (t.position .counterweight).state = .cold := by decide +kernel

/-- The refusals of WRITE TRACKING (R33), WRITE MARKER and REMOVE MARKER (R24), and the limits that bind two settings. -/
theorem test_refusals_of_tracking :
    let x := trackingDefaults
    let track (x : Tracking) := Instr.writeTracking (con 17) x
    let write (id n : Nat) (depth : Int) (accuracy : Nat) := Instr.writeMarker (con 7) id n depth accuracy
    let remove (id : Nat) := Instr.removeMarker (con 1) id
    let closed (s : State) : State := { s with commissioning := false }
    let full : State := { ground with
      work := { ground.work with markers := (List.range 48).map (fun n => ⟨n + 1, .cage, 100000, 20⟩) } }
    codesOf [(track { x with growth := 4 }, service .idle), (track { x with growth := 4 }, ground),
      (track { x with growth := 101 }, ground), (track { x with coldBand := x.creepThreshold }, ground),
      (track { x with ambiguity := 599 }, ground), (track { x with warn := x.trip }, ground),
      (track { x with pair := 10001 }, ground)] =
        refusals [.notParked, .outOfRange, .outOfRange, .outOfRange, .outOfRange, .outOfRange, .outOfRange] ∧
    codesOf [(write 8 4 0 20, closed ground), (write 8 0 0 51, closed (service .idle)), (write 8 0 0 51, service .idle),
      (write 0 0 0 20, ground), (write 8 0 3200001 20, ground), (write 8 0 0 4, full), (write 49 0 0 20, full)] =
        refusals [.outOfRange, .notCommissioning, .notParked, .outOfRange, .outOfRange, .outOfRange, .tableFull] ∧
    codesOf [(remove 8, closed (service .idle)), (remove 8, service .idle), (remove 7, service .idle)] =
        refusals [.notCommissioning, .noSuchMarker, .notParked] ∧
    codesOf [(track { x with growth := 5 }, ground), (write 48 0 0 20, full), (write 8 3 (-60000) 5, ground),
      (remove 7, rock .idle)] = List.replicate 4 (some .done) ∧ x.coldBand = 600 := by decide +kernel

/-- The refusals of WRITE OFFER LIMIT, WRITE REPORT INTERVAL, WRITE SETTLE and WRITE PAYLOAD (R85, R111, R116, R134), and the
ends of the ranges. -/
theorem test_refusals_of_winder_settings :
    let limit (n : Nat) := Instr.writeOfferLimit (con 2) 0 n
    let interval (n : Nat) := Instr.writeReportInterval (con 3) 0 n
    let settle (b c : Nat) := Instr.writeSettle (con 4) 0 b c
    let payload (n c : Nat) := Instr.writePayload (con 3) n c
    codesOf [(limit 0, service .idle), (limit 0, ground), (limit 7, ground), (interval 0, service .idle), (interval 19, ground),
      (interval 501, ground), (settle 0 0, service .idle), (settle 499 0, ground), (settle 5001 0, ground), (settle 500 4, ground),
      (payload 0 2, rock .idle), (payload 200 2, ground), (payload 199 0, ground), (payload 3001 1, ground)] =
        refusals [.notParked, .outOfRange, .outOfRange, .notParked, .outOfRange, .outOfRange, .notParked, .outOfRange, .outOfRange,
          .outOfRange, .notParked, .outOfRange, .outOfRange, .outOfRange] ∧
    codesOf [(limit 1, ground), (limit 6, rock .idle), (interval 20, ground), (interval 500, ground), (settle 500 0, ground),
      (settle 5000 3, ground), (payload 200 0, service .idle), (payload 3000 1, ground)] =
        List.replicate 8 (some .done) := by decide +kernel

/-- The refusals of WRITE ZONE and REMOVE ZONE (R39, R40), and a zone replaced by one of another mask, which leaves the set of
the old mask and enters that of the new (R38). -/
theorem test_refusals_of_zones :
    let write (number : Option Nat) (kind mask : Nat) (cap : Option Nat) : Instr :=
      .writeZone (con (optionalSize 1 (Presence.of number) + 10 + optionalSize 2 (Presence.of cap) + listSize [])) (.of number)
        kind mask 0 20 (.of cap) []
    let remove (n : Nat) := Instr.removeZone (con 1) n
    let closed : State := { ground with commissioning := false }
    let full : State := { ground with
      zones := (List.range 48).map (fun n => (n + 16, ⟨.slow, ⟨true, false, false, false⟩, 90000, 90001, some 500, []⟩)) }
    let s := after (write (some 20) 0 1 (some 500)) ground
    let t := after (write (some 20) 0 2 (some 500)) s
    let sets (u : State) := [(u.position .cage).zoneSet, (u.position .counterweight).zoneSet]
    codesOf [(write none 2 1 none, ground), (write (some 3) 0 1 (some 500), closed), (write none 0 1 (some 500), service .idle),
      (write (some 20) 0 1 (some 500), zoned .work 0 20), (write none 0 1 (some 500), full), (write (some 64) 0 1 (some 500), ground),
      (write none 0 1 none, ground), (write none 0 1 (some 99), ground), (write none 1 5 (some 500), ground)] =
        refusals [.wrongKind, .notCommissioning, .notParked, .workZone, .tableFull, .outOfRange, .outOfRange, .outOfRange,
          .outOfRange] ∧
    codesOf [(remove 64, ground), (remove 3, closed), (remove 20, service .idle), (remove 20, ground),
      (remove 20, zoned .work 0 20)] = refusals [.outOfRange, .notCommissioning, .notParked, .noSuchZone, .workZone] ∧
    sets s = [[20], []] ∧ sets t = [[], []] ∧ (tableGet t.zones 20).map (·.mask) = some ⟨false, true, false, false⟩ := by
  decide +kernel

/-- The refusals of CALL in the order of R58, and which calls ask the same (R59). -/
theorem test_refusals_of_call :
    let call (n k : Nat) (decks : List Nat) (riders : Option (List Nat)) : Instr :=
      .call (con (callSize decks (.of riders) (.of none))) n k decks (.of riders) (.of none) 0
    let upper : State := { ground with
      work := { ground.work with stations := ground.work.stations.set 1 ⟨some 500000, 40, ⟨true, false, false⟩, true⟩ } }
    codesOf [(call 16 0 [0] none, ground), (call 1 0 [] none, ground), (call 1 1 [0] (some [5]), ground),
      (call 1 0 [0, 0] none, ground), (call 15 0 [0] none, ground), (call 1 0 [0, 2] none, upper)] =
        refusals [.outOfRange, .outOfRange, .outOfRange, .deckRepeated, .notInService, .deckNotServed] ∧
    (CallWork.cage 1 .men [.upper, .lower] (some [5, 6]) none).merges (.cage 1 .men [.upper, .lower] none (some 7)) = true ∧
    (CallWork.cage 1 .men [.upper, .lower] none none).merges (.cage 1 .men [.upper] none none) = false ∧
    orderedDecks [.lower, .upper] = [.upper, .lower] ∧ orderedRiders [.lower, .upper] [5, 6] = [6, 5] ∧
    [Deck.lower, .upper].Nodup := by decide +kernel

/-- The refusals of MANUAL TRIP of each winder in the order of R93. -/
theorem test_refusals_of_manual_trip :
    let manual : WinderRecord := { inState .idle with mode := .manual }
    let s : State := { ground with winders := ⟨manual, manual⟩ }
    let both (f : WinderRecord → WinderRecord) : State := { s with winders := ⟨f manual, f manual⟩ }
    let busy (s : State) : State :=
      { s with pipes := ⟨{ s.pipe .service with staged := some (cageTrip .pending) },
                         { s.pipe .rock with staged := some cycleTrip }⟩ }
    let full : State := { s with
      queues := ⟨List.replicate 24 (upperCall 3 .waiting), List.replicate 4 ⟨2, .ore, .cycle .skip1, false, .waiting, 0⟩⟩ }
    let zone (kind : ZoneKind) : State :=
      { s with zones := [(20, ⟨kind, ⟨true, true, true, true⟩, 90000, 99999, none, []⟩)] }
    let upper : State := { s with
      work := { s.work with stations := s.work.stations.set 1 ⟨some 500000, 40, ⟨true, false, false⟩, true⟩ } }
    let trip (n : Nat) (decks : List Nat) (riders : Option (List Nat)) : Instr :=
      let what : ManualBody := .service n decks 0 (.of riders) (.of none)
      .manualTrip (con (manualSize (con 0) what)) what
    let rock := Instr.manualTrip (con 2) (.rock 1)
    codesOf [(trip 16 [0] none, s), (trip 1 [] none, s), (trip 1 [0] (some [5, 5]), s), (trip 1 [0, 0] none, s),
      (trip 1 [0] none, ground), (trip 1 [0] none, both (fun r => { r with state := .parked })),
      (trip 1 [0] none, both (fun r => { r with holdPending := true })), (trip 1 [0] none, busy s), (trip 1 [0] none, full),
      (trip 15 [0] none, s), (trip 1 [2] none, upper), (trip 1 [0] none, { s with bars := Vector.replicate 16 true }),
      (trip 1 [0] none, zone .work), (trip 1 [0] none, zone .inspect), (trip 1 [0] (some [61]), s)] =
        refusals [.outOfRange, .outOfRange, .outOfRange, .deckRepeated, .notManualMode, .winderState, .holdPending, .stagedBusy,
          .queueFull, .notInService, .deckNotServed, .stationBarred, .workZone, .inspectZone, .overRating] ∧
    codesOf [(.manualTrip (con 2) (.rock 2), s), (rock, ground), (rock, both (fun r => { r with state := .parked })),
      (rock, both (fun r => { r with holdPending := true })), (rock, busy s), (rock, full), (rock, { s with pairing := .unpaired }),
      (rock, zone .work), (rock, zone .inspect), (.manualTrip (con 1) (.other 2), s)] =
        refusals [.outOfRange, .notManualMode, .winderState, .holdPending, .stagedBusy, .queueFull, .unpaired, .workZone,
          .inspectZone, .outOfRange] := by decide +kernel

/-- The refusals of INSPECT TRIP in the order of R94 and R109. -/
theorem test_refusals_of_inspect_trip :
    let inspect : WinderRecord := { inState .idle with mode := .inspection }
    let s : State := { ground with winders := ⟨inspect, inspect⟩ }
    let rockIs (r : WinderRecord) : State := { s with winders := ⟨inspect, r⟩ }
    let zone (kind : ZoneKind) (s : State) : State :=
      { s with zones := [(20, ⟨kind, ⟨true, true, true, true⟩, 2900000, 2970000, none, []⟩)] }
    let trip (n : Nat) (x : Int) := Instr.inspectTrip (con 5) n x
    let recovery : State := zone .overwind (rockIs { inspect with recovery := true })
    let onZone : State := recovery.rebuildSet .skip1
    codesOf [(trip 4 0, s), (trip 0 3200001, s), (trip 3 2960000, ground), (trip 3 2960000, rockIs { inspect with state := .parked }),
      (trip 3 2960000, rockIs { inspect with holdPending := true }), (trip 3 2960000, { s with pipes := cycleStaged.pipes }),
      (trip 3 2960000, { s with queues := ⟨[], List.replicate 4 ⟨2, .ore, .cycle .skip1, false, .waiting, 0⟩⟩ }),
      (trip 3 2960000, { s with clutch := some .moving }), (trip 3 2960000, { s with pairing := .unpaired }),
      (trip 3 2960000, onZone), (trip 3 2960000, zone .work s)] =
        refusals [.outOfRange, .outOfRange, .notInspectionMode, .winderState, .holdPending, .stagedBusy, .queueFull, .clutchMoving,
          .unpaired, .recoveryDirection, .workZone] := by decide +kernel

/-- The refusals of RE-PAIR in the order of R137. -/
theorem test_refusals_of_repair :
    let s := rock .idle
    let zone (kind : ZoneKind) : State :=
      { s with zones := [(20, ⟨kind, ⟨true, true, true, true⟩, 2900000, 3000000, none, []⟩)] }
    let pair (n m : Nat) := Instr.rePair (con 2) n m
    codesOf [(pair 2 1, s), (pair 1 2, s), (pair 1 1, rock .running), (pair 1 1, cycleStaged),
      (pair 1 1, { s with winders := s.winders.set .rock { inState .idle with recovery := true } }), (pair 0 1, s),
      (pair 1 1, { s with clutch := none }), (pair 1 0, s), (pair 1 1, zone .work), (pair 1 1, zone .inspect)] =
        refusals [.outOfRange, .outOfRange, .winderState, .stagedBusy, .recovery, .samePairing, .clutchMoving, .skipState,
          .workZone, .inspectZone] := by decide +kernel

/-- The refusals of LOADED (R130), of TIPPED (R131) and of SET SKIP CONTENTS (R132), and a skip that stands in a window and one
that does not (R129). -/
theorem test_refusals_of_skip_contents :
    let loaded (n m : Nat) := Instr.loaded (ore 3) n m
    let set (n code : Nat) (mass : Option Nat) : Instr :=
      .setSkipContents (con (2 + optionalSize 2 (Presence.of mass))) n code (.of mass)
    codesOf [(loaded 2 0, ground), (loaded 1 65536, ground), (loaded 1 0, { ground with pairing := .unpaired }),
      (loaded 0 0, ground), (loaded 1 0, ground), (.tipped (ore 1) 1, ground), (set 2 0 none, ground), (set 0 4 none, ground),
      (set 0 1 none, ground), (set 0 1 (some 65536), ground), (set 1 0 none, cycling .running .moving)] =
        refusals [.outOfRange, .outOfRange, .unpaired, .skipState, .skipState, .skipState, .outOfRange, .outOfRange, .outOfRange,
          .outOfRange, .skipInUse] ∧
    (ground.standsAt .skip0 .tip = true ∧ ground.standsAt .skip1 .pocketA = true ∧ ground.standsAt .skip1 .tip = false ∧
      ({ ground with positions := ground.positions.set .skip0 { standing (-28000) with state := .cold } } : State).standsAt
        .skip0 .tip = false) := by decide +kernel

/-- The expiry of an awaited GRANT that is the offer's, of one that is not, and of one that is not due (R85, R170). -/
theorem test_grant_expiry :
    let s := offered 100000
    let other : State := { s with pipes := s.pipes.set .service { s.pipe .service with offer := none } }
    let u := after (.grantReplyTimeout .service 0) other
    let v := after (.grantReplyTimeout .service 0) (offered 100001)
    s.awaitedExpired .service .grant 0 = true ∧ other.awaitedExpired .service .grant 0 = true ∧ (u.counters.get .service).driveRefusals = 0 ∧
    (u.drives.get .service).awaited = [] ∧ v.pipes = (offered 100001).pipes ∧
    ((v.drives.get .service).awaited).length = 1 := by decide +kernel

/-- The trip and leg that a GRANT VOID names are those of the last GRANT of its tag (R86). -/
theorem test_grant_of_a_tag :
    let s := offered 100000
    let t := s.sendOrder .service (.grant 9 2 500 750 [])
    s.grantOf .service 0 = (3, 1) ∧ t.grantOf .service 1 = (9, 2) ∧ t.grantOf .service 0 = (3, 1) ∧
    (t.sendOrder .service .brake).grantOf .service 1 = (9, 2) := by decide +kernel

/-- What the landing test examines of a cage trip, of a free move and of a rock cycle's leg (R119). -/
theorem test_examined :
    let free := clutching .freeMove
    let leg := free.freeLeg .skip1 .b 6
    ground.examined (cageTrip .settling) (cageLeg .settling 0) = [⟨.cage, 500000, 40⟩] ∧
    (cageTrip .settling).isRockCycle = false ∧ (cageTrip .settling).kind ≠ .rePair ∧ (cageTrip .settling).station = some 1 ∧
    free.examined (Trip.built 6 .rePair .rePair [leg]) leg =
      [⟨.skip1, (free.work.rockPoints.get Pocket.b.point).depth, (free.work.rockPoints.get Pocket.b.point).window⟩] ∧
    (ground.examined cycleTrip (ground.cycleLeg .skip1 .a)).length = 2 := by decide +kernel

/-- A frame in two DAMAGED_FRAMEs is whole where the port's readings show no gap, and discarded and counted where they do
(R165). -/
theorem test_gap_between_two_runs_of_bytes :
    let bytes := (frameBytes (kindNumber .readGeometry) 7 []).map (RxByte.mk false)
    let s := after (.damagedFrame .console (bytes.take 3)) ground
    let second (t : Time) : State := after (.damagedFrame .console (bytes.drop 3)) { s with now := t }
    lastCode (second s.now) = some .done ∧ (second s.now).frameErrors.console = 0 ∧
    lastCode (second (s.now + 1)) = some .done ∧ lastCode (second (s.now + 2)) = none ∧
    (second (s.now + 2)).frameErrors.console = 1 ∧ (second (s.now + 2)).ports.console.reception = .hunting := by
  decide +kernel

/-- What an entry to each state clears of a monitor with everything set (R145 to R147, R152; log 56). -/
theorem test_monitor_entries :
    let m : Monitor := { Monitor.atPowerOn with
      overCondition := true, overIndication := true, underCondition := true, underIndication := true
      underTimer := some 5, critical := true }
    let bits (m : Monitor) : List Bool :=
      [m.overCondition, m.overIndication, m.underCondition, m.underIndication, m.underTimer.isSome, m.critical]
    bits (m.entered .follow .running) = [false, true, false, true, false, false] ∧
    bits (m.entered .follow .stopping) = [true, true, false, false, false, true] ∧
    bits (m.entered .follow .settling) = [false, false, false, false, false, true] ∧
    bits (m.entered .follow .parked) = [false, false, false, false, false, false] ∧
    bits (m.entered .latched .parked) = [false, true, false, true, false, false] := by decide +kernel

/-! ## The figures of the spec's worked sequences, and one step of a command of each family -/

/-- The deck targets at S9 (section 1.6). -/
theorem test_deck_targets :
    (ground.cageLegs (served 2040000) [.upper, .middle, .lower] .men).map (fun l => (l.deck, l.motions.map (·.target))) =
      [(some .lower, [2030800, 1079200]), (some .middle, [2035400, 1074600]), (some .upper, [2040000, 1070000])] := by
  decide +kernel

/-- The band before marker 42 (chapter 2). -/
theorem test_band :
    ({ standing 1860000 with base := 10, travel := 55000 } : Position).takeReport trackingDefaults 1899400 12000 =
      { standing 1860000 with
        estimate := some 1899400, reportEstimate := some 1899400, base := 10, band := 199, travel := 94400, speed := 12000,
        direction := .descending, rest := false } := by decide +kernel

/-- The approach limits of the descent to S9 (chapter 3). -/
theorem test_approach_limits :
    [1030800, 820800, 481800, 455800, 40800, 100, 0].map (fun d =>
      ({ ground with positions := ground.positions.set .cage (standing (500000 - d)) } : State).approachLimit
        (cageLeg .moving 0)) = [39321, 35088, 26883, 26147, 7823, 500, 500] := by decide +kernel

/-- The lengths of a GRANT of one drum (chapter 11): 17 bytes of body, 23 of frame; the CRC of a known text. -/
theorem test_frames :
    (orderBytes (.grant 530 1 12000 750 [⟨.service, 1120000, 11200000⟩])).length = 17 ∧
    (sentBytes (.order .service 40 (.grant 530 1 12000 750 [⟨.service, 1120000, 11200000⟩]))).2.length = 23 ∧
    crcOf ([0x31, 0x32, 0x33, 0x34, 0x35, 0x36, 0x37, 0x38, 0x39] : List Byte) = 0x29B1#16 := by decide +kernel

/-- A CALL, a POSITION REPORT and the reply to a GRANT read from their bytes (R166, R174). -/
theorem test_frames_read :
    readFrame .console ((frameBytes (kindNumber .call) 7 [1, 0, 2, 2, 0, 1, 2, 5, 6, 0, 1]).drop 1) =
      .call (con 11) 1 0 [2, 0] (.present [5, 6]) .absent 1 ∧
    readFrame .serviceDrive ((frameBytes (kindNumber .positionReport) 11 [0, 0, 1, 0, 0xFF, 0xFF, 0xFF, 0xFE, 0xFF, 0xFB, 3, 0xE8]).drop 1) =
      .positionReport (serviceDrive 12) ⟨0, 0, 1, 0, ⟨-2, -5, 1000⟩, none⟩ ∧
    readFrame .rockDrive ((frameBytes (kindNumber .grant + 128) 4 [1]).drop 1) = .grantReply .rock 4 1 ∧
    readFrame .console ((frameBytes (kindNumber .writeGeometry) 7 [2, 0]).drop 1) =
      .writeGeometry (con 2) (.unassigned 2) .absent := by decide +kernel

/-- An item of READ POSITION holds the whole zone set and fits a body with what goes beside it: the list of its numbers where
that fits, 33 of them beside the longest repeated part and 53 beside a short one, and else a map (R34, R171, R174; log 47). -/
theorem test_longest_position_item :
    let p (n : Nat) : Position := { standing 0 with lastMarker := some 7, zoneSet := List.range n }
    let full : PageCommon := .positions ⟨some 0, some 0⟩ ⟨some 0, some 0, some 0, some 0⟩
    let bare : PageCommon := .positions ⟨some 0, none⟩ ⟨none, none, none, none⟩
    let size (common : PageCommon) (n : Nat) : Nat :=
      3 + (answerBytes (pageAnswer common [.position .cage (p n), .position .skip0 (p 0)] 1)).length
    size full 33 = 96 ∧ size full 34 = 71 ∧ size full 64 = 71 ∧ size bare 34 = 77 ∧ size bare 53 = 96 ∧ size bare 54 = 78 ∧
    zoneSetBytes 3 [3, 20] = [2, 3, 20] ∧ zoneSetBytes 34 (List.range 34) = [255, 255, 255, 255, 255, 3, 0, 0, 0] ∧
    ({ ground with positions := ⟨p 64, p 1, p 2, p 3⟩ } : State).positionItems.1.head? = some (.position .cage (p 64)) ∧
    answerBytes (.bar true) = [0] ∧ answerBytes (.indications false true) = [1, 1] := by decide +kernel

/-- A whole frame among the bytes of DAMAGED_FRAME is answered, after a damaged one is counted. -/
theorem test_damaged_bytes_then_a_frame :
    let bytes := ([0xA5, 97] ++ frameBytes (kindNumber .readGeometry) 7 []).map (RxByte.mk false)
    let t := after (.damagedFrame .console bytes) ground
    lastCode t = some .done ∧ t.sent.length = 1 ∧ t.frameErrors.console = 1 ∧ t.ports.console.reception = .hunting := by
  decide +kernel

/-- A request of a drive on the console link drops the page snapshot, and one on the signal link abandons the assembly and
says so (R68, R169, R171). -/
theorem test_drive_requests_elsewhere :
    let s : State := { held .faults with assembly := some ⟨1, .men, [], 99000⟩ }
    (after (.driveFault (con 1) 0) s).snapshot = none ∧ (after (.driveFault (con 1) 0) s).assembly ≠ none ∧
    (after (.driveFault (sig 1) 0) s).sent =
      [.reply .signal (kindNumber .driveFault + 128) 8 ⟨.refused .notForThisLink, true, .nothing⟩] ∧
    (after (.winderReset (con 1) 0) s).sent =
      [.reply .console (kindNumber .winderReset + 128) 7 ⟨.done, true, .nothing⟩] := by decide +kernel

/-- OVERSPEED carries the cap (R145), and its entry sends it last. -/
theorem test_overspeed_carries_the_cap :
    let s : State := { active .running .moving with
      monitors := ⟨{ Monitor.atPowerOn with running := true, speed := 600, cap := ⟨500, some .creepBand⟩ }, Monitor.atPowerOn⟩ }
    (s.compareCritical .service).faults.map (fun e => (e.kind, e.cap)) = [(.overspeed, some 500)] := by decide +kernel

/-- The OVER and CRITICAL figures of chapter 9. -/
theorem test_over : overAfter false 9300 9000 100 = true ∧ overAfter true 9050 9000 100 = true ∧
    overAfter true 8880 9000 100 = false ∧ criticalHolds 9300 9000 10 = false ∧ criticalHolds 9901 9000 10 = true := by decide

theorem test_marker_pass :
    let t := after (.markerPass .cage 7) { ground with positions := ground.positions.set .cage (standing 99880) }
    (t.position .cage).estimate = some 100000 ∧ (t.position .cage).correction = 120 ∧
    t.faults.map (fun e => (e.kind, e.severity, e.detail)) = [(.markerDisagreement, .note, some 120)] := by decide +kernel

theorem test_priority_call :
    let t := after (.call (con 7) 1 0 [2] .absent .absent 1) (queued [upperCall 1 .waiting])
    (t.queues.get .service).map (·.id) = [2, 1] ∧ lastCode t = some .done ∧ t.lastCallId.get .service = 2 := by decide +kernel

theorem test_ready_sends_grant :
    let t := after (.ready (sig 3) 3 1) staged
    (t.pipe .service).offer = some (.awaiting 0 100500) ∧ t.sent.length = 2 ∧ lastCode t = some .done := by decide +kernel

theorem test_late_reply_sends_grant_void :
    (after (.grantReply .service 0 1) { offered 100500 with pipes := ground.pipes }).sent =
      [.order .service 1 (.grantVoid 3 1)] := by decide +kernel

theorem test_leg_complete_settles :
    let t := after (.legComplete (serviceDrive 3) 3 1) (active .running .moving)
    (t.winder .service).state = .settling ∧ (t.winder .service).permit = false ∧
    (t.pipe .service).settle = some ⟨101500, 3, 1⟩ := by decide +kernel

theorem test_bar_holds_calls :
    let t := after (.barStation (con 1) 1) (queued [upperCall 1 .waiting])
    (t.queues.get .service).map (·.state) = [.heldBar] ∧ t.bars[1] = true ∧ t.recordWrite.isSome = true := by decide +kernel

theorem test_write_zone_takes_lowest_free :
    let t := after (.writeZone (con 15) .absent 0 3 0 20 (.present 500) []) ground
    t.zones.map (·.1) = [16] ∧ (t.position .cage).zoneSet = [16] ∧ lastCode t = some .done := by decide +kernel

theorem test_emergency_stop_trips :
    let t := after (.emergencyStopAsserted .service) (active .running .moving)
    (t.winder .service).state = .tripped ∧ (t.pipe .service).latest = some ⟨3, .aborted⟩ ∧
    t.sent = [.order .service 0 .brake] ∧ (t.primary.map (·.kind)) = some .emergencyStop := by decide +kernel

theorem test_re_pair_opens_the_clutch :
    let t := after (.rePair (con 2) 1 1) (rock .idle)
    (t.winder .rock).state = .clutching ∧ t.pairing = .unpaired ∧ t.clutchTimer = some 120000 ∧
    t.sent.head? = some (.order .rock 0 .clutchOpen) := by decide +kernel

theorem test_commit_and_its_end :
    let t := after (.commit (con 0)) ground
    t.commit.map (·.deadline) = some 102000 ∧ (after (.commitWriteEnd true) t).generation = 1 ∧
    lastCode (after (.readGeometry (con 0)) t) = some .busy := by decide +kernel

theorem test_clear_indications_sends_resume :
    let s : State := { active .running .moving with
      monitors := ⟨{ Monitor.atPowerOn with overIndication := true }, Monitor.atPowerOn⟩ }
    (after (.clearIndications (con 1) 0) s).sent.head? = some (.order .service 0 .resume) := by decide +kernel

theorem test_power_on_of_a_blank_unit :
    let t := after .powerOn State.reset
    t.unconfigured = true ∧ t.faults.length = 2 ∧ t.bars = Vector.replicate 16 true := by decide +kernel

/-- An early close of an assembly with a presence byte that no code assigns, and READ CAP outside RUNNING (R67, R49, R174). -/
theorem test_close_call_of_an_unassigned_presence_byte :
    let s : State := { ground with assembly := some ⟨1, .men, [.upper], 80000⟩ }
    let t := after (.closeCall (sig 2) (.unassigned 2) .absent) s
    t.assembly = none ∧ lastCode t = some (.refused .outOfRange) ∧
    answerBytes (.cap ⟨0, none⟩ none) = capBytes ⟨0, none⟩ ++ u8 0 ++ u8 0 := by decide +kernel

end Sys2Proof.Machine.Slice0
end

/-! PROOFS. The Zone Table: what touching a zone and a zone set are (R37), and the cap as the first of the least of its
terms (R47). -/

namespace Sys2Proof.Machine

/-! ## Touching and zone sets (R37) -/

/-- Two intervals that each hold a depth meet exactly when they share one; the greater of the upper bounds is shared. -/
theorem Interval.meets_iff_exists_mem {a b : Interval} (ha : a.lo ≤ a.hi) (hb : b.lo ≤ b.hi) :
    a.meets b = true ↔ ∃ x, a.lo ≤ x ∧ x ≤ a.hi ∧ b.lo ≤ x ∧ x ≤ b.hi := by
  simp only [Interval.meets, decide_eq_true_eq]
  constructor
  · rintro ⟨hab, hba⟩
    exact ⟨max a.lo b.lo, le_max_left .., max_le ha hba, le_max_right .., max_le hab hb⟩
  · rintro ⟨x, hax, hxa, hbx, hxb⟩
    exact ⟨hax.trans hxb, hbx.trans hxa⟩

/-- The interval of a record about its estimate is never empty, since a band is not negative. -/
theorem around_lo_le_hi (d : Int) (half : Nat) : (around d half).lo ≤ (around d half).hi := by
  simp only [around]; omega

theorem touches_iff_meets (c : Conveyance) (p : Position) (z : Zone) :
    touches c p z = true ↔
      z.mask.get c = true ∧ ∃ e, p.estimate = some e ∧ (around e p.band).meets z.interval = true := by
  cases h : p.estimate <;> simp [touches, Position.interval, h]

theorem touches_iff_bounds (c : Conveyance) (p : Position) (z : Zone) :
    touches c p z = true ↔
      z.mask.get c = true ∧ ∃ e, p.estimate = some e ∧ e - p.band ≤ z.lower ∧ z.upper ≤ e + p.band := by
  simp [touches_iff_meets, Interval.meets, around, Zone.interval]

theorem touches_iff_shared_depth (c : Conveyance) (p : Position) {z : Zone} (hz : z.upper ≤ z.lower) :
    touches c p z = true ↔
      z.mask.get c = true ∧ ∃ e, p.estimate = some e ∧
        ∃ x : Int, e - p.band ≤ x ∧ x ≤ e + p.band ∧ z.upper ≤ x ∧ x ≤ z.lower := by
  have shared (e : Int) : (around e p.band).meets z.interval = true ↔
      ∃ x : Int, e - p.band ≤ x ∧ x ≤ e + p.band ∧ z.upper ≤ x ∧ x ≤ z.lower :=
    Interval.meets_iff_exists_mem (around_lo_le_hi e p.band) hz
  simp only [touches_iff_meets, shared]

@[simp] theorem State.rebuildSet_zoneSet (s : State) (c : Conveyance) :
    ((s.rebuildSet c).position c).zoneSet = s.touched c := by
  simp [State.rebuildSet, Position.withSet]

theorem State.mem_touched (s : State) (c : Conveyance) (n : Nat) :
    n ∈ s.touched c ↔ ∃ z, (n, z) ∈ s.zones ∧ touches c (s.position c) z = true := by
  simp [State.touched]

theorem rising_of_zonesOrdered {t : List (Nat × Zone)} (h : zonesOrdered t = true) : Rising t := by
  simp only [zonesOrdered, Bool.and_eq_true, decide_eq_true_eq] at h
  exact h.1

/-- The zones touched are a part of the table in the table's order, so their numbers rise as the table's do. -/
theorem State.touched_pairwise (s : State) (c : Conveyance) (h : zonesOrdered s.zones = true) :
    (s.touched c).Pairwise (· < ·) :=
  (rising_of_zonesOrdered h).sublist (List.filter_sublist.map _)

/-- Without an estimate there is no interval to meet a zone. -/
theorem State.touched_eq_nil (s : State) (c : Conveyance) (h : (s.position c).estimate = none) : s.touched c = [] := by
  refine List.eq_nil_iff_forall_not_mem.2 fun n hn => ?_
  obtain ⟨z, -, touched⟩ := (s.mem_touched c n).1 hn
  obtain ⟨-, e, estimate, -⟩ := (touches_iff_meets c _ z).1 touched
  simp [h] at estimate

/-- Settles O28, from the lemmas about `touches` and about the list of the zones touched. -/
theorem touchingIsSharingADepth : Obligations.TouchingIsSharingADepth :=
  ⟨fun c p z => ⟨touches_iff_bounds c p z, touches_iff_shared_depth c p⟩,
   fun s c => ⟨s.rebuildSet_zoneSet c, s.mem_touched c, s.touched_pairwise c, s.touched_eq_nil c⟩⟩

/-! ## The least of a list of terms (R47) -/

theorem leastCap_speed_le_head (c : Cap) (rest : List Cap) : (leastCap c rest).speed ≤ c.speed := by
  induction rest generalizing c with
  | nil => exact le_rfl
  | cons d rest ih =>
    rw [leastCap]
    split
    · next less => exact (ih d).trans less.le
    · exact ih c

/-- `leastCap` picks the first of the least: every entry before it is greater, and no entry after it is less. -/
theorem leastCap_spec (c : Cap) (rest : List Cap) :
    ∃ before after, c :: rest = before ++ leastCap c rest :: after ∧
      (∀ d ∈ before, (leastCap c rest).speed < d.speed) ∧ ∀ d ∈ after, (leastCap c rest).speed ≤ d.speed := by
  induction rest generalizing c with
  | nil => exact ⟨[], [], rfl, by simp, by simp⟩
  | cons d rest ih =>
    rw [leastCap]
    split
    · next less =>
      obtain ⟨before, after, parts, greater, notLess⟩ := ih d
      have head := (leastCap_speed_le_head d rest).trans_lt less
      exact ⟨c :: before, after, by rw [parts]; rfl, List.forall_mem_cons.2 ⟨head, greater⟩, notLess⟩
    · next notLessHead =>
      obtain ⟨before, after, parts, greater, notLess⟩ := ih c
      cases before with
      | nil =>
        obtain ⟨picked, rest_eq⟩ := List.cons.inj parts
        have le : (leastCap c rest).speed ≤ d.speed := picked ▸ Nat.not_lt.1 notLessHead
        exact ⟨[], d :: after, by rw [← picked, rest_eq]; rfl, greater, List.forall_mem_cons.2 ⟨le, notLess⟩⟩
      | cons x before =>
        obtain ⟨rfl, rest_eq⟩ := List.cons.inj parts
        obtain ⟨lt_head, lt_before⟩ := List.forall_mem_cons.1 greater
        have lt : (leastCap c rest).speed < d.speed := lt_head.trans_le (Nat.not_lt.1 notLessHead)
        exact ⟨c :: d :: before, after, congrArg (c :: d :: ·) rest_eq,
          List.forall_mem_cons.2 ⟨lt_head, List.forall_mem_cons.2 ⟨lt, lt_before⟩⟩, notLess⟩

/-! ## The terms and their rows (R47) -/

/-- The row of R47's table in which a term stands, counted from 0. -/
def CapTerm.row : CapTerm → Nat
  | .cls => 0
  | .slow _ => 1
  | .passing _ => 2
  | .creepBand => 3
  | .approach => 4
  | .inspection => 5

/-- The row of the term that a cap names, 0 where it names none. -/
def Cap.row (c : Cap) : Nat := c.term.elim 0 CapTerm.row

/-- A list of terms that follows the rows of R47's table and goes no further than one of them. -/
def RowsUpTo (k : Nat) (terms : List Cap) : Prop :=
  terms.Pairwise (fun c d => c.row ≤ d.row) ∧ ∀ c ∈ terms, c.row ≤ k

theorem RowsUpTo.append {k j : Nat} {terms more : List Cap} (h : RowsUpTo k terms) (hkj : k ≤ j)
    (hmore : ∀ d ∈ more, d.row = j) : RowsUpTo j (terms ++ more) := by
  obtain ⟨ordered, upTo⟩ := h
  refine ⟨List.pairwise_append.2 ⟨ordered, ?_, ?_⟩, ?_⟩
  · exact List.pairwise_of_forall_mem_list fun c hc d hd => (hmore c hc).trans_le (hmore d hd).ge
  · exact fun c hc d hd => ((upTo c hc).trans hkj).trans (hmore d hd).ge
  · intro c hc
    rcases List.mem_append.1 hc with hc | hc
    · exact (upTo c hc).trans hkj
    · exact (hmore c hc).le

@[simp] theorem mem_termIf {b : Bool} {speed : Nat} {t : CapTerm} {c : Cap} :
    c ∈ termIf b speed t ↔ b = true ∧ c = ⟨speed, some t⟩ := by
  cases b <;> simp [termIf]

theorem State.mem_slowTerms {s : State} {w : Winder} {c : Cap} :
    c ∈ s.slowTerms w ↔ ∃ n z v, (n, z) ∈ s.zones ∧
      (z.kind = .slow ∧ ∃ x ∈ conveyancesOf w, n ∈ (s.position x).zoneSet) ∧ z.cap = some v ∧
      c = ⟨v, some (.slow n)⟩ := by
  simp [State.slowTerms, @eq_comm Cap c]

theorem State.mem_passingTerms {s : State} {w : Winder} {c : Cap} :
    c ∈ s.passingTerms w ↔ ∃ n z v, (n, z) ∈ s.zones ∧
      (z.kind = .passing ∧ ∀ x ∈ conveyancesOf w, n ∈ (s.position x).zoneSet) ∧ z.cap = some v ∧
      c = ⟨v, some (.passing n)⟩ := by
  simp [State.passingTerms, @eq_comm Cap c]

theorem State.wideBand_iff {s : State} {w : Winder} :
    s.wideBand w = true ↔ ∃ c ∈ conveyancesOf w, s.work.tracking.creepThreshold < (s.position c).band := by
  simp [State.wideBand]

/-- The terms present, row by row. -/
theorem State.mem_capTerms {s : State} {w : Winder} {l : Leg} {c : Cap} :
    c ∈ s.capTerms w l ↔
      c = ⟨(s.work.classes.get l.cls).maxSpeed, some .cls⟩ ∨ c ∈ s.slowTerms w ∨ c ∈ s.passingTerms w ∨
      (s.wideBand w = true ∧ c = ⟨s.work.classes.creep.maxSpeed, some .creepBand⟩) ∨
      ((s.winder w).state = .running ∧ c = ⟨s.approachLimit l, some .approach⟩) ∨
      ((s.winder w).mode = .inspection ∧ c = ⟨s.work.classes.inspection.maxSpeed, some .inspection⟩) := by
  simp [State.capTerms, State.isIn, State.classOf, PerClass.get]

theorem State.capTerms_ne_nil (s : State) (w : Winder) (l : Leg) : s.capTerms w l ≠ [] :=
  List.ne_nil_of_mem (mem_capTerms.2 (.inl rfl))

/-- The terms stand in the order of the rows of R47's table. -/
theorem State.capTerms_rows (s : State) (w : Winder) (l : Leg) : RowsUpTo 5 (s.capTerms w l) := by
  have cls : RowsUpTo 0 [⟨(s.classOf l.cls).maxSpeed, some .cls⟩] := by simp [RowsUpTo, Cap.row, CapTerm.row]
  have slow : ∀ c ∈ s.slowTerms w, c.row = 1 := by
    intro c hc
    obtain ⟨n, z, v, -, -, -, rfl⟩ := mem_slowTerms.1 hc
    rfl
  have passing : ∀ c ∈ s.passingTerms w, c.row = 2 := by
    intro c hc
    obtain ⟨n, z, v, -, -, -, rfl⟩ := mem_passingTerms.1 hc
    rfl
  have single (b : Bool) (speed : Nat) (t : CapTerm) : ∀ c ∈ termIf b speed t, c.row = t.row := by
    intro c hc
    obtain ⟨-, rfl⟩ := mem_termIf.1 hc
    rfl
  exact ((((cls.append (by decide) slow).append (by decide) passing).append (by decide) (single _ _ .creepBand)).append
    (by decide) (single _ _ .approach)).append (by decide) (single _ _ .inspection)

/-! ## The cap (R47) -/

theorem State.capOf_of_not_inMotion {s : State} {w : Winder} (h : s.inMotion w = false) : s.capOf w = ⟨0, none⟩ := by
  simp [State.capOf, h]

section
variable {s : State} {w : Winder} {l : Leg} (motion : s.inMotion w = true) (leg : s.activeLeg w = some l)
include motion leg

/-- With a leg active the cap is the first of the least of its terms. -/
theorem State.capOf_spec :
    ∃ before after, s.capTerms w l = before ++ s.capOf w :: after ∧
      (∀ d ∈ before, (s.capOf w).speed < d.speed) ∧ ∀ d ∈ after, (s.capOf w).speed ≤ d.speed := by
  cases terms : s.capTerms w l with
  | nil => exact absurd terms (s.capTerms_ne_nil w l)
  | cons c rest =>
    have cap : s.capOf w = leastCap c rest := by simp [State.capOf, motion, leg, terms]
    rw [cap]
    exact leastCap_spec c rest

/-- The cap is one of the terms present. -/
theorem State.capOf_mem_capTerms : s.capOf w ∈ s.capTerms w l := by
  obtain ⟨before, after, terms, -, -⟩ := State.capOf_spec motion leg
  simp [terms]

/-- No term present is less than the cap, and none of an earlier row than the term that the cap names is as little: such a
one stands before it in the list. -/
theorem State.capOf_least {v : Nat} {t : CapTerm} (h : ⟨v, some t⟩ ∈ s.capTerms w l) :
    (s.capOf w).speed ≤ v ∧ ∀ named, (s.capOf w).term = some named → t.row < named.row → (s.capOf w).speed < v := by
  obtain ⟨before, after, terms, greater, notLess⟩ := State.capOf_spec motion leg
  rw [terms, List.mem_append, List.mem_cons] at h
  rcases h with earlier | itself | later
  · exact ⟨(greater _ earlier).le, fun _ _ _ => greater _ earlier⟩
  · simp only [← itself, le_refl, Option.some.injEq, true_and]
    rintro named rfl row
    exact absurd row (lt_irrefl _)
  · refine ⟨notLess _ later, fun named hnamed row => absurd row (Nat.not_lt.2 ?_)⟩
    have ordered := (s.capTerms_rows w l).1
    rw [terms, List.pairwise_append, List.pairwise_cons] at ordered
    obtain ⟨-, ⟨afterCap, -⟩, -⟩ := ordered
    simpa [Cap.row, hnamed] using afterCap _ later

end

/-- Settles O29: each term present bounds the cap by `State.capOf_least`, and the cap is itself one of them. -/
theorem capIsTheLeastTerm : Obligations.CapIsTheLeastTerm := by
  refine fun s w => ⟨State.capOf_of_not_inMotion, fun l motion leg => ?_⟩
  have least (v : Nat) (t : CapTerm) (h : ⟨v, some t⟩ ∈ s.capTerms w l) := State.capOf_least motion leg h
  refine ⟨least _ .cls ?_, fun n z v hz kind cap set => least v (.slow n) ?_,
    fun n z v hz kind cap sets => least v (.passing n) ?_, fun wide => least _ .creepBand ?_,
    fun running => least _ .approach ?_, fun inspection => least _ .inspection ?_, ?_⟩
  · simp [State.mem_capTerms]
  · have slow : ⟨v, some (.slow n)⟩ ∈ s.slowTerms w := State.mem_slowTerms.2 ⟨n, z, v, hz, ⟨kind, set⟩, cap, rfl⟩
    simp [State.mem_capTerms, slow]
  · have passing : ⟨v, some (.passing n)⟩ ∈ s.passingTerms w :=
      State.mem_passingTerms.2 ⟨n, z, v, hz, ⟨kind, sets⟩, cap, rfl⟩
    simp [State.mem_capTerms, passing]
  · simp [State.mem_capTerms, State.wideBand_iff.2 wide]
  · simp [State.mem_capTerms, running]
  · simp [State.mem_capTerms, inspection]
  · rcases State.mem_capTerms.1 (State.capOf_mem_capTerms motion leg) with
      cls | slow | passing | ⟨wide, creep⟩ | ⟨running, approach⟩ | ⟨mode, inspection⟩
    · rw [cls]
    · obtain ⟨n, z, v, hz, ⟨kind, set⟩, cap, named⟩ := State.mem_slowTerms.1 slow
      rw [named]
      exact ⟨set, z, hz, kind, cap⟩
    · obtain ⟨n, z, v, hz, ⟨kind, sets⟩, cap, named⟩ := State.mem_passingTerms.1 passing
      rw [named]
      exact ⟨sets, z, hz, kind, cap⟩
    · rw [creep]
      exact ⟨State.wideBand_iff.1 wide, rfl⟩
    · rw [approach]
      exact ⟨running, rfl⟩
    · rw [inspection]
      exact ⟨mode, rfl⟩

end Sys2Proof.Machine

/-! PROOFS. What every operation inside an event keeps of the invariants that the winder records, the Fault Recorder, the
ended-call lists and the queues are to hold: one relation, and one lemma for each shared operation. -/

namespace Sys2Proof.Machine

/-! ## The invariants, winder by winder -/

theorem State.outputsAgree_iff (s : State) : s.outputsAgree = true ↔ ∀ w, (s.winder w).outputsAgree = true := by
  unfold State.outputsAgree
  rw [Bool.and_eq_true]
  exact ⟨fun h w => by cases w; exacts [h.1, h.2], fun h => ⟨h _, h _⟩⟩

theorem State.fieldsAgree_iff (s : State) : s.fieldsAgree = true ↔ ∀ w, (s.winder w).fieldsAgree = true := by
  unfold State.fieldsAgree
  rw [Bool.and_eq_true]
  exact ⟨fun h w => by cases w; exacts [h.1, h.2], fun h => ⟨h _, h _⟩⟩

theorem State.endedBounded_iff (s : State) : s.endedBounded = true ↔ ∀ w, (s.ended.get w).length ≤ 16 := by
  simp only [State.endedBounded, Bool.and_eq_true, decide_eq_true_eq]
  exact ⟨fun h w => by cases w; exacts [h.1, h.2], fun h => ⟨h _, h _⟩⟩

theorem State.faultsBounded_iff (s : State) : s.faultsBounded = true ↔ s.faults.length ≤ 16 ∧ s.overflow ≤ 255 := by
  simp [State.faultsBounded]

theorem State.queuesBounded_iff (s : State) :
    s.queuesBounded = true ↔ ∀ w, s.admissionCount w ≤ admissionLimit w := by
  simp only [State.queuesBounded, Bool.and_eq_true, decide_eq_true_eq]
  exact ⟨fun h w => by cases w; exacts [h.1, h.2], fun h => ⟨h _, h _⟩⟩

/-! ## The relation -/

/-- `t` follows `s` without breaking what the winder records, the Fault Recorder and the ended-call lists are to hold, and
without a call more in a winder's queue and staged slot together. -/
structure State.Guards (s t : State) : Prop where
  outputs : s.outputsAgree = true → t.outputsAgree = true
  fields : s.fieldsAgree = true → t.fieldsAgree = true
  faults : s.faultsBounded = true → t.faultsBounded = true
  ended : s.endedBounded = true → t.endedBounded = true
  counts : ∀ w, t.admissionCount w ≤ s.admissionCount w

theorem State.Guards.refl (s : State) : s.Guards s := ⟨id, id, id, id, fun _ => le_rfl⟩

theorem State.Guards.trans {s t u : State} (h : s.Guards t) (k : t.Guards u) : s.Guards u :=
  ⟨k.outputs ∘ h.outputs, k.fields ∘ h.fields, k.faults ∘ h.faults, k.ended ∘ h.ended, fun w => (k.counts w).trans (h.counts w)⟩

theorem State.Guards.ite {s t u : State} {p : Prop} [Decidable p] (h : s.Guards t) (k : s.Guards u) :
    s.Guards (if p then t else u) := by
  split <;> assumption

/-- A change of none of the things that the invariants look at. -/
theorem State.Guards.of_same {s t : State} (winders : t.winders = s.winders) (faults : t.faults = s.faults)
    (overflow : t.overflow = s.overflow) (ended : t.ended = s.ended)
    (counts : ∀ w, t.admissionCount w ≤ s.admissionCount w) : s.Guards t where
  outputs h := by unfold State.outputsAgree State.winder at *; rwa [winders]
  fields h := by unfold State.fieldsAgree State.winder at *; rwa [winders]
  faults h := by unfold State.faultsBounded at *; rwa [faults, overflow]
  ended h := by unfold State.endedBounded at *; rwa [ended]
  counts := counts

/-- A change of nothing but what no invariant here looks at, the pipelines and queues included. -/
theorem State.Guards.of_rest {s t : State} (winders : t.winders = s.winders) (faults : t.faults = s.faults)
    (overflow : t.overflow = s.overflow) (ended : t.ended = s.ended) (queues : t.queues = s.queues)
    (pipes : t.pipes = s.pipes) : s.Guards t :=
  .of_same winders faults overflow ended (fun w => by unfold State.admissionCount State.pipe; rw [queues, pipes])

/-! ## Single updates -/

theorem State.withMonitor_guards (s : State) (w : Winder) (f : Monitor → Monitor) : s.Guards (s.withMonitor w f) :=
  .of_rest rfl rfl rfl rfl rfl rfl
theorem State.withPosition_guards (s : State) (c : Conveyance) (f : Position → Position) : s.Guards (s.withPosition c f) :=
  .of_rest rfl rfl rfl rfl rfl rfl
theorem State.withCounters_guards (s : State) (w : Winder) (f : Counters → Counters) : s.Guards (s.withCounters w f) :=
  .of_rest rfl rfl rfl rfl rfl rfl
theorem State.handCap_guards (s : State) (w : Winder) : s.Guards (s.handCap w) := .of_rest rfl rfl rfl rfl rfl rfl
theorem State.sendOrder_guards (s : State) (w : Winder) (o : Order) : s.Guards (s.sendOrder w o) :=
  .of_rest rfl rfl rfl rfl rfl rfl
theorem State.emptySuppression_guards (s : State) (w : Winder) : s.Guards (s.emptySuppression w) :=
  .of_rest rfl rfl rfl rfl rfl rfl
theorem State.suppressWinder_guards (s : State) (w : Winder) : s.Guards (s.suppressWinder w) :=
  .of_rest rfl rfl rfl rfl rfl rfl
theorem State.rebuildSet_guards (s : State) (c : Conveyance) : s.Guards (s.rebuildSet c) := .of_rest rfl rfl rfl rfl rfl rfl
theorem State.orderClutch_guards (s : State) (o : Order) : s.Guards (s.orderClutch o) := .of_rest rfl rfl rfl rfl rfl rfl

/-- A winder record changed: the two agreements are asked of the new record alone. -/
theorem State.withWinder_guards (s : State) (w : Winder) (f : WinderRecord → WinderRecord)
    (outputs : (s.winder w).outputsAgree = true → (f (s.winder w)).outputsAgree = true)
    (fields : (s.winder w).fieldsAgree = true → (f (s.winder w)).fieldsAgree = true) : s.Guards (s.withWinder w f) where
  outputs h := by
    rw [State.outputsAgree_iff] at *
    intro v
    by_cases e : v = w
    · subst e; rw [State.withWinder_winder_self]; exact outputs (h v)
    · rw [State.withWinder_winder_ne _ _ _ e]; exact h v
  fields h := by
    rw [State.fieldsAgree_iff] at *
    intro v
    by_cases e : v = w
    · subst e; rw [State.withWinder_winder_self]; exact fields (h v)
    · rw [State.withWinder_winder_ne _ _ _ e]; exact h v
  faults := id
  ended := id
  counts _ := le_rfl

/-- The admission count after a pipeline has changed. -/
theorem State.withPipe_admissionCount_self (s : State) (w : Winder) (f : Pipe → Pipe) :
    (s.withPipe w f).admissionCount w = (s.queues.get w).length + (if (f (s.pipe w)).staged.isSome then 1 else 0) := by
  unfold State.admissionCount; rw [State.withPipe_pipe_self]; rfl
theorem State.withPipe_admissionCount_ne (s : State) {w v : Winder} (f : Pipe → Pipe) (h : v ≠ w) :
    (s.withPipe w f).admissionCount v = s.admissionCount v := by
  unfold State.admissionCount; rw [State.withPipe_pipe_ne _ _ _ h]; rfl

/-- A pipeline changed without a trip newly staged. -/
theorem State.withPipe_guards (s : State) (w : Winder) (f : Pipe → Pipe)
    (staged : (f (s.pipe w)).staged.isSome = true → (s.pipe w).staged.isSome = true) : s.Guards (s.withPipe w f) :=
  .of_same rfl rfl rfl rfl (fun v => by
    by_cases e : v = w
    · subst e
      rw [State.withPipe_admissionCount_self]
      unfold State.admissionCount
      split
      · next h => rw [if_pos (staged h)]
      · exact Nat.add_le_add_left (Nat.zero_le _) _
    · rw [State.withPipe_admissionCount_ne _ _ e])

theorem State.withQueue_admissionCount_self (s : State) (w : Winder) (f : List Call → List Call) :
    (s.withQueue w f).admissionCount w = (f (s.queues.get w)).length + (if (s.pipe w).staged.isSome then 1 else 0) := by
  unfold State.admissionCount; cases w <;> rfl
theorem State.withQueue_admissionCount_ne (s : State) {w v : Winder} (f : List Call → List Call) (h : v ≠ w) :
    (s.withQueue w f).admissionCount v = s.admissionCount v := by
  cases w <;> cases v <;> first | exact absurd rfl h | rfl

/-- A queue changed without becoming longer. -/
theorem State.withQueue_guards (s : State) (w : Winder) (f : List Call → List Call)
    (length : (f (s.queues.get w)).length ≤ (s.queues.get w).length) : s.Guards (s.withQueue w f) :=
  .of_same rfl rfl rfl rfl (fun v => by
    by_cases e : v = w
    · subst e
      rw [State.withQueue_admissionCount_self]
      exact Nat.add_le_add_right length _
    · rw [State.withQueue_admissionCount_ne _ _ e])

theorem State.recordEnded_guards (s : State) (w : Winder) (id : Nat) (r : EndReason) : s.Guards (s.recordEnded w id r) where
  outputs h := h
  fields h := h
  faults h := h
  ended h := by
    rw [State.endedBounded_iff] at *
    intro v
    unfold State.recordEnded
    by_cases e : v = w
    · subst e; rw [PerWinder.get_set_self]; exact addEnded_length_le _ _ (h v)
    · rw [PerWinder.get_set_ne _ _ e]; exact h v
  counts _ := le_rfl

theorem State.record_guards (s : State) (e : FaultEntry) : s.Guards (s.record e) where
  outputs h := by rw [State.record_eq]; exact h
  fields h := by rw [State.record_eq]; exact h
  faults h := by
    rw [State.faultsBounded_iff] at *
    rw [State.record_eq]
    dsimp only
    split
    · exact ⟨by simp; omega, h.2⟩
    · exact ⟨h.1, Nat.min_le_left ..⟩
  ended h := by rw [State.record_eq]; exact h
  counts w := by rw [State.record_eq]; exact le_rfl

theorem State.formReadiness_guards (s : State) : s.Guards s.formReadiness :=
  s.withPipe_guards _ _ (fun h => by simpa using h)
theorem State.setContents_guards (s : State) (k : Skip) (c : Contents) : s.Guards (s.setContents k c) := by
  unfold State.setContents
  exact (State.Guards.of_rest (s := s) (t := { s with skips := s.skips.set k ⟨c, s.now⟩ }) rfl rfl rfl rfl rfl rfl).trans
    (State.formReadiness_guards _)
theorem State.readyStaged_guards (s : State) (w : Winder) : s.Guards (s.readyStaged w) := by
  cases w
  · exact .refl s
  · exact s.formReadiness_guards

/-! ## The Winder Controller -/

/-- The fields of a record that has just entered a state are clear but for what stands in any state (R96). -/
theorem WinderRecord.entered_fieldsAgree (r : WinderRecord) (st : WinderState) (now : Time) (h : r.fieldsAgree = true) :
    (r.entered st now).fieldsAgree = true := by
  simp only [WinderRecord.fieldsAgree, Bool.and_eq_true] at h
  have recovery : (!r.recovery || r.mode == .inspection) = true := h.2
  simp only [WinderRecord.fieldsAgree, WinderRecord.entered, recovery]
  cases st.isMotion <;> simp

/-- A winder's record after a change of state, that of the other winder unchanged (R96). -/
theorem State.changeState_winder_ne (s : State) {w v : Winder} (st : WinderState) (h : v ≠ w) :
    (s.changeState w st).winder v = s.winder v := by
  unfold State.changeState
  split
  · rfl
  · have k := (State.motionAtEntry_same (s.withWinder w (fun r => r.entered st s.now)) w st).2.1
    exact (congrArg (fun p => p.get v) k).trans (State.withWinder_winder_ne _ _ _ h)

/-- The state in which a change of state leaves its winder. -/
@[simp] theorem State.changeState_state (s : State) (w : Winder) (st : WinderState) :
    ((s.changeState w st).winder w).state = st := by
  by_cases h : (s.winder w).state = st
  · rw [State.changeState_self _ _ _ h, h]
  · rw [State.changeState_winder _ _ _ h]; rfl

/-- What arming and disarming the motion checks touches: the position records alone. -/
theorem State.motionAtEntry_eq (s : State) (w : Winder) (st : WinderState) :
    s.motionAtEntry w st = { s with positions := (s.motionAtEntry w st).positions } := by
  have one : ∀ (t : State) (c : Conveyance), t.armAtRunning w c = { t with positions := (t.armAtRunning w c).positions } := by
    intro t c; unfold State.armAtRunning; split <;> rfl
  cases st
  case running =>
    unfold State.motionAtEntry
    rw [one, one]
  all_goals rfl

theorem State.motionAtEntry_guards (s : State) (w : Winder) (st : WinderState) : s.Guards (s.motionAtEntry w st) := by
  rw [State.motionAtEntry_eq]; exact .of_rest rfl rfl rfl rfl rfl rfl

theorem State.changeState_guards (s : State) (w : Winder) (st : WinderState) : s.Guards (s.changeState w st) := by
  unfold State.changeState
  split
  · exact .refl s
  · exact ((((s.withWinder_guards w _ (fun _ => (s.winder w).entered_outputsAgree st s.now)
      ((s.winder w).entered_fieldsAgree st s.now)).trans (State.motionAtEntry_guards _ w st)).trans
      (State.handCap_guards _ w)).trans (State.withMonitor_guards _ w _)).trans (State.withPipe_guards _ w _ id)

theorem State.park_guards (s : State) (w : Winder) : s.Guards (s.park w) :=
  .ite ((s.changeState_guards w _).trans (State.withWinder_guards _ w _ id id)) (s.changeState_guards w _)

/-! ## The Trip Pipeline's endings -/

theorem State.endSource_guards (s : State) (w : Winder) (t : Trip) (o : TripOutcome) : s.Guards (s.endSource w t o) := by
  unfold State.endSource
  split
  · exact .refl s
  · exact s.recordEnded_guards ..
theorem State.endTripRecord_guards (s : State) (w : Winder) (t : Trip) (o : TripOutcome) :
    s.Guards (s.endTripRecord w t o) := by
  unfold State.endTripRecord
  exact ((s.withPipe_guards w _ id).trans (State.endSource_guards _ w t o)).trans (State.withCounters_guards _ w _)
theorem State.endRePair_guards (s : State) (t : Trip) : s.Guards (s.endRePair t) :=
  .ite (.of_rest rfl rfl rfl rfl rfl rfl) (.refl s)
theorem State.endActive_guards (s : State) (w : Winder) (o : TripOutcome) : s.Guards (s.endActive w o) := by
  unfold State.endActive
  split
  · exact .refl s
  · exact ((s.withPipe_guards w _ id).trans (State.endRePair_guards _ _)).trans (State.endTripRecord_guards _ w _ o)
theorem State.discardStaged_guards (s : State) (w : Winder) (o : TripOutcome) : s.Guards (s.discardStaged w o) := by
  unfold State.discardStaged
  split
  · exact .refl s
  · exact (s.withPipe_guards w _ (fun h => by cases h)).trans (State.endTripRecord_guards _ w _ o)

/-- A queue that an entry has left is shorter. -/
theorem dropCall_length_lt {q : List Call} {c : Call} (h : c ∈ q) : (dropCall q c.id).length < q.length := by
  unfold dropCall
  rcases Nat.lt_or_ge (q.filter (fun e => e.id != c.id)).length q.length with k | k
  · exact k
  · have e := List.filter_eq_self.mp (List.Sublist.eq_of_length_le (List.filter_sublist (p := fun e : Call => e.id != c.id)) k)
    exact absurd (e c h) (by simp)

/-- A call comes back to a queue from the staged slot: one entry more, or in place of the one it absorbs (R62). -/
theorem State.returnCall_admissionCount (s : State) (w v : Winder) (c : Call) (st : CallState) :
    (s.returnCall w c st).admissionCount v ≤ s.admissionCount v + (if v = w then 1 else 0) := by
  unfold State.returnCall
  dsimp only
  split
  · by_cases e : v = w
    · subst e
      rw [State.withQueue_admissionCount_self, if_pos rfl]
      unfold State.admissionCount
      simp only [List.length_cons]
      omega
    · rw [State.withQueue_admissionCount_ne _ _ e]; omega
  · next e he =>
    have same : ∀ (u : State) (r : EndReason), (u.recordEnded w e.id r).admissionCount v = u.admissionCount v := fun _ _ => rfl
    rw [same]
    by_cases k : v = w
    · subst k
      rw [State.withQueue_admissionCount_self, if_pos rfl]
      unfold State.admissionCount
      have := dropCall_length_lt (List.mem_of_find?_eq_some he)
      simp only [List.length_cons]
      omega
    · rw [State.withQueue_admissionCount_ne _ _ k]; omega

theorem State.returnCall_ended (s : State) (w : Winder) (c : Call) (st : CallState) (h : s.endedBounded = true) :
    (s.returnCall w c st).endedBounded = true := by
  unfold State.returnCall
  dsimp only
  split
  · exact h
  · exact (State.recordEnded_guards ..).ended h

theorem State.returnCall_faults (s : State) (w : Winder) (c : Call) (st : CallState) :
    (s.returnCall w c st).faults = s.faults ∧ (s.returnCall w c st).overflow = s.overflow := by
  unfold State.returnCall
  dsimp only
  split <;> exact ⟨rfl, rfl⟩

/-- A withdrawal moves a trip's call from the staged slot to the queue, so that there is not one more (R62, R90). -/
theorem State.withdrawStaged_guards (s : State) (w : Winder) (st : CallState) : s.Guards (s.withdrawStaged w st) := by
  unfold State.withdrawStaged
  split
  · next c h =>
    have still := State.returnCall_still (s.withPipe w Pipe.unstage) w c st
    have faults := State.returnCall_faults (s.withPipe w Pipe.unstage) w c st
    refine ⟨fun k => ?_, fun k => ?_, fun k => ?_, fun k => State.returnCall_ended _ w c st k, fun v => ?_⟩
    · unfold State.outputsAgree State.winder at *; rw [still.winders]; exact k
    · unfold State.fieldsAgree State.winder at *; rw [still.winders]; exact k
    · unfold State.faultsBounded at *; rw [faults.1, faults.2]; exact k
    · refine (State.returnCall_admissionCount _ w v c st).trans ?_
      by_cases e : v = w
      · subst e
        have some : (s.pipe v).staged.isSome = true := by
          cases hs : (s.pipe v).staged with
          | none => simp [hs] at h
          | some t => rfl
        rw [State.withPipe_admissionCount_self, if_pos rfl]
        unfold State.admissionCount
        rw [some]
        simp [Pipe.unstage]
      · rw [State.withPipe_admissionCount_ne _ _ e, if_neg e]; omega
  · exact s.discardStaged_guards w _

theorem State.endAndPark_guards (s : State) (w : Winder) (o : TripOutcome) : s.Guards (s.endAndPark w o) :=
  (s.endActive_guards w o).trans (State.park_guards _ w)

end Sys2Proof.Machine

namespace Sys2Proof.Machine

/-! ## The Fault Recorder -/

/-- The fields of a record, one by one (R96, R109, R113). -/
theorem WinderRecord.fieldsAgree_iff (r : WinderRecord) :
    r.fieldsAgree = true ↔
      (r.state = .stopping ∨ (r.stopCause = none ∧ r.stopStarted = none)) ∧ (r.state = .clutching ∨ r.stopPending = false) ∧
      (r.state.isMotion = true ∨ r.slowCap = none) ∧ (r.recovery = false ∨ r.mode = .inspection) := by
  simp [WinderRecord.fieldsAgree, and_assoc]

/-- Forgetting the slow cap, a hold or a stop pending breaks no agreement. -/
theorem WinderRecord.fieldsAgree_cleared {r : WinderRecord} (h : r.fieldsAgree = true) :
    ({ r with holdPending := false, stopPending := false, slowCap := none } : WinderRecord).fieldsAgree = true := by
  rw [WinderRecord.fieldsAgree_iff] at *
  exact ⟨h.1, .inr rfl, .inr rfl, h.2.2.2⟩

theorem WinderRecord.fieldsAgree_slowCap_none {r : WinderRecord} (h : r.fieldsAgree = true) :
    ({ r with slowCap := none } : WinderRecord).fieldsAgree = true := by
  rw [WinderRecord.fieldsAgree_iff] at *
  exact ⟨h.1, h.2.1, .inr rfl, h.2.2.2⟩

theorem WinderRecord.fieldsAgree_slowCap {r : WinderRecord} (c : Option Nat) (motion : r.state.isMotion = true)
    (h : r.fieldsAgree = true) : ({ r with slowCap := c } : WinderRecord).fieldsAgree = true := by
  rw [WinderRecord.fieldsAgree_iff] at *
  exact ⟨h.1, h.2.1, .inl motion, h.2.2.2⟩

theorem WinderRecord.fieldsAgree_recovery_false {r : WinderRecord} (h : r.fieldsAgree = true) :
    ({ r with recovery := false } : WinderRecord).fieldsAgree = true := by
  rw [WinderRecord.fieldsAgree_iff] at *
  exact ⟨h.1, h.2.1, h.2.2.1, .inl rfl⟩

theorem State.tripWinder_guards (s : State) (w : Winder) : s.Guards (s.tripWinder w) :=
  (((((s.changeState_guards w _).trans (State.endActive_guards _ w _)).trans (State.withdrawStaged_guards _ w _)).trans
    (State.withWinder_guards _ w _ id WinderRecord.fieldsAgree_cleared)).trans (State.emptySuppression_guards _ w)).trans
    (State.sendOrder_guards _ w _)
theorem State.lockWinder_guards (s : State) (w : Winder) : s.Guards (s.lockWinder w) :=
  ((s.changeState_guards w _).trans (State.emptySuppression_guards _ w)).trans (State.sendOrder_guards _ w _)
theorem State.handTrip_guards (s : State) (f : FaultReport) : s.Guards (s.handTrip f) := by
  unfold State.handTrip
  split
  · exact .refl s
  · exact .ite (s.lockWinder_guards _) (.refl s)
  all_goals exact s.tripWinder_guards _
theorem State.deliver_guards (s : State) (f : FaultReport) : s.Guards (s.deliver f) := by
  unfold State.deliver
  dsimp only
  split
  · exact (s.record_guards _).trans (State.handTrip_guards _ f)
  all_goals exact s.record_guards _
theorem State.deliverAll_guards (s : State) (l : List FaultReport) : s.Guards (s.deliverAll l) := by
  unfold State.deliverAll
  induction l generalizing s with
  | nil => exact .refl s
  | cons f rest ih => exact (s.deliver_guards f).trans (ih _)

/-! ## The Zone Table and the Envelope Monitor -/

theorem State.followCap_guards (s : State) (w : Winder) : s.Guards (s.followCap w) := by
  unfold State.followCap
  split
  · exact .refl s
  · next sent h =>
    refine .ite ((s.withWinder_guards w _ id (fun k => ?_)).trans (State.sendOrder_guards _ w _)) (.refl s)
    refine WinderRecord.fieldsAgree_slowCap _ ?_ k
    obtain ⟨-, -, motion, -⟩ := (WinderRecord.fieldsAgree_iff _).mp k
    exact motion.resolve_right (by simp [h])
theorem State.handTouch_guards (s : State) (w : Winder) : s.Guards (s.handTouch w) := by
  have h : s.Guards { s with restricted := s.restricted.set w (s.restrictedTouch w) } := .of_rest rfl rfl rfl rfl rfl rfl
  exact .ite h (h.trans (State.withWinder_guards _ w _ id WinderRecord.fieldsAgree_recovery_false))
theorem State.handOn_guards (s : State) (w : Winder) : s.Guards (s.handOn w) :=
  ((s.handCap_guards w).trans (State.followCap_guards _ w)).trans (State.handTouch_guards _ w)
theorem State.rebuildMasked_guards (s : State) (m : PerConveyance Bool) (c : Conveyance) : s.Guards (s.rebuildMasked m c) :=
  .ite (s.rebuildSet_guards c) (.refl s)
theorem State.rebuildForEdit_guards (s : State) (m : PerConveyance Bool) : s.Guards (s.rebuildForEdit m) :=
  (((((s.rebuildMasked_guards m _).trans (State.rebuildMasked_guards _ m _)).trans (State.rebuildMasked_guards _ m _)).trans
    (State.rebuildMasked_guards _ m _)).trans (State.handOn_guards _ _)).trans (State.handOn_guards _ _)
theorem State.rebuildWinder_guards (s : State) (w : Winder) : s.Guards (s.rebuildWinder w) :=
  ((s.rebuildSet_guards _).trans (State.rebuildSet_guards _ _)).trans (State.handOn_guards _ w)
theorem State.overRaised_guards (s : State) (w : Winder) : s.Guards (s.overRaised w) := by
  unfold State.overRaised
  split
  · next h =>
    exact (s.withWinder_guards w _ id (WinderRecord.fieldsAgree_slowCap _ h)).trans (State.sendOrder_guards _ w _)
  · exact .refl s
theorem State.overCleared_guards (s : State) (w : Winder) : s.Guards (s.overCleared w) := by
  have h : s.Guards (s.withWinder w (fun r => { r with slowCap := none })) :=
    s.withWinder_guards w _ id WinderRecord.fieldsAgree_slowCap_none
  exact .ite (h.trans (State.sendOrder_guards _ w _)) h
theorem State.setOver_guards (s : State) (w : Winder) : s.Guards (s.setOver w) :=
  .ite (s.withMonitor_guards w _) ((s.withMonitor_guards w _).trans (State.overRaised_guards _ w))
theorem State.clearOver_guards (s : State) (w : Winder) : s.Guards (s.clearOver w) :=
  .ite ((s.withMonitor_guards w _).trans (State.overCleared_guards _ w)) (s.withMonitor_guards w _)
theorem State.compareOver_guards (s : State) (w : Winder) : s.Guards (s.compareOver w) := by
  unfold State.compareOver
  dsimp only
  split
  · exact ((s.withMonitor_guards w _).trans (State.deliver_guards _ _)).trans (State.setOver_guards _ w)
  · split
    · exact (s.withMonitor_guards w _).trans (State.clearOver_guards _ w)
    · exact s.withMonitor_guards w _
  all_goals exact s.withMonitor_guards w _
theorem State.compareCritical_guards (s : State) (w : Winder) : s.Guards (s.compareCritical w) :=
  .ite ((s.withMonitor_guards w _).trans (State.deliver_guards _ _)) (.refl s)
theorem State.compareUnder_guards (s : State) (w : Winder) : s.Guards (s.compareUnder w) := by
  unfold State.compareUnder
  split
  · dsimp only
    split
    · exact s.withMonitor_guards w _
    · exact s.withMonitor_guards w _
    all_goals exact .refl s
  all_goals exact .refl s
theorem State.compare_guards (s : State) (w : Winder) : s.Guards (s.compare w) :=
  .ite ((((s.withMonitor_guards w _).trans (State.compareOver_guards _ w)).trans (State.compareCritical_guards _ w)).trans
    (State.compareUnder_guards _ w)) (.refl s)
theorem State.handAndCompare_guards (s : State) (w : Winder) : s.Guards (s.handAndCompare w) :=
  ((s.handCap_guards w).trans (State.compare_guards _ w)).trans (State.followCap_guards _ w)
theorem State.clearIndications_guards (s : State) (w : Winder) : s.Guards (s.clearIndications w) :=
  .ite (s.withMonitor_guards w _) ((s.withMonitor_guards w _).trans (State.clearOver_guards _ w))

/-! ## Offers -/

theorem State.endFreeOffer_guards (s : State) (o : TripOutcome) : s.Guards (s.endFreeOffer o) := by
  have h : ∀ (t : State) (r : Option RePair) (c : Option Time), t.Guards { t with repair := r, clutchTimer := c } :=
    fun _ _ _ => .of_rest rfl rfl rfl rfl rfl rfl
  exact (s.withPipe_guards .rock (fun p => { p with offer := none }) id).trans (h _ _ _)
theorem State.failOffer_guards (s : State) (w : Winder) (o : TripOutcome) : s.Guards (s.failOffer w o) :=
  .ite (s.discardStaged_guards w o) (.ite (s.endFreeOffer_guards o) (s.endAndPark_guards w o))
theorem State.stopOffer_guards (s : State) (w : Winder) : s.Guards (s.stopOffer w) :=
  .ite (s.withdrawStaged_guards w _) (s.failOffer_guards w _)
/-- A change of the trip on offer fills no slot and empties none. -/
theorem Pipe.withOffered_slots (p : Pipe) (f : Trip → Trip) :
    (p.withOffered f).staged.isSome = p.staged.isSome ∧ (p.withOffered f).active.isSome = p.active.isSome := by
  unfold Pipe.withOffered
  split
  · next h => simp [h]
  · simp
theorem State.sendGrant_guards (s : State) (w : Winder) (t : Trip) (l : Leg) : s.Guards (s.sendGrant w t l) := by
  unfold State.sendGrant
  refine (s.withPipe_guards w _ (fun h => ?_)).trans (State.sendOrder_guards _ w _)
  exact ((s.pipe w).withOffered_slots _).1.symm.trans h
theorem State.refusePayload_guards (s : State) (k : Skip) (t : Trip) : s.Guards (s.refusePayload k t) :=
  ((s.discardStaged_guards _ _).trans (State.setContents_guards _ k _)).trans (State.deliver_guards _ _)
theorem State.grantCycle_guards (s : State) (t : Trip) (l : Leg) : s.Guards (s.grantCycle t l) := by
  unfold State.grantCycle
  split
  · exact s.sendGrant_guards _ t l
  · split
    · exact s.refusePayload_guards _ t
    · exact (s.deliver_guards _).trans (State.sendGrant_guards _ _ t l)
    · exact s.sendGrant_guards _ t l
theorem State.offerLeg_guards (s : State) (w : Winder) : s.Guards (s.offerLeg w) := by
  unfold State.offerLeg
  split
  · exact .refl s
  · split
    · exact .refl s
    · exact .ite (s.withPipe_guards w _ id) (.ite (s.stopOffer_guards w) (.ite (s.grantCycle_guards _ _) (s.sendGrant_guards w _ _)))
theorem State.backOff_guards (s : State) (w : Winder) (n : Nat) : s.Guards (s.backOff w n) := by
  have h : s.Guards { s with draws := s.draws + 1 } := .of_rest rfl rfl rfl rfl rfl rfl
  exact .ite (h.trans (State.offerLeg_guards _ w)) (h.trans (State.withPipe_guards _ w _ id))
theorem State.giveUp_guards (s : State) (w : Winder) : s.Guards (s.giveUp w) :=
  (s.failOffer_guards w _).trans (State.deliver_guards _ _)
theorem State.refuseOffer_guards (s : State) (w : Winder) : s.Guards (s.refuseOffer w) := by
  unfold State.refuseOffer
  split
  · exact .refl s
  · next trip _ =>
    have h : s.Guards ((s.withCounters w (fun c => { c with driveRefusals := saturate (c.driveRefusals + 1) })).withPipe w
        (fun p => { p.withOffered (fun t => { t with offerCount := trip.offerCount + 1 }) with offer := none })) :=
      (s.withCounters_guards w _).trans (State.withPipe_guards _ w _ (fun h => ((Pipe.withOffered_slots _ _).1.symm.trans h)))
    exact .ite (h.trans (State.giveUp_guards _ w)) (h.trans (State.backOff_guards _ w _))
theorem State.suppressRecovery_guards (s : State) (w : Winder) : s.Guards (s.suppressRecovery w) :=
  .ite (s.suppressWinder_guards w) (.refl s)
theorem Pipe.accept_staged (p : Pipe) (h : p.accept.staged.isSome = true) : p.staged.isSome = true := by
  unfold Pipe.accept at h
  dsimp only at h
  split at h
  · exact h
  · cases h
theorem State.acceptOffer_guards (s : State) (w : Winder) : s.Guards (s.acceptOffer w) :=
  (((s.withPipe_guards w _ (s.pipe w).accept_staged).trans (State.suppressRecovery_guards _ w)).trans
    (State.changeState_guards _ w _)).trans (State.handAndCompare_guards _ w)
theorem State.tryOffer_guards (s : State) (w : Winder) : s.Guards (s.tryOffer w) := .ite (s.offerLeg_guards w) (.refl s)

/-! ## The planner and the end of an event -/

/-- A call of the queue staged: it leaves the queue as its trip enters the empty slot (R77, R78). -/
theorem State.stageCall_guards (s : State) (w : Winder) (c : Call) (t : Trip) (h : c ∈ s.queues.get w) :
    s.Guards ((s.withQueue w (fun q => dropCall q c.id)).stage w t) :=
  .of_same rfl rfl rfl rfl (fun v => by
    unfold State.stage
    by_cases e : v = w
    · subst e
      rw [State.withPipe_admissionCount_self]
      have lt := dropCall_length_lt h
      have q : (s.withQueue v (fun q => dropCall q c.id)).queues.get v = dropCall (s.queues.get v) c.id :=
        PerWinder.get_set_self ..
      rw [q]
      unfold State.admissionCount
      simp only [Option.isSome_some, if_true]
      omega
    · rw [State.withPipe_admissionCount_ne _ _ e, State.withQueue_admissionCount_ne _ _ e])

theorem State.planFrom_guards (s : State) (w : Winder) (n : Nat) : s.Guards (s.planFrom w n) := by
  induction n generalizing s with
  | zero => exact .refl s
  | succ n ih =>
    unfold State.planFrom
    split
    · exact .refl s
    · next c hc =>
      split
      · exact (s.withQueue_guards w _ (by simp [holdCall])).trans (ih _)
      · exact ((s.withQueue_guards w _ (dropCall_length_lt (List.mem_of_find?_eq_some hc)).le).trans
          (State.recordEnded_guards ..)).trans (ih _)
      · exact s.stageCall_guards w c _ (List.mem_of_find?_eq_some hc)
theorem State.plan_guards (s : State) (w : Winder) : s.Guards (s.plan w) :=
  .ite ((s.planFrom_guards w _).trans (State.readyStaged_guards _ w)) (.refl s)
theorem State.settleFrom_guards (s : State) (w : Winder) (n : Nat) : s.Guards (s.settleFrom w n) := by
  induction n generalizing s with
  | zero => exact .refl s
  | succ n ih =>
    have h := (s.plan_guards w).trans (State.tryOffer_guards _ w)
    exact .ite (h.trans (ih _)) h
theorem State.settle_guards (s : State) (w : Winder) : s.Guards (s.settle w) := s.settleFrom_guards w _
theorem State.settleBoth_guards (s : State) : s.Guards s.settleBoth :=
  (s.settle_guards _).trans (State.settle_guards _ _)

/-! ## Stops, landing and the skips -/

/-- The cause and start of a stop belong to a winder in STOPPING (R96). -/
theorem WinderRecord.fieldsAgree_stop {r : WinderRecord} (c : Option StopCause) (t : Option Time) (state : r.state = .stopping)
    (h : r.fieldsAgree = true) : ({ r with stopCause := c, stopStarted := t } : WinderRecord).fieldsAgree = true := by
  rw [WinderRecord.fieldsAgree_iff] at *
  exact ⟨.inl state, h.2⟩

theorem State.enterStopping_guards (s : State) (w : Winder) (c : StopCause) : s.Guards (s.enterStopping w c) :=
  ((((s.changeState_guards w _).trans (State.withWinder_guards _ w _ id
    (WinderRecord.fieldsAgree_stop _ _ (s.changeState_state w .stopping)))).trans (State.withdrawStaged_guards _ w _)).trans
    (State.sendOrder_guards _ w _)).trans (State.handAndCompare_guards _ w)
theorem State.endStop_guards (s : State) (w : Winder) : s.Guards (s.endStop w) := s.endAndPark_guards w _
theorem State.beginSettling_guards (s : State) (w : Winder) (t : Trip) (l : Leg) : s.Guards (s.beginSettling w t l) := by
  unfold State.beginSettling
  exact ((s.withPipe_guards w _ id).trans (State.changeState_guards _ w _)).trans (State.withPipe_guards _ w _ id)
theorem State.failLanding_guards (s : State) (w : Winder) (t : Trip) (c : Conveyance) : s.Guards (s.failLanding w t c) :=
  ((s.endActive_guards w _).trans (State.deliver_guards _ _)).trans (State.park_guards _ w)
theorem State.relevel_guards (s : State) (w : Winder) (t : Trip) (l : Leg) (m : List LegMotion) (c : Conveyance) :
    s.Guards (s.relevel w t l m c) :=
  .ite (s.failLanding_guards w t c) (((s.withCounters_guards w _).trans (State.withPipe_guards _ w _ id)).trans
    (State.offerLeg_guards _ w))
theorem State.beginClosing_guards (s : State) : s.Guards s.beginClosing := by
  have h : ∀ t : State, t.Guards { t with repair := t.repair.map (fun (r : RePair) => { r with phase := .closing }) } :=
    fun t => .of_rest rfl rfl rfl rfl rfl rfl
  exact ((s.changeState_guards _ _).trans (h _)).trans (State.orderClutch_guards _ _)
theorem State.landLeg_guards (s : State) (w : Winder) (t : Trip) : s.Guards (s.landLeg w t) := by
  unfold State.landLeg
  have h : s.Guards (s.withPipe w (fun p => { p with active := some t.landed, settle := none })) := s.withPipe_guards w _ id
  exact .ite (h.trans (State.beginClosing_guards _)) (.ite (h.trans (State.endAndPark_guards _ w _))
    (.ite ((h.trans (State.withPipe_guards _ w _ id)).trans (State.endAndPark_guards _ w _))
      ((h.trans (State.withPipe_guards _ w _ id)).trans (State.changeState_guards _ w _))))
theorem State.missPair_guards (s : State) (t : Trip) (l : Leg) (a b : Examined) : s.Guards (s.missPair t l a b) := by
  unfold State.missPair
  dsimp only
  split
  · exact .ite (s.relevel_guards ..) (s.failLanding_guards ..)
  · exact s.failLanding_guards ..
theorem State.landingTest_guards (s : State) (w : Winder) (t : Trip) (l : Leg) : s.Guards (s.landingTest w t l) := by
  unfold State.landingTest
  split
  · exact .refl s
  · refine .ite (s.failLanding_guards ..) (.ite (s.landLeg_guards ..) ?_)
    split
    · exact s.relevel_guards ..
    · exact s.missPair_guards ..
theorem State.settleEnds_guards (s : State) (w : Winder) : s.Guards (s.settleEnds w) := by
  unfold State.settleEnds
  have h : s.Guards (s.withPipe w (fun p => { p with settle := none })) := s.withPipe_guards w _ id
  dsimp only
  split
  · exact h
  · split
    · exact h
    · exact h.trans (State.landingTest_guards ..)
theorem State.unstageCycle_guards (s : State) : s.Guards s.unstageCycle := .ite (s.withdrawStaged_guards _ _) (.refl s)
theorem State.unpair_guards (s : State) : s.Guards s.unpair := by
  have h : s.Guards { s with pairing := .unpaired, pairBeyond := false } := .of_rest rfl rfl rfl rfl rfl rfl
  exact .ite (.refl s) (((h.trans (State.withQueue_guards _ _ _ (by simp))).trans (State.unstageCycle_guards _)).trans
    (State.formReadiness_guards _))
theorem releaseCalls_length (q : List Call) (st : CallState) : (releaseCalls q st).length = q.length := by
  simp [releaseCalls]
theorem State.pairWith_guards (s : State) (p : Pocket) : s.Guards (s.pairWith p) := by
  have h : s.Guards { s with pairing := .paired p, pairBeyond := false } := .of_rest rfl rfl rfl rfl rfl rfl
  exact (h.trans (State.withQueue_guards _ _ _ (releaseCalls_length _ _).le)).trans (State.formReadiness_guards _)

end Sys2Proof.Machine

/-! PROOFS. What keeps the slots in agreement with the winder states (R76): what the slots and queues hold by themselves, what
each winder's state asks of its slots, and one lemma for each operation that leaves both standing. -/

namespace Sys2Proof.Machine

/-! ## What the slots are to hold, taken apart -/

/-- What a pipeline holds by itself, whatever the state of its winder (R55, R74, R76, R83, R138). -/
structure Pipe.Sound (p : Pipe) (w : Winder) (pairing : Pairing) : Prop where
  offer : p.offer = none ∨ p.active.isSome = true ∨ p.staged.isSome = true
  staged : ∀ t, p.staged = some t → t.kind ≠ .rePair ∧ ∀ c, t.source = some c → c.isOf w = true
  active : ∀ t, p.active = some t → t.kind = .rePair → w = .rock ∧ p.staged = none ∧ pairing = .unpaired
  cycles : w = .service → (∀ t, p.staged = some t → t.isRockCycle = false) ∧ ∀ t, p.active = some t → t.isRockCycle = false

/-- The pipelines are sound, and the queues hold calls of their winders. -/
structure State.SlotsSound (s : State) : Prop where
  pipes : ∀ w, (s.pipe w).Sound w s.pairing
  queues : ∀ w, ∀ c ∈ s.queues.get w, c.isOf w = true

/-- What a winder's state and the occupancy of its slots are. -/
@[ext] structure View where
  state : WinderState
  hold : Bool
  active : Bool
  staged : Bool

/-- The view of a winder. -/
def State.view (s : State) (w : Winder) : View :=
  ⟨(s.winder w).state, (s.winder w).holdPending, (s.pipe w).active.isSome, (s.pipe w).staged.isSome⟩

/-- The slots of a view are as its state has them (R76, R100). -/
structure View.Stands (v : View) : Prop where
  active : v.active = v.state.holdsActive
  staged : v.staged = true → v.state.stages = true ∧ v.hold = false

theorem State.tripsAgree_iff (s : State) : s.tripsAgree = true ↔ s.SlotsSound ∧ ∀ w, (s.view w).Stands := by
  constructor
  · intro h
    simp only [State.tripsAgree, State.slotsAgree, State.rePairAgrees, State.callsAgree, Bool.and_eq_true, Bool.or_eq_true,
      Option.all_eq_true, beq_iff_eq, bne_iff_ne, ne_eq, List.all_eq_true, Bool.not_eq_true', Option.isNone_iff_eq_none] at h
    obtain ⟨⟨⟨⟨⟨⟨⟨⟨as, ss⟩, hs⟩, os⟩, ks⟩, ⟨⟨⟨ar, sr⟩, hr⟩, or⟩, kr⟩, rs, rr⟩, ⟨qs, cs⟩, rcs⟩, ⟨qr, cr⟩, -⟩ := h
    have cyc := rcs.resolve_left nofun
    refine ⟨⟨fun w => ?_, fun w => by cases w; exacts [qs, qr]⟩, fun w => ?_⟩
    · cases w
      · exact ⟨by tauto, fun t ht => ⟨ks t ht, cs t ht⟩, fun t ht k => absurd k (rs t ht), fun _ => cyc⟩
      · exact ⟨by tauto, fun t ht => ⟨kr t ht, cr t ht⟩, fun t ht k => ⟨rfl, (rr t ht).resolve_left (absurd k)⟩, nofun⟩
    · cases w
      · exact ⟨as, fun k => ⟨ss.resolve_left (Option.isSome_iff_ne_none.mp k), hs.resolve_left (Option.isSome_iff_ne_none.mp k)⟩⟩
      · exact ⟨ar, fun k => ⟨sr.resolve_left (Option.isSome_iff_ne_none.mp k), hr.resolve_left (Option.isSome_iff_ne_none.mp k)⟩⟩
  · rintro ⟨⟨pipes, queues⟩, stands⟩
    have one : ∀ w, s.slotsAgree w = true := by
      intro w
      simp only [State.slotsAgree, Bool.and_eq_true, Bool.or_eq_true, Option.all_eq_true, beq_iff_eq, bne_iff_ne, ne_eq,
        Bool.not_eq_true', Option.isNone_iff_eq_none]
      have none_or : ∀ {q : Prop}, ((s.pipe w).staged.isSome = true → q) → (s.pipe w).staged = none ∨ q := by
        intro q k
        cases h : (s.pipe w).staged with
        | none => exact .inl rfl
        | some t => exact .inr (k (by rw [h]; rfl))
      refine ⟨⟨⟨⟨(stands w).active, none_or (fun k => ((stands w).staged k).1)⟩, none_or (fun k => ((stands w).staged k).2)⟩,
        ?_⟩, fun t ht => ((pipes w).staged t ht).1⟩
      have := (pipes w).offer
      tauto
    have calls : ∀ w, s.callsAgree w = true := by
      intro w
      simp only [State.callsAgree, Bool.and_eq_true, Bool.or_eq_true, Option.all_eq_true, beq_iff_eq, List.all_eq_true,
        Bool.not_eq_true']
      refine ⟨⟨queues w, fun t ht => ((pipes w).staged t ht).2⟩, ?_⟩
      cases w
      · exact .inr ((pipes .service).cycles rfl)
      · exact .inl rfl
    have rePair : s.rePairAgrees = true := by
      simp only [State.rePairAgrees, Bool.and_eq_true, Bool.or_eq_true, Option.all_eq_true, beq_iff_eq, bne_iff_ne, ne_eq,
        Option.isNone_iff_eq_none]
      refine ⟨fun t ht k => absurd ((pipes .service).active t ht k).1 nofun, fun t ht => ?_⟩
      by_cases k : t.kind = .rePair
      · exact .inr ((pipes .rock).active t ht k).2
      · exact .inl k
    simp only [State.tripsAgree, one, calls, rePair, Bool.and_self]

/-! ## The relation -/

/-- `t` follows `s` without breaking the agreement of the slots with the winder states. -/
def State.Trips (s t : State) : Prop := s.tripsAgree = true → t.tripsAgree = true

theorem State.Trips.refl (s : State) : s.Trips s := id
theorem State.Trips.trans {s t u : State} (h : s.Trips t) (k : t.Trips u) : s.Trips u := k ∘ h
theorem State.Trips.ite {s t u : State} {p : Prop} [Decidable p] (h : s.Trips t) (k : s.Trips u) :
    s.Trips (if p then t else u) := by
  split <;> assumption

/-- A step that keeps the slots sound and each winder standing. -/
theorem State.Trips.of_parts {s t : State} (slots : s.SlotsSound → t.SlotsSound)
    (stands : s.SlotsSound → ∀ w, (s.view w).Stands → (t.view w).Stands) : s.Trips t := by
  intro h
  rw [State.tripsAgree_iff] at *
  exact ⟨slots h.1, fun w => stands h.1 w (h.2 w)⟩

/-- The pipelines, queues and pairing decide whether the slots are sound. -/
theorem State.SlotsSound.of_same {s t : State} (h : s.SlotsSound) (pipes : t.pipes = s.pipes) (queues : t.queues = s.queues)
    (pairing : t.pairing = s.pairing) : t.SlotsSound where
  pipes w := by unfold State.pipe; rw [pipes, pairing]; exact h.pipes w
  queues w := by rw [queues]; exact h.queues w

theorem State.view_of_same {s t : State} (pipes : t.pipes = s.pipes) (winders : t.winders = s.winders) (w : Winder) :
    t.view w = s.view w := by
  unfold State.view State.pipe State.winder; rw [pipes, winders]

/-- A change of nothing that the agreement looks at. -/
theorem State.Trips.of_rest {s t : State} (pipes : t.pipes = s.pipes) (queues : t.queues = s.queues)
    (pairing : t.pairing = s.pairing) (winders : t.winders = s.winders) : s.Trips t :=
  .of_parts (fun h => h.of_same pipes queues pairing) (fun _ w h => by rw [State.view_of_same pipes winders w]; exact h)

/-- Fewer staged trips and nothing else: a winder still stands. -/
theorem View.Stands.of_thinner {u v : View} (state : v.state = u.state) (hold : v.hold = true → u.hold = true)
    (active : v.active = u.active) (staged : v.staged = true → u.staged = true) (h : u.Stands) : v.Stands where
  active := by rw [active, state]; exact h.active
  staged k := by
    obtain ⟨a, b⟩ := h.staged (staged k)
    refine ⟨by rw [state]; exact a, ?_⟩
    cases e : v.hold with
    | false => rfl
    | true => rw [hold e] at b; exact b

theorem State.withMonitor_trips (s : State) (w : Winder) (f : Monitor → Monitor) : s.Trips (s.withMonitor w f) :=
  .of_rest rfl rfl rfl rfl
theorem State.withPosition_trips (s : State) (c : Conveyance) (f : Position → Position) : s.Trips (s.withPosition c f) :=
  .of_rest rfl rfl rfl rfl
theorem State.withCounters_trips (s : State) (w : Winder) (f : Counters → Counters) : s.Trips (s.withCounters w f) :=
  .of_rest rfl rfl rfl rfl
theorem State.handCap_trips (s : State) (w : Winder) : s.Trips (s.handCap w) := .of_rest rfl rfl rfl rfl
theorem State.sendOrder_trips (s : State) (w : Winder) (o : Order) : s.Trips (s.sendOrder w o) := .of_rest rfl rfl rfl rfl
theorem State.emptySuppression_trips (s : State) (w : Winder) : s.Trips (s.emptySuppression w) := .of_rest rfl rfl rfl rfl
theorem State.rebuildSet_trips (s : State) (c : Conveyance) : s.Trips (s.rebuildSet c) := .of_rest rfl rfl rfl rfl
theorem State.recordEnded_trips (s : State) (w : Winder) (id : Nat) (r : EndReason) : s.Trips (s.recordEnded w id r) :=
  .of_rest rfl rfl rfl rfl

/-! ## Winder records -/

theorem State.withWinder_view (s : State) (w v : Winder) (f : WinderRecord → WinderRecord) :
    (s.withWinder w f).view v =
      if v = w then { s.view v with state := (f (s.winder w)).state, hold := (f (s.winder w)).holdPending } else s.view v := by
  unfold State.view
  split
  · next e => subst e; simp
  · next e => rw [State.withWinder_winder_ne _ _ _ e]; rfl

/-- A winder record changed in nothing that the slots go by, a hold perhaps given up. -/
theorem State.withWinder_trips (s : State) (w : Winder) (f : WinderRecord → WinderRecord)
    (state : (f (s.winder w)).state = (s.winder w).state)
    (hold : (f (s.winder w)).holdPending = true → (s.winder w).holdPending = true) : s.Trips (s.withWinder w f) :=
  .of_parts (fun h => h.of_same rfl rfl rfl) (fun _ v h => by
    rw [State.withWinder_view]
    split
    · next e => subst e; exact .of_thinner (u := s.view v) state hold rfl id h
    · exact h)

/-! ## Pipelines and queues -/

theorem State.withPipe_view (s : State) (w v : Winder) (f : Pipe → Pipe) :
    (s.withPipe w f).view v =
      if v = w then { s.view v with active := (f (s.pipe w)).active.isSome, staged := (f (s.pipe w)).staged.isSome }
      else s.view v := by
  unfold State.view
  split
  · next e => subst e; simp
  · next e => rw [State.withPipe_pipe_ne _ _ _ e]; rfl

theorem State.withPipe_slots (s : State) (w : Winder) (f : Pipe → Pipe)
    (sound : (s.pipe w).Sound w s.pairing → (f (s.pipe w)).Sound w s.pairing) (h : s.SlotsSound) :
    (s.withPipe w f).SlotsSound where
  pipes v := by
    by_cases e : v = w
    · subst e; rw [State.withPipe_pipe_self]; exact sound (h.pipes v)
    · rw [State.withPipe_pipe_ne _ _ _ e]; exact h.pipes v
  queues := h.queues

/-- A pipeline changed that stays sound, its active slot as occupied as before and no trip newly staged. -/
theorem State.withPipe_trips (s : State) (w : Winder) (f : Pipe → Pipe)
    (sound : (s.pipe w).Sound w s.pairing → (f (s.pipe w)).Sound w s.pairing)
    (active : (f (s.pipe w)).active.isSome = (s.pipe w).active.isSome)
    (staged : (f (s.pipe w)).staged.isSome = true → (s.pipe w).staged.isSome = true) : s.Trips (s.withPipe w f) :=
  .of_parts (s.withPipe_slots w f sound) (fun _ v h => by
    rw [State.withPipe_view]
    split
    · next e => subst e; exact .of_thinner (u := s.view v) rfl id active staged h
    · exact h)

theorem State.withQueue_slots (s : State) (w : Winder) (f : List Call → List Call)
    (calls : ∀ c ∈ f (s.queues.get w), (∀ x ∈ s.queues.get w, x.isOf w = true) → c.isOf w = true) (h : s.SlotsSound) :
    (s.withQueue w f).SlotsSound where
  pipes := h.pipes
  queues v c hc := by
    unfold State.withQueue at hc
    by_cases e : v = w
    · subst e; rw [PerWinder.get_set_self] at hc; exact calls c hc (h.queues v)
    · rw [PerWinder.get_set_ne _ _ e] at hc; exact h.queues v c hc

theorem State.withQueue_trips (s : State) (w : Winder) (f : List Call → List Call)
    (calls : ∀ c ∈ f (s.queues.get w), (∀ x ∈ s.queues.get w, x.isOf w = true) → c.isOf w = true) : s.Trips (s.withQueue w f) :=
  .of_parts (s.withQueue_slots w f calls) (fun _ _ h => h)

/-- The kind of a call is that of what it asks. -/
theorem Call.isOf_work {c d : Call} (h : c.work = d.work) (w : Winder) : c.isOf w = d.isOf w := by
  unfold Call.isOf; rw [h]

/-- The entries of a queue changed in anything but what they ask. -/
theorem State.mapQueue_trips (s : State) (w : Winder) (f : Call → Call) (work : ∀ c, (f c).work = c.work) :
    s.Trips (s.withQueue w (fun q => q.map f)) :=
  s.withQueue_trips w _ (fun c hc k => by
    obtain ⟨x, hx, rfl⟩ := List.mem_map.mp hc
    rw [Call.isOf_work (work x)]; exact k x hx)

/-- Entries leave a queue. -/
theorem State.dropCall_trips (s : State) (w : Winder) (id : Nat) : s.Trips (s.withQueue w (fun q => dropCall q id)) :=
  s.withQueue_trips w _ (fun c hc k => k c (List.mem_of_mem_filter hc))

/-- A trip changed in nothing that tells its kind. -/
structure Trip.Alike (t u : Trip) : Prop where
  kind : u.kind = t.kind
  cls : u.cls = t.cls
  source : u.source = t.source

theorem Trip.Alike.isRockCycle {t u : Trip} (h : t.Alike u) : u.isRockCycle = t.isRockCycle := by
  unfold Trip.isRockCycle; rw [h.kind, h.cls]

/-- An offer given up leaves a pipeline sound. -/
theorem Pipe.Sound.withoutOffer {p : Pipe} {w : Winder} {g : Pairing} (h : p.Sound w g) :
    ({ p with offer := none } : Pipe).Sound w g :=
  ⟨.inl rfl, h.staged, h.active, h.cycles⟩

/-- The active trip changed in nothing that tells its kind, the settle timer in any way. -/
theorem Pipe.Sound.withActive {p : Pipe} {w : Winder} {g : Pairing} {t u : Trip} (x : Option SettleTimer) (h : p.Sound w g)
    (active : p.active = some t) (alike : t.Alike u) : ({ p with active := some u, settle := x } : Pipe).Sound w g where
  offer := .inr (.inl rfl)
  staged := h.staged
  active v hv k := by cases hv; exact h.active t active (alike.kind ▸ k)
  cycles e := ⟨(h.cycles e).1, fun v hv => by cases hv; rw [alike.isRockCycle]; exact (h.cycles e).2 t active⟩

/-- The trip on offer changed in nothing that tells its kind leaves a pipeline sound, with or without an offer. -/
theorem Pipe.Sound.withOffered {p : Pipe} {w : Winder} {g : Pairing} {f : Trip → Trip} (o : Option Offer) (h : p.Sound w g)
    (alike : ∀ t : Trip, t.Alike (f t)) (offered : o = none ∨ p.onOffer.isSome = true) :
    ({ p.withOffered f with offer := o } : Pipe).Sound w g := by
  unfold Pipe.withOffered Pipe.onOffer at *
  cases ha : p.active with
  | some t =>
    refine ⟨.inr (.inl rfl), h.staged, fun v hv k => ?_, fun e => ⟨(h.cycles e).1, fun v hv => ?_⟩⟩
    · cases hv; exact h.active t ha ((alike t).kind ▸ k)
    · cases hv; rw [(alike t).isRockCycle]; exact (h.cycles e).2 t ha
  | none =>
    rw [ha] at offered
    refine ⟨?_, fun v hv => ?_, fun v hv => by simp at hv, fun e => ⟨fun v hv => ?_, fun v hv => by simp at hv⟩⟩
    · rcases offered with rfl | k
      · exact .inl rfl
      · exact .inr (.inr (by simpa using k))
    · obtain ⟨t, ht, rfl⟩ := Option.map_eq_some_iff.mp hv
      exact ⟨(alike t).kind ▸ (h.staged t ht).1, (alike t).source ▸ (h.staged t ht).2⟩
    · obtain ⟨t, ht, rfl⟩ := Option.map_eq_some_iff.mp hv
      rw [(alike t).isRockCycle]; exact (h.cycles e).1 t ht

/-- Readying a staged trip leaves its pipeline sound. -/
theorem State.formReadiness_trips (s : State) : s.Trips s.formReadiness :=
  s.withPipe_trips .rock _ (fun h => by
    have alike : ∀ t : Trip, t.Alike (s.readied t) := fun t => by rw [State.readied_eq]; exact ⟨rfl, rfl, rfl⟩
    refine ⟨by simpa using h.offer, fun t ht => ?_, fun t ht k => ?_, nofun⟩
    · obtain ⟨x, hx, rfl⟩ := Option.map_eq_some_iff.mp ht
      exact ⟨(alike x).kind ▸ (h.staged x hx).1, (alike x).source ▸ (h.staged x hx).2⟩
    · obtain ⟨a, b, c⟩ := h.active t ht k
      exact ⟨a, by simp [b], c⟩) rfl (fun h => by simpa using h)
theorem State.readyStaged_trips (s : State) (w : Winder) : s.Trips (s.readyStaged w) := by
  cases w
  · exact .refl s
  · exact s.formReadiness_trips
theorem State.setContents_trips (s : State) (k : Skip) (c : Contents) : s.Trips (s.setContents k c) := by
  unfold State.setContents
  exact (State.Trips.of_rest (s := s) (t := { s with skips := s.skips.set k ⟨c, s.now⟩ }) rfl rfl rfl rfl).trans
    (State.formReadiness_trips _)

/-! ## The change of state -/

theorem State.changeState_pipe_slots (s : State) (w v : Winder) (st : WinderState) :
    ((s.changeState w st).pipe v).active = (s.pipe v).active ∧ ((s.changeState w st).pipe v).staged = (s.pipe v).staged ∧
    ((s.changeState w st).pipe v).offer = (s.pipe v).offer := by
  by_cases e : v = w
  · subst e
    by_cases h : (s.winder v).state = st
    · rw [State.changeState_self _ _ _ h]; exact ⟨rfl, rfl, rfl⟩
    · rw [State.changeState_pipe _ _ _ h]; exact ⟨rfl, rfl, rfl⟩
  · unfold State.changeState
    split
    · exact ⟨rfl, rfl, rfl⟩
    · dsimp only
      rw [State.withPipe_pipe_ne _ _ _ e, State.motionAtEntry_eq]
      exact ⟨rfl, rfl, rfl⟩

theorem Pipe.Sound.of_slots {p q : Pipe} {w : Winder} {g : Pairing} (h : p.Sound w g)
    (e : q.active = p.active ∧ q.staged = p.staged ∧ q.offer = p.offer) : q.Sound w g := by
  obtain ⟨a, b, c⟩ := e
  exact ⟨by rw [a, b, c]; exact h.offer, by rw [b]; exact h.staged, by rw [a, b]; exact h.active, by rw [a, b]; exact h.cycles⟩

/-- A change of state touches no queue and no pairing. -/
theorem State.changeState_queues (s : State) (w : Winder) (st : WinderState) :
    (s.changeState w st).queues = s.queues ∧ (s.changeState w st).pairing = s.pairing := by
  unfold State.changeState
  split
  · exact ⟨rfl, rfl⟩
  · dsimp only; rw [State.motionAtEntry_eq]; exact ⟨rfl, rfl⟩

theorem State.changeState_slots (s : State) (w : Winder) (st : WinderState) (h : s.SlotsSound) :
    (s.changeState w st).SlotsSound where
  pipes v := by
    rw [(s.changeState_queues w st).2]; exact (h.pipes v).of_slots (s.changeState_pipe_slots w v st)
  queues v := by rw [(s.changeState_queues w st).1]; exact h.queues v

theorem State.changeState_view (s : State) (w v : Winder) (st : WinderState) :
    (s.changeState w st).view v = if v = w then { s.view v with state := st } else s.view v := by
  unfold State.view
  obtain ⟨a, b, -⟩ := s.changeState_pipe_slots w v st
  rw [a, b]
  split
  · next e =>
    subst e
    by_cases h : (s.winder v).state = st
    · rw [State.changeState_self _ _ _ h, h]
    · rw [State.changeState_winder _ _ _ h]; rfl
  · next e => rw [State.changeState_winder_ne _ _ e]

/-! ## The Trip Pipeline's endings -/

/-- What a trip's end leaves of the pipelines but for the outcome records, and of the queues, the pairing and the winders. -/
theorem State.endTripRecord_slots (s : State) (w v : Winder) (t : Trip) (o : TripOutcome) :
    (((s.endTripRecord w t o).pipe v).active = (s.pipe v).active ∧
      ((s.endTripRecord w t o).pipe v).staged = (s.pipe v).staged ∧
      ((s.endTripRecord w t o).pipe v).offer = (s.pipe v).offer) ∧
    (s.endTripRecord w t o).queues = s.queues ∧ (s.endTripRecord w t o).pairing = s.pairing ∧
    (s.endTripRecord w t o).winders = s.winders := by
  have still := s.endTripRecord_still w t o
  refine ⟨?_, s.endTripRecord_queues w t o, still.pairing, still.winders⟩
  by_cases e : v = w
  · subst e; rw [State.endTripRecord_pipe]; exact ⟨rfl, rfl, rfl⟩
  · unfold State.endTripRecord
    dsimp only
    rw [State.withCounters_pipe, State.endSource_pipe, State.withPipe_pipe_ne _ _ _ e]
    exact ⟨rfl, rfl, rfl⟩

theorem State.endTripRecord_view (s : State) (w v : Winder) (t : Trip) (o : TripOutcome) :
    (s.endTripRecord w t o).view v = s.view v := by
  obtain ⟨⟨a, b, -⟩, -, -, d⟩ := s.endTripRecord_slots w v t o
  unfold State.view State.winder; rw [a, b, d]

theorem State.endTripRecord_sound (s : State) (w : Winder) (t : Trip) (o : TripOutcome) (h : s.SlotsSound) :
    (s.endTripRecord w t o).SlotsSound where
  pipes v := by
    obtain ⟨p, -, g, -⟩ := s.endTripRecord_slots w v t o
    rw [g]; exact (h.pipes v).of_slots p
  queues v := by rw [(s.endTripRecord_slots w v t o).2.1]; exact h.queues v

theorem State.endRePair_same (s : State) (t : Trip) :
    (s.endRePair t).pipes = s.pipes ∧ (s.endRePair t).queues = s.queues ∧ (s.endRePair t).pairing = s.pairing ∧
    (s.endRePair t).winders = s.winders := by
  unfold State.endRePair; split <;> exact ⟨rfl, rfl, rfl, rfl⟩

/-- The end of the active trip empties the active slot and leaves the staged one (R87). -/
theorem State.endActive_view (s : State) (w v : Winder) (o : TripOutcome) :
    (s.endActive w o).view v = if v = w then { s.view v with active := false } else s.view v := by
  unfold State.endActive
  split
  · next h =>
    split
    · next e => subst e; ext <;> simp [State.view, h]
    · rfl
  · rw [State.endTripRecord_view, State.view_of_same (State.endRePair_same _ _).1 (State.endRePair_same _ _).2.2.2,
      State.withPipe_view]
    split
    · next e => subst e; rfl
    · rfl

theorem Pipe.Sound.ended {p : Pipe} {w : Winder} {g : Pairing} (h : p.Sound w g) :
    ({ p with active := none, offer := none, settle := none } : Pipe).Sound w g :=
  ⟨.inl rfl, h.staged, fun _ k => (by cases k), fun e => ⟨(h.cycles e).1, fun _ k => (by cases k)⟩⟩

theorem State.endActive_slots (s : State) (w : Winder) (o : TripOutcome) (h : s.SlotsSound) :
    (s.endActive w o).SlotsSound := by
  unfold State.endActive
  split
  · exact h
  · obtain ⟨p, q, g, -⟩ := State.endRePair_same (s.withPipe w fun p => { p with active := none, offer := none, settle := none })
      (by assumption)
    exact State.endTripRecord_sound _ _ _ _ ((s.withPipe_slots w _ Pipe.Sound.ended h).of_same p q g)

theorem Pipe.Sound.unstage {p : Pipe} {w : Winder} {g : Pairing} (h : p.Sound w g) : p.unstage.Sound w g := by
  unfold Pipe.unstage
  refine ⟨?_, fun _ k => (by cases k), fun t ht k => ?_, fun e => ⟨fun _ k => (by cases k), (h.cycles e).2⟩⟩
  · cases hp : p.active <;> simp
  · obtain ⟨a, -, c⟩ := h.active t ht k
    exact ⟨a, rfl, c⟩

theorem State.discardStaged_slots (s : State) (w : Winder) (o : TripOutcome) (h : s.SlotsSound) :
    (s.discardStaged w o).SlotsSound := by
  unfold State.discardStaged
  split
  · exact h
  · exact State.endTripRecord_sound _ _ _ _ (s.withPipe_slots w _ Pipe.Sound.unstage h)

theorem State.discardStaged_view (s : State) (w v : Winder) (o : TripOutcome) :
    (s.discardStaged w o).view v = if v = w then { s.view v with staged := false } else s.view v := by
  unfold State.discardStaged
  split
  · next h =>
    split
    · next e => subst e; ext <;> simp [State.view, h]
    · rfl
  · rw [State.endTripRecord_view, State.withPipe_view]
    split
    · next e => subst e; rfl
    · rfl

theorem State.returnCall_slots (s : State) (w : Winder) (c : Call) (st : CallState) (hc : c.isOf w = true)
    (h : s.SlotsSound) : (s.returnCall w c st).SlotsSound := by
  unfold State.returnCall
  dsimp only
  split
  · refine s.withQueue_slots w _ (fun x hx k => ?_) h
    rcases List.mem_cons.mp hx with rfl | hx
    · exact hc
    · exact k x hx
  · next e _ =>
    refine (s.withQueue_slots w (fun q => { c with
      state := s.returnedState c.work st, priority := c.priority || e.priority } :: dropCall q e.id)
      (fun x hx k => ?_) h).of_same rfl rfl rfl
    rcases List.mem_cons.mp hx with rfl | hx
    · exact hc
    · exact k x (List.mem_of_mem_filter hx)

theorem State.withdrawStaged_sound (s : State) (w : Winder) (st : CallState) (h : s.SlotsSound) :
    (s.withdrawStaged w st).SlotsSound := by
  unfold State.withdrawStaged
  split
  · next c hc =>
    obtain ⟨t, ht, hs⟩ := Option.bind_eq_some_iff.mp hc
    exact State.returnCall_slots _ w c st (((h.pipes w).staged t ht).2 c hs) (s.withPipe_slots w _ Pipe.Sound.unstage h)
  · exact s.discardStaged_slots w _ h

/-- A withdrawal empties the staged slot and touches nothing else that a winder stands by (R90). -/
theorem State.withdrawStaged_view (s : State) (w v : Winder) (st : CallState) :
    (s.withdrawStaged w st).view v = if v = w then { s.view v with staged := false } else s.view v := by
  unfold State.withdrawStaged
  split
  · have still := (s.withPipe w Pipe.unstage).returnCall_still w (by assumption) st
    have e : ((s.withPipe w Pipe.unstage).returnCall w (by assumption) st).view v = (s.withPipe w Pipe.unstage).view v := by
      unfold State.view State.winder
      rw [State.returnCall_pipe, still.winders]
    rw [e, State.withPipe_view]
    split
    · next e => subst e; rfl
    · rfl
  · exact s.discardStaged_view w v _

theorem View.Stands.unstaged {v : View} (h : v.Stands) : ({ v with staged := false } : View).Stands := ⟨h.active, nofun⟩

theorem State.discardStaged_trips (s : State) (w : Winder) (o : TripOutcome) : s.Trips (s.discardStaged w o) :=
  .of_parts (s.discardStaged_slots w o) (fun _ v h => by
    rw [State.discardStaged_view]
    split
    · exact h.unstaged
    · exact h)
theorem State.withdrawStaged_trips (s : State) (w : Winder) (st : CallState) : s.Trips (s.withdrawStaged w st) :=
  .of_parts (s.withdrawStaged_sound w st) (fun _ v h => by
    rw [State.withdrawStaged_view]
    split
    · exact h.unstaged
    · exact h)

theorem State.park_slots (s : State) (w : Winder) (h : s.SlotsSound) : (s.park w).SlotsSound := by
  unfold State.park
  split
  · exact (s.changeState_slots w .parked h).of_same rfl rfl rfl
  · exact s.changeState_slots w _ h

theorem State.park_view (s : State) (w v : Winder) :
    (s.park w).view v =
      if v = w then { s.view v with state := if (s.view v).hold then .parked else .idle, hold := false } else s.view v := by
  unfold State.park
  split
  · next k =>
    rw [State.withWinder_view, State.changeState_view]
    split
    · next e => subst e; ext <;> simp [State.view, k]
    · rfl
  · next k =>
    rw [State.changeState_view]
    split
    · next e => subst e; ext <;> simp [State.view, k]
    · rfl

/-- A winder whose active trip has just ended stands again once it has left for IDLE or PARKED (R98). -/
theorem View.Stands.parked {v : View} (h : v.Stands) :
    ({ v with active := false, state := if v.hold then .parked else .idle, hold := false } : View).Stands := by
  refine ⟨?_, fun k => ?_⟩
  · dsimp only; split <;> rfl
  · obtain ⟨-, b⟩ := h.staged k
    dsimp only
    rw [b]
    exact ⟨rfl, rfl⟩

/-- The state that the end of the active trip leaves for IDLE or PARKED, what is done between not touching the slots. -/
theorem State.endAndPark_trips' (s t : State) (w : Winder) (o : TripOutcome) (slots : (s.endActive w o).SlotsSound → t.SlotsSound)
    (view : ∀ v, t.view v = (s.endActive w o).view v) : s.Trips (t.park w) :=
  .of_parts (fun h => t.park_slots w (slots (s.endActive_slots w o h))) (fun _ v h => by
    rw [State.park_view, view, State.endActive_view]
    split
    · exact h.parked
    · exact h)

theorem State.endAndPark_trips (s : State) (w : Winder) (o : TripOutcome) : s.Trips (s.endAndPark w o) :=
  s.endAndPark_trips' _ w o id (fun _ => rfl)

/-! ## The Fault Recorder -/

theorem State.record_trips (s : State) (e : FaultEntry) : s.Trips (s.record e) := by
  rw [State.record_eq]; exact .of_rest rfl rfl rfl rfl

theorem State.tripWinder_trips (s : State) (w : Winder) : s.Trips (s.tripWinder w) := by
  unfold State.tripWinder
  dsimp only
  refine State.Trips.trans (t := (((s.changeState w .tripped).endActive w .aborted).withdrawStaged w .waiting).withWinder w
    (fun r => { r with holdPending := false, stopPending := false, slowCap := none })) ?_
    ((State.emptySuppression_trips _ w).trans (State.sendOrder_trips _ w _))
  refine .of_parts (fun h => State.SlotsSound.of_same (s := ((s.changeState w .tripped).endActive w .aborted).withdrawStaged w
    .waiting) (State.withdrawStaged_sound _ _ _ (State.endActive_slots _ _ _ (s.changeState_slots w _ h))) rfl rfl rfl)
    (fun _ v h => ?_)
  rw [State.withWinder_view, State.withdrawStaged_view, State.endActive_view, State.changeState_view]
  split
  · next e =>
    subst e
    have state : ((((s.changeState v .tripped).endActive v .aborted).withdrawStaged v .waiting).winder v).state = .tripped := by
      have := congrArg View.state (State.withdrawStaged_view ((s.changeState v .tripped).endActive v .aborted) v v .waiting)
      rw [State.endActive_view, State.changeState_view] at this
      simpa [State.view] using this
    exact ⟨by simp [state, WinderState.holdsActive], nofun⟩
  · exact h

theorem State.lockWinder_trips (s : State) (w : Winder) (tripped : (s.winder w).state = .tripped) : s.Trips (s.lockWinder w) := by
  unfold State.lockWinder
  refine State.Trips.trans (t := s.changeState w .lockout) ?_
    ((State.emptySuppression_trips _ w).trans (State.sendOrder_trips _ w _))
  refine .of_parts (s.changeState_slots w _) (fun _ v h => ?_)
  rw [State.changeState_view]
  split
  · next e =>
    subst e
    have st : (s.view v).state = .tripped := tripped
    refine ⟨h.active.trans (by rw [st]; rfl), fun k => ?_⟩
    have := (h.staged k).1
    rw [st] at this
    cases this
  · exact h

theorem State.handTrip_trips (s : State) (f : FaultReport) : s.Trips (s.handTrip f) := by
  unfold State.handTrip
  split
  · exact .refl s
  · next h => exact .ite (s.lockWinder_trips _ h) (.refl s)
  all_goals exact s.tripWinder_trips _
theorem State.deliver_trips (s : State) (f : FaultReport) : s.Trips (s.deliver f) := by
  unfold State.deliver
  dsimp only
  split
  · exact (s.record_trips _).trans (State.handTrip_trips _ f)
  all_goals exact s.record_trips _
theorem State.deliverAll_trips (s : State) (l : List FaultReport) : s.Trips (s.deliverAll l) := by
  unfold State.deliverAll
  induction l generalizing s with
  | nil => exact .refl s
  | cons f rest ih => exact (s.deliver_trips f).trans (ih _)

end Sys2Proof.Machine

namespace Sys2Proof.Machine

/-! ## The Zone Table and the Envelope Monitor -/

theorem State.followCap_trips (s : State) (w : Winder) : s.Trips (s.followCap w) := by
  unfold State.followCap
  split
  · exact .refl s
  · exact .ite ((s.withWinder_trips w _ rfl id).trans (State.sendOrder_trips _ w _)) (.refl s)
theorem State.handTouch_trips (s : State) (w : Winder) : s.Trips (s.handTouch w) := by
  have h : s.Trips { s with restricted := s.restricted.set w (s.restrictedTouch w) } := .of_rest rfl rfl rfl rfl
  exact .ite h (h.trans (State.withWinder_trips _ w _ rfl id))
theorem State.handOn_trips (s : State) (w : Winder) : s.Trips (s.handOn w) :=
  ((s.handCap_trips w).trans (State.followCap_trips _ w)).trans (State.handTouch_trips _ w)
theorem State.rebuildMasked_trips (s : State) (m : PerConveyance Bool) (c : Conveyance) : s.Trips (s.rebuildMasked m c) :=
  .ite (s.rebuildSet_trips c) (.refl s)
theorem State.rebuildForEdit_trips (s : State) (m : PerConveyance Bool) : s.Trips (s.rebuildForEdit m) :=
  (((((s.rebuildMasked_trips m _).trans (State.rebuildMasked_trips _ m _)).trans (State.rebuildMasked_trips _ m _)).trans
    (State.rebuildMasked_trips _ m _)).trans (State.handOn_trips _ _)).trans (State.handOn_trips _ _)
theorem State.rebuildWinder_trips (s : State) (w : Winder) : s.Trips (s.rebuildWinder w) :=
  ((s.rebuildSet_trips _).trans (State.rebuildSet_trips _ _)).trans (State.handOn_trips _ w)
theorem State.overRaised_trips (s : State) (w : Winder) : s.Trips (s.overRaised w) :=
  .ite ((s.withWinder_trips w _ rfl id).trans (State.sendOrder_trips _ w _)) (.refl s)
theorem State.overCleared_trips (s : State) (w : Winder) : s.Trips (s.overCleared w) :=
  .ite ((s.withWinder_trips w _ rfl id).trans (State.sendOrder_trips _ w _)) (s.withWinder_trips w _ rfl id)
theorem State.setOver_trips (s : State) (w : Winder) : s.Trips (s.setOver w) :=
  .ite (s.withMonitor_trips w _) ((s.withMonitor_trips w _).trans (State.overRaised_trips _ w))
theorem State.clearOver_trips (s : State) (w : Winder) : s.Trips (s.clearOver w) :=
  .ite ((s.withMonitor_trips w _).trans (State.overCleared_trips _ w)) (s.withMonitor_trips w _)
theorem State.compareOver_trips (s : State) (w : Winder) : s.Trips (s.compareOver w) := by
  unfold State.compareOver
  dsimp only
  split
  · exact ((s.withMonitor_trips w _).trans (State.deliver_trips _ _)).trans (State.setOver_trips _ w)
  · split
    · exact (s.withMonitor_trips w _).trans (State.clearOver_trips _ w)
    · exact s.withMonitor_trips w _
  all_goals exact s.withMonitor_trips w _
theorem State.compareCritical_trips (s : State) (w : Winder) : s.Trips (s.compareCritical w) :=
  .ite ((s.withMonitor_trips w _).trans (State.deliver_trips _ _)) (.refl s)
theorem State.compareUnder_trips (s : State) (w : Winder) : s.Trips (s.compareUnder w) := by
  unfold State.compareUnder
  split
  · dsimp only
    split
    · exact s.withMonitor_trips w _
    · exact s.withMonitor_trips w _
    all_goals exact .refl s
  all_goals exact .refl s
theorem State.compare_trips (s : State) (w : Winder) : s.Trips (s.compare w) :=
  .ite ((((s.withMonitor_trips w _).trans (State.compareOver_trips _ w)).trans (State.compareCritical_trips _ w)).trans
    (State.compareUnder_trips _ w)) (.refl s)
theorem State.handAndCompare_trips (s : State) (w : Winder) : s.Trips (s.handAndCompare w) :=
  ((s.handCap_trips w).trans (State.compare_trips _ w)).trans (State.followCap_trips _ w)
theorem State.clearIndications_trips (s : State) (w : Winder) : s.Trips (s.clearIndications w) :=
  .ite (s.withMonitor_trips w _) ((s.withMonitor_trips w _).trans (State.clearOver_trips _ w))

/-! ## Offers -/

theorem State.endFreeOffer_trips (s : State) (o : TripOutcome) : s.Trips (s.endFreeOffer o) := by
  have h : ∀ (t : State) (r : Option RePair) (c : Option Time), t.Trips { t with repair := r, clutchTimer := c } :=
    fun _ _ _ => .of_rest rfl rfl rfl rfl
  exact (s.withPipe_trips .rock (fun p => { p with offer := none }) Pipe.Sound.withoutOffer rfl id).trans (h _ _ _)
theorem State.failOffer_trips (s : State) (w : Winder) (o : TripOutcome) : s.Trips (s.failOffer w o) :=
  .ite (s.discardStaged_trips w o) (.ite (s.endFreeOffer_trips o) (s.endAndPark_trips w o))
theorem State.stopOffer_trips (s : State) (w : Winder) : s.Trips (s.stopOffer w) :=
  .ite (s.withdrawStaged_trips w _) (s.failOffer_trips w _)

/-- A GRANT goes out for a trip that stands in a slot (R83). -/
theorem State.sendGrant_trips (s : State) (w : Winder) (t : Trip) (l : Leg) (h : (s.pipe w).onOffer.isSome = true) :
    s.Trips (s.sendGrant w t l) := by
  unfold State.sendGrant
  have alike : ∀ t : Trip, t.Alike { t.withLeg (fun l => { l with state := .offered }) with granted := true } :=
    fun _ => ⟨rfl, rfl, rfl⟩
  refine (s.withPipe_trips w _ (fun k => k.withOffered _ alike (.inr h)) ?_ (fun k => ?_)).trans (State.sendOrder_trips _ w _)
  · exact (Pipe.withOffered_slots _ _).2
  · exact (Pipe.withOffered_slots _ _).1.symm.trans k
theorem State.refusePayload_trips (s : State) (k : Skip) (t : Trip) : s.Trips (s.refusePayload k t) :=
  ((s.discardStaged_trips _ _).trans (State.setContents_trips _ k _)).trans (State.deliver_trips _ _)
theorem State.record_pipe (s : State) (e : FaultEntry) (w : Winder) : (s.record e).pipe w = s.pipe w := by
  rw [State.record_eq]; rfl
theorem State.grantCycle_trips (s : State) (t : Trip) (l : Leg) (h : (s.pipe .rock).onOffer.isSome = true) :
    s.Trips (s.grantCycle t l) := by
  unfold State.grantCycle
  split
  · exact s.sendGrant_trips _ t l h
  · split
    · exact s.refusePayload_trips _ t
    · refine (s.deliver_trips _).trans (State.sendGrant_trips _ _ t l ?_)
      rw [State.deliver_minor _ _ (by simp [payloadReport]), State.record_pipe]
      exact h
    · exact s.sendGrant_trips _ t l h

/-- A rock cycle is on offer to the rock winder alone (R74). -/
theorem State.SlotsSound.onOffer_service {s : State} (h : s.SlotsSound) {t : Trip} (ht : (s.pipe .service).onOffer = some t) :
    t.isRockCycle = false := by
  obtain ⟨staged, active⟩ := (h.pipes .service).cycles rfl
  unfold Pipe.onOffer at ht
  split at ht
  · next a ha => cases ht; exact active _ ha
  · exact staged t ht

theorem State.offerLeg_trips (s : State) (w : Winder) : s.Trips (s.offerLeg w) := by
  unfold State.offerLeg
  split
  · exact .refl s
  · next t ht =>
    split
    · exact .refl s
    · have some : (s.pipe w).onOffer.isSome = true := by rw [ht]; rfl
      refine .ite (s.withPipe_trips w _ Pipe.Sound.withoutOffer rfl id) (.ite (s.stopOffer_trips w) ?_)
      split
      · next h =>
        simp only [Bool.and_eq_true] at h
        cases w with
        | rock => exact s.grantCycle_trips _ _ some
        | service =>
          intro k
          rw [((State.tripsAgree_iff s).mp k).1.onOffer_service ht] at h
          cases h.1
      · exact s.sendGrant_trips w _ _ some
theorem State.backOff_trips (s : State) (w : Winder) (n : Nat) (h : (s.pipe w).onOffer.isSome = true) : s.Trips (s.backOff w n) := by
  have d : s.Trips { s with draws := s.draws + 1 } := .of_rest rfl rfl rfl rfl
  refine .ite (d.trans (State.offerLeg_trips _ w)) (d.trans (State.withPipe_trips _ w _ (fun k => ?_) rfl id))
  refine ⟨.inr ?_, k.staged, k.active, k.cycles⟩
  unfold Pipe.onOffer at h
  split at h
  · next t ht => exact .inl (by show Option.isSome (s.pipe w).active = true; rw [ht]; rfl)
  · exact .inr h
theorem State.giveUp_trips (s : State) (w : Winder) : s.Trips (s.giveUp w) :=
  (s.failOffer_trips w _).trans (State.deliver_trips _ _)

/-- The trip on offer stays the trip on offer when it is changed. -/
theorem Pipe.withOffered_onOffer (p : Pipe) (f : Trip → Trip) : (p.withOffered f).onOffer = p.onOffer.map f := by
  unfold Pipe.withOffered Pipe.onOffer
  cases p.active <;> simp

theorem State.refuseOffer_trips (s : State) (w : Winder) : s.Trips (s.refuseOffer w) := by
  unfold State.refuseOffer
  split
  · exact .refl s
  · next trip ht =>
    let counted := s.withCounters w (fun c => { c with driveRefusals := saturate (c.driveRefusals + 1) })
    let f : Pipe → Pipe := fun p => { p.withOffered (fun t => { t with offerCount := trip.offerCount + 1 }) with offer := none }
    have h : s.Trips (counted.withPipe w f) :=
      (s.withCounters_trips w _).trans (State.withPipe_trips counted w f
        (fun k => k.withOffered none (fun _ => ⟨rfl, rfl, rfl⟩) (.inl rfl)) (Pipe.withOffered_slots _ _).2
        (fun k => (Pipe.withOffered_slots _ _).1.symm.trans k))
    refine .ite (h.trans (State.giveUp_trips _ w)) (h.trans (State.backOff_trips _ w _ ?_))
    rw [State.withPipe_pipe_self]
    show (Pipe.withOffered (s.pipe w) _).onOffer.isSome = true
    rw [Pipe.withOffered_onOffer, ht]
    rfl

/-- The slots after an acceptance: the trip on offer is the active one (R84). -/
theorem Pipe.accept_slots {p : Pipe} (h : p.onOffer.isSome = true) : p.accept.active.isSome = true := by
  unfold Pipe.onOffer at h
  unfold Pipe.accept
  dsimp only
  split at h
  · next t ht => rfl
  · next ht => simpa [ht] using h

theorem Pipe.Sound.accept {p : Pipe} {w : Winder} {g : Pairing} (h : p.Sound w g) : p.accept.Sound w g := by
  unfold Pipe.accept
  dsimp only
  split
  · next t ht =>
    refine ⟨.inl rfl, h.staged, fun u hu k => ?_, fun e => ⟨(h.cycles e).1, fun u hu => ?_⟩⟩
    · cases hu; exact h.active t ht k
    · cases hu; exact (h.cycles e).2 t ht
  · refine ⟨.inl rfl, fun _ k => (by cases k), fun u hu k => ?_, fun e => ⟨fun _ k => (by cases k), fun u hu => ?_⟩⟩
    · obtain ⟨t, ht, rfl⟩ := Option.map_eq_some_iff.mp hu
      exact absurd k (h.staged t ht).1
    · obtain ⟨t, ht, rfl⟩ := Option.map_eq_some_iff.mp hu
      exact (h.cycles e).1 t ht

theorem State.suppressRecovery_same (s : State) (w : Winder) :
    (s.suppressRecovery w).pipes = s.pipes ∧ (s.suppressRecovery w).queues = s.queues ∧
    (s.suppressRecovery w).pairing = s.pairing ∧ (s.suppressRecovery w).winders = s.winders := by
  unfold State.suppressRecovery; split <;> exact ⟨rfl, rfl, rfl, rfl⟩

theorem State.acceptOffer_trips (s : State) (w : Winder) (h : (s.pipe w).onOffer.isSome = true) : s.Trips (s.acceptOffer w) := by
  unfold State.acceptOffer
  refine State.Trips.trans ?_ (State.handAndCompare_trips _ w)
  obtain ⟨pipes, queues, pairing, winders⟩ := (s.withPipe w Pipe.accept).suppressRecovery_same w
  refine .of_parts (fun k => State.changeState_slots _ w _ ?_) (fun _ v k => ?_)
  · exact (s.withPipe_slots w _ Pipe.Sound.accept k).of_same pipes queues pairing
  · rw [State.changeState_view, State.view_of_same pipes winders, State.withPipe_view]
    by_cases e : v = w
    · subst e
      simp only [if_pos]
      refine ⟨Pipe.accept_slots h, fun st => ?_⟩
      exact ⟨rfl, (k.staged ((s.pipe v).accept_staged st)).2⟩
    · rw [if_neg e, if_neg e]; exact k
theorem State.tryOffer_trips (s : State) (w : Winder) : s.Trips (s.tryOffer w) := .ite (s.offerLeg_trips w) (.refl s)

/-! ## The planner and the end of an event -/

/-- What a winder stands by when a trip may enter its staged slot (R76, R77, R93, R94). -/
structure State.MayStage (s : State) (w : Winder) : Prop where
  empty : (s.pipe w).staged = none
  state : (s.winder w).state.stages = true
  hold : (s.winder w).holdPending = false
  active : ∀ t, (s.pipe w).active = some t → t.kind ≠ .rePair

theorem State.stage_trips (s : State) (w : Winder) (t : Trip) (may : s.MayStage w) (kind : t.kind ≠ .rePair)
    (source : ∀ c, t.source = some c → c.isOf w = true) (cycles : w = .service → t.isRockCycle = false) :
    s.Trips (s.stage w t) := by
  unfold State.stage
  refine .of_parts (s.withPipe_slots w _ (fun h => ?_)) (fun _ v h => ?_)
  · refine ⟨.inr (.inr rfl), fun u hu => ?_, fun u hu k => absurd k (may.active u hu), fun e => ⟨fun u hu => ?_, (h.cycles e).2⟩⟩
    · cases hu; exact ⟨kind, source⟩
    · cases hu; exact cycles e
  · rw [State.withPipe_view]
    split
    · next e => subst e; exact ⟨h.active, fun _ => ⟨may.state, may.hold⟩⟩
    · exact h

/-- The trip built from a call of a winder's queue is one of the winder's own kinds (R78). -/
theorem State.callTrip_isRockCycle {s : State} {w : Winder} {c : Call} (h : c.isOf w = true) (e : w = .service) :
    (s.callTrip w c).isRockCycle = false := by
  subst e
  unfold Call.isOf at h
  unfold State.callTrip Trip.isRockCycle Trip.built CallWork.tripKind
  cases hc : c.work with
  | cage => rfl
  | cycle k => rw [hc] at h; cases h

theorem State.callTrip_kind (s : State) (w : Winder) (c : Call) : (s.callTrip w c).kind ≠ .rePair := by
  unfold State.callTrip Trip.built CallWork.tripKind
  cases c.work <;> simp

/-- The verdict that stages a call stages the trip built from it (R78). -/
theorem State.validate_stage {s : State} {w : Winder} {c : Call} {t : Trip} (h : s.validate w c = .stage t) :
    t = s.callTrip w c := by
  unfold State.validate at h
  dsimp only at h
  split at h
  · cases h
  · split at h
    · cases h
    · split at h
      · cases h
      · split at h
        · cases h
        · cases h; rfl

theorem State.MayStage.of_same {s t : State} {w : Winder} (h : s.MayStage w) (pipes : t.pipes = s.pipes)
    (winders : t.winders = s.winders) : t.MayStage w := by
  obtain ⟨a, b, c, d⟩ := h
  exact ⟨by unfold State.pipe at *; rwa [pipes], by unfold State.winder at *; rwa [winders],
    by unfold State.winder at *; rwa [winders], by unfold State.pipe at *; rwa [pipes]⟩

theorem State.planFrom_trips (s : State) (w : Winder) (n : Nat) (may : s.MayStage w) : s.Trips (s.planFrom w n) := by
  induction n generalizing s with
  | zero => exact .refl s
  | succ n ih =>
    unfold State.planFrom
    split
    · exact .refl s
    · next c hc =>
      split
      · refine State.Trips.trans ?_ (ih _ (may.of_same rfl rfl))
        exact s.mapQueue_trips w _ (fun c => by split <;> rfl)
      · refine State.Trips.trans ?_ (ih _ (may.of_same rfl rfl))
        exact (s.dropCall_trips w _).trans (State.recordEnded_trips _ _ _ _)
      · next t ht =>
        intro agree
        have sound := ((State.tripsAgree_iff s).mp agree).1
        have own : c.isOf w = true := sound.queues w c (List.mem_of_find?_eq_some hc)
        obtain rfl := State.validate_stage ht
        refine ((s.dropCall_trips w c.id).trans (State.stage_trips _ w _ (may.of_same rfl rfl) (s.callTrip_kind w c) ?_
          (State.callTrip_isRockCycle own))) agree
        rintro _ ⟨⟩
        exact own

/-- The conditions under which the planner runs are those under which a trip may be staged (R76, R77, R138). -/
theorem State.mayStage_of_plannerRuns {s : State} {w : Winder} (h : s.plannerRuns w = true) (sound : s.SlotsSound) :
    s.MayStage w := by
  simp only [State.plannerRuns, Bool.and_eq_true, Bool.or_eq_true, beq_iff_eq, bne_iff_ne, ne_eq, Bool.not_eq_true',
    Option.isNone_iff_eq_none] at h
  obtain ⟨⟨⟨⟨-, empty⟩, hold⟩, state⟩, pairing⟩ := h
  refine ⟨empty, state, hold, fun t ht k => ?_⟩
  obtain ⟨e, -, unpaired⟩ := (sound.pipes w).active t ht k
  exact pairing.elim (fun p => by subst e; cases p) (fun p => p unpaired)

theorem State.plan_trips (s : State) (w : Winder) : s.Trips (s.plan w) := by
  unfold State.plan
  split
  · next h =>
    intro agree
    exact ((s.planFrom_trips w _ (State.mayStage_of_plannerRuns h ((State.tripsAgree_iff s).mp agree).1)).trans
      (State.readyStaged_trips _ w)) agree
  · exact .refl s
theorem State.settleFrom_trips (s : State) (w : Winder) (n : Nat) : s.Trips (s.settleFrom w n) := by
  induction n generalizing s with
  | zero => exact .refl s
  | succ n ih =>
    have h := (s.plan_trips w).trans (State.tryOffer_trips _ w)
    exact .ite (h.trans (ih _)) h
theorem State.settle_trips (s : State) (w : Winder) : s.Trips (s.settle w) := s.settleFrom_trips w _
theorem State.settleBoth_trips (s : State) : s.Trips s.settleBoth :=
  (s.settle_trips _).trans (State.settle_trips _ _)

/-! ## Stops, landing and the skips -/

theorem State.enterStopping_trips (s : State) (w : Winder) (c : StopCause) (running : (s.winder w).state = .running) :
    s.Trips (s.enterStopping w c) := by
  unfold State.enterStopping
  dsimp only
  refine State.Trips.trans ?_ ((State.sendOrder_trips _ w _).trans (State.handAndCompare_trips _ w))
  refine .of_parts (fun h => State.withdrawStaged_sound _ w _ ((s.changeState_slots w .stopping h).of_same rfl rfl rfl))
    (fun _ v h => ?_)
  rw [State.withdrawStaged_view, State.withWinder_view, State.changeState_view]
  split
  · next e =>
    subst e
    refine ⟨?_, nofun⟩
    have st : (s.view v).state = .running := running
    exact h.active.trans (by rw [st]; simp only [State.changeState_state]; rfl)
  · exact h
theorem State.endStop_trips (s : State) (w : Winder) : s.Trips (s.endStop w) := s.endAndPark_trips w _

/-- The settle wait of a leg of the active trip (R117). -/
theorem State.beginSettling_trips (s : State) (w : Winder) (t : Trip) (l : Leg) (active : (s.pipe w).active = some t) :
    s.Trips (s.beginSettling w t l) := by
  unfold State.beginSettling
  dsimp only
  refine State.Trips.trans ?_ (State.withPipe_trips _ w _ (fun h => h.of_slots ⟨rfl, rfl, rfl⟩) rfl id)
  have sound : (s.pipe w).Sound w s.pairing →
      ({ s.pipe w with active := some (t.withLeg (fun l => { l with state := .settling })) } : Pipe).Sound w s.pairing :=
    fun h => (h.withActive (s.pipe w).settle active ⟨rfl, rfl, rfl⟩)
  refine .of_parts (fun h => State.changeState_slots _ w _ (s.withPipe_slots w _ sound h)) (fun _ v h => ?_)
  rw [State.changeState_view, State.withPipe_view]
  by_cases e : v = w
  · subst e
    simp only [if_pos]
    exact ⟨rfl, fun k => ⟨rfl, (h.staged k).2⟩⟩
  · rw [if_neg e, if_neg e]; exact h

theorem State.failLanding_trips (s : State) (w : Winder) (t : Trip) (c : Conveyance) : s.Trips (s.failLanding w t c) := by
  unfold State.failLanding
  refine s.endAndPark_trips' _ w .landingFailed (fun h => ?_) (fun v => ?_)
  · rw [State.deliver_minor _ _ (by simp), State.record_eq]; exact h.of_same rfl rfl rfl
  · rw [State.deliver_minor _ _ (by simp), State.record_eq]; rfl

theorem State.relevel_trips (s : State) (w : Winder) (t : Trip) (l : Leg) (m : List LegMotion) (c : Conveyance)
    (active : (s.pipe w).active = some t) : s.Trips (s.relevel w t l m c) := by
  unfold State.relevel
  split
  · exact s.failLanding_trips w t c
  · refine ((s.withCounters_trips w _).trans (State.withPipe_trips _ w _ (fun h => ?_) ?_ id)).trans (State.offerLeg_trips _ w)
    · exact h.withActive _ active ⟨rfl, rfl, rfl⟩
    · show true = (s.pipe w).active.isSome
      rw [active]; rfl

/-- A landed re-pair goes on to the Closing phase (R121, R140). -/
theorem State.beginClosing_trips (s : State) (t : Trip) (active : (s.pipe .rock).active = some t) (kind : t.kind = .rePair) :
    s.Trips s.beginClosing := by
  have rest : ∀ (u : State) (r : Option RePair) (o : Order),
      u.Trips ({ u with repair := r }.orderClutch o) := fun _ _ _ => .of_rest rfl rfl rfl rfl
  unfold State.beginClosing
  refine State.Trips.trans (t := s.changeState .rock .clutching) ?_ (rest _ _ _)
  refine .of_parts (s.changeState_slots _ _) (fun sound v h => ?_)
  rw [State.changeState_view]
  split
  · next e =>
    subst e
    refine ⟨?_, fun k => ?_⟩
    · show (s.pipe .rock).active.isSome = true
      rw [active]; rfl
    · have none : (s.pipe .rock).staged = none := ((sound.pipes .rock).active t active kind).2.1
      have : (s.pipe .rock).staged.isSome = true := k
      rw [none] at this
      cases this
  · exact h

/-- The active trip replaced by one of its own kind, the settle timer in any way. -/
theorem State.replaceActive_trips (s : State) (w : Winder) (t u : Trip) (x : Option SettleTimer)
    (active : (s.pipe w).active = some t) (alike : t.Alike u) :
    s.Trips (s.withPipe w (fun p => { p with active := some u, settle := x })) :=
  s.withPipe_trips w _ (fun h => h.withActive x active alike)
    (by show true = (s.pipe w).active.isSome; rw [active]; rfl) id

/-- The next leg of a trip waits in DWELLING (R121). -/
theorem State.dwell_trips (s : State) (w : Winder) (active : (s.pipe w).active.isSome = true) :
    s.Trips (s.changeState w .dwelling) := by
  refine .of_parts (s.changeState_slots w _) (fun _ v h => ?_)
  rw [State.changeState_view]
  split
  · next e => subst e; exact ⟨active, fun k => ⟨rfl, (h.staged k).2⟩⟩
  · exact h

theorem State.landLeg_trips (s : State) (w : Winder) (t : Trip) (active : (s.pipe w).active = some t) :
    s.Trips (s.landLeg w t) := by
  have landed : s.Trips (s.withPipe w (fun p => { p with active := some t.landed, settle := none })) :=
    s.replaceActive_trips w t t.landed none active ⟨rfl, rfl, rfl⟩
  have now : ((s.withPipe w (fun p => { p with active := some t.landed, settle := none })).pipe w).active = some t.landed := by
    rw [State.withPipe_pipe_self]
  unfold State.landLeg
  dsimp only
  generalize s.withPipe w (fun p => { p with active := some t.landed, settle := none }) = u at landed now
  refine landed.trans ?_
  split
  · next kind =>
    intro agree
    have rock : w = .rock := ((((State.tripsAgree_iff u).mp agree).1.pipes w).active _ now kind).1
    subst rock
    exact u.beginClosing_trips _ now kind agree
  · refine .ite (u.endAndPark_trips w _) ?_
    have next : u.Trips (u.withPipe w (fun p => { p with active := p.active.map (fun t => { t with current := t.current + 1 }) })) :=
      u.withPipe_trips w _ (fun h => by
        rw [now]
        exact h.withActive (u.pipe w).settle now ⟨rfl, rfl, rfl⟩) (by simp) id
    exact .ite (next.trans (State.endAndPark_trips _ w _)) (next.trans (State.dwell_trips _ w (by
      rw [State.withPipe_pipe_self]; simp [now])))

theorem State.missPair_trips (s : State) (t : Trip) (l : Leg) (a b : Examined) (active : (s.pipe .rock).active = some t) :
    s.Trips (s.missPair t l a b) := by
  unfold State.missPair
  dsimp only
  split
  · exact .ite (s.relevel_trips _ _ _ _ _ active) (s.failLanding_trips _ _ _)
  · exact s.failLanding_trips _ _ _

/-- A pair is examined on the rock winder alone (R119). -/
theorem State.examined_pair {s : State} {t : Trip} {l : Leg} {a b : Examined} {rest : List Examined}
    (h : s.examined t l = a :: b :: rest) : t.isRockCycle = true := by
  unfold State.examined at h
  split at h
  · assumption
  · split at h <;> simp at h

theorem State.landingTest_trips (s : State) (w : Winder) (t : Trip) (l : Leg) (active : (s.pipe w).active = some t) :
    s.Trips (s.landingTest w t l) := by
  unfold State.landingTest
  split
  · exact .refl s
  · next first rest examined =>
    refine .ite (s.failLanding_trips _ _ _) (.ite (s.landLeg_trips _ _ active) ?_)
    split
    · exact s.relevel_trips _ _ _ _ _ active
    · cases w with
      | rock => exact s.missPair_trips _ _ _ _ active
      | service =>
        intro agree
        have := (((State.tripsAgree_iff s).mp agree).1.pipes .service).cycles rfl
        have cycle := State.examined_pair examined
        rw [this.2 t active] at cycle
        cases cycle
theorem State.settleEnds_trips (s : State) (w : Winder) : s.Trips (s.settleEnds w) := by
  have h : s.Trips (s.withPipe w (fun p => { p with settle := none })) :=
    s.withPipe_trips w _ (fun h => h.of_slots ⟨rfl, rfl, rfl⟩) rfl id
  unfold State.settleEnds
  dsimp only
  split
  · exact h
  · next t ht =>
    split
    · exact h
    · exact h.trans (State.landingTest_trips _ w t _ (by rw [State.withPipe_pipe_self]; exact ht))

theorem State.unstageCycle_trips (s : State) : s.Trips s.unstageCycle := .ite (s.withdrawStaged_trips _ _) (.refl s)

/-- The skips Unpaired: the slots are as they were, and a re-pair may stand active (R135). -/
theorem State.unpaired_trips (s : State) (b : Bool) : s.Trips { s with pairing := .unpaired, pairBeyond := b } :=
  .of_parts (fun h => ⟨fun w => by
    obtain ⟨offer, staged, active, cycles⟩ := h.pipes w
    exact ⟨offer, staged, fun t ht k => ⟨(active t ht k).1, (active t ht k).2.1, rfl⟩, cycles⟩, h.queues⟩) (fun _ _ h => h)

theorem State.unpair_trips (s : State) : s.Trips s.unpair :=
  .ite (.refl s) ((((s.unpaired_trips false).trans (State.mapQueue_trips _ .rock
    (fun c => { c with state := .heldPairing }) (fun _ => rfl))).trans
    (State.unstageCycle_trips _)).trans (State.formReadiness_trips _))

end Sys2Proof.Machine

/-! PROOFS. What every command keeps of the invariants, of the queue of commands and of the time base: one relation, what a
request's arrival and reply keep of it, and the tables and settings it asks about. -/

namespace Sys2Proof.Machine

/-! ## The relation -/

/-- `t` follows `s` at the same reading, with the same commands waiting, and breaks no invariant that `s` has. -/
structure State.Preserves (s t : State) : Prop where
  now : t.now = s.now
  pending : t.pending = s.pending
  outputs : s.outputsAgree = true → t.outputsAgree = true
  fields : s.fieldsAgree = true → t.fieldsAgree = true
  faults : s.faultsBounded = true → t.faultsBounded = true
  ended : s.endedBounded = true → t.endedBounded = true
  queues : s.queuesBounded = true → t.queuesBounded = true
  trips : s.tripsAgree = true → t.tripsAgree = true
  zones : s.zonesSound = true → t.zonesSound = true
  settings : s.settingsInRange = true → t.settingsInRange = true

theorem State.Preserves.refl (s : State) : s.Preserves s := ⟨rfl, rfl, id, id, id, id, id, id, id, id⟩

theorem State.Preserves.trans {s t u : State} (h : s.Preserves t) (k : t.Preserves u) : s.Preserves u where
  now := k.now.trans h.now
  pending := k.pending.trans h.pending
  outputs := k.outputs ∘ h.outputs
  fields := k.fields ∘ h.fields
  faults := k.faults ∘ h.faults
  ended := k.ended ∘ h.ended
  queues := k.queues ∘ h.queues
  trips := k.trips ∘ h.trips
  zones := k.zones ∘ h.zones
  settings := k.settings ∘ h.settings

theorem State.Preserves.ite {s t u : State} {p : Prop} [Decidable p] (h : s.Preserves t) (k : s.Preserves u) :
    s.Preserves (if p then t else u) := by
  split <;> assumption

theorem State.Guards.queuesBounded {s t : State} (h : s.Guards t) (k : s.queuesBounded = true) : t.queuesBounded = true := by
  rw [State.queuesBounded_iff] at *
  exact fun w => (h.counts w).trans (k w)

/-- What the shared operations keep, in one. -/
theorem State.Preserves.of_shared {s t : State} (keeps : s.Keeps t) (guards : s.Guards t) (trips : s.Trips t) :
    s.Preserves t where
  now := keeps.now
  pending := keeps.pending
  outputs := guards.outputs
  fields := guards.fields
  faults := guards.faults
  ended := guards.ended
  queues := guards.queuesBounded
  trips := trips
  zones h := by
    unfold State.zonesSound at *
    rw [keeps.zones, keeps.storedCurrent, keeps.commit, keeps.recordCurrent, keeps.recordWrite]
    exact h
  settings h := by
    unfold State.settingsInRange at *
    rw [keeps.work, keeps.storedCurrent, keeps.commit]
    exact h

/-- The part of a state that the invariants, the queue of commands and the time base are. -/
def State.judged (s : State) : State :=
  { State.reset with
    now := s.now, work := s.work, storedCurrent := s.storedCurrent, commit := s.commit, recordCurrent := s.recordCurrent
    recordWrite := s.recordWrite, zones := s.zones, queues := s.queues, ended := s.ended, pipes := s.pipes
    winders := s.winders, pairing := s.pairing, faults := s.faults, overflow := s.overflow, pending := s.pending }

/-- The judged part of a state decides every invariant. -/
theorem State.judged_same (s : State) :
    s.judged.outputsAgree = s.outputsAgree ∧ s.judged.fieldsAgree = s.fieldsAgree ∧
    s.judged.faultsBounded = s.faultsBounded ∧ s.judged.endedBounded = s.endedBounded ∧
    s.judged.queuesBounded = s.queuesBounded ∧ s.judged.tripsAgree = s.tripsAgree ∧
    s.judged.zonesSound = s.zonesSound ∧ s.judged.settingsInRange = s.settingsInRange :=
  ⟨rfl, rfl, rfl, rfl, rfl, rfl, rfl, rfl⟩

/-- A change of nothing that the invariants judge. -/
theorem State.Preserves.of_judged {s t : State} (h : t.judged = s.judged) : s.Preserves t := by
  obtain ⟨a, b, c, d, e, f, g, i⟩ := t.judged_same
  obtain ⟨a', b', c', d', e', f', g', i'⟩ := s.judged_same
  rw [h] at a b c d e f g i
  have now : t.judged.now = s.judged.now := by rw [h]
  have pending : t.judged.pending = s.judged.pending := by rw [h]
  exact ⟨now, pending, fun k => a ▸ a' ▸ k, fun k => b ▸ b' ▸ k, fun k => c ▸ c' ▸ k,
    fun k => d ▸ d' ▸ k, fun k => e ▸ e' ▸ k, fun k => f ▸ f' ▸ k, fun k => g ▸ g' ▸ k, fun k => i ▸ i' ▸ k⟩

/-! ## Requests -/

theorem State.begin_preserves (s : State) : s.Preserves s.begin := .of_judged rfl
theorem State.reply_preserves (s : State) (h : Head) (k : Nat) (b : Bool) (r : Code × Answer) :
    s.Preserves (s.reply h k b r) := .of_judged rfl
theorem State.frameArrives_preserves (s : State) (l : Link) : s.Preserves (s.frameArrives l) := .of_judged rfl
theorem State.abandonIf_preserves (s : State) (b : Bool) : s.Preserves (s.abandonIf b) :=
  .ite (.of_judged rfl) (.refl s)
theorem State.dropSnapshot_preserves (s : State) (l : Link) : s.Preserves (s.dropSnapshot l) :=
  .ite (.of_judged rfl) (.refl s)
theorem State.takeRequest_preserves (s : State) (h : Head) (k : Kind) : s.Preserves (s.takeRequest h k) :=
  (s.begin_preserves.trans (State.frameArrives_preserves _ _)).trans (State.abandonIf_preserves _ _)
theorem State.heard_preserves (s : State) (h : Head) (k : Kind) : s.Preserves ((s.takeRequest h k).dropSnapshot h.link) :=
  (s.takeRequest_preserves h k).trans (State.dropSnapshot_preserves _ _)
theorem State.dropAwaited_preserves (s : State) (w : Winder) (k : Kind) (tag : Nat) : s.Preserves (s.dropAwaited w k tag) :=
  .of_judged rfl

/-- A request keeps what its block keeps. -/
theorem request_preserves (s : State) (h : Head) (k : Kind) (n : Nat) (w : Option Nat) {act : State → State × (Code × Answer)}
    (block : ∀ t : State, t.Preserves (act t).1) : s.Preserves (request s h k n w act) := by
  unfold request
  dsimp only
  split
  · exact (s.heard_preserves h k).trans (State.reply_preserves ..)
  · exact ((s.heard_preserves h k).trans (block _)).trans (State.reply_preserves ..)

theorem winderRequest_preserves (s : State) (h : Head) (k : Kind) (n code : Nat)
    {act : Winder → State → State × (Code × Answer)} (block : ∀ w (t : State), t.Preserves (act w t).1) :
    s.Preserves (winderRequest s h k n code act) :=
  request_preserves s h k n _ (fun t => by
    split
    · exact block _ t
    · exact .refl t)

theorem readRequest_preserves (s : State) (h : Head) (k : Kind) (n : Nat) (w : Option Nat) (answer : State → Code × Answer) :
    s.Preserves (readRequest s h k n w answer) :=
  request_preserves s h k n w (fun t => .refl t)

theorem driveRequest_preserves (s : State) (h : Head) (k : Kind) (n : Nat) (answer : State → Code × Answer)
    {act : State → State} (block : ∀ t : State, t.Preserves (act t)) : s.Preserves (driveRequest s h k n answer act) := by
  unfold driveRequest
  dsimp only
  split
  · exact (s.heard_preserves h k).trans (State.reply_preserves ..)
  · exact ((s.heard_preserves h k).trans (State.reply_preserves ..)).trans (block _)

theorem pageRead_preserves (s : State) (kind : ReadKind) (first : Nat) (form : State → List PageItem × PageCommon) :
    s.Preserves (pageRead s kind first form).1 := by
  unfold pageRead
  split
  · exact .of_judged rfl
  · split
    · exact .of_judged rfl
    · split
      · exact .refl s
      · split
        · exact .of_judged rfl
        · split
          · exact .refl s
          · exact .of_judged rfl

theorem pageRequest_preserves (s : State) (h : Head) (k : Kind) (n : Nat) (w : Option Nat)
    {act : State → State × (Code × Answer)} (block : ∀ t : State, t.Preserves (act t).1) : s.Preserves (pageRequest s h k n w act) := by
  unfold pageRequest
  dsimp only
  split
  · exact ((s.takeRequest_preserves h k).trans (State.dropSnapshot_preserves _ _)).trans (State.reply_preserves ..)
  · exact ((s.takeRequest_preserves h k).trans (block _)).trans (State.reply_preserves ..)

/-- A table of tests keeps what the block keeps where none of them fails. -/
theorem State.tested_preserves (s : State) {tests : List (Bool × Reason)} {act : State → State × (Code × Answer)}
    (block : firstFailing tests = none → s.Preserves (act s).1) : s.Preserves (s.tested tests act).1 := by
  unfold State.tested
  split
  · exact .refl s
  · next h => exact block h

theorem withRead_preserves {α : Type} (o : Presence α) {act : Option α → State → State × (Code × Answer)} (s : State)
    (block : ∀ a, s.Preserves (act a s).1) : s.Preserves (withRead o act s).1 := by
  cases o with
  | absent => exact block none
  | present a => exact block (some a)
  | unassigned n => exact .refl s

/-- A test of a table that none fails of. -/
theorem firstFailing_mem {tests : List (Bool × Reason)} (h : firstFailing tests = none) {b : Bool} {r : Reason}
    (k : (b, r) ∈ tests) : b = false := firstFailing_eq_none.mp h _ k

/-! ## The shared operations, in one -/

theorem State.settle_preserves (s : State) (w : Winder) : s.Preserves (s.settle w) :=
  .of_shared (s.settle_keeps w) (s.settle_guards w) (s.settle_trips w)
theorem State.settleBoth_preserves (s : State) : s.Preserves s.settleBoth :=
  (s.settle_preserves _).trans (State.settle_preserves _ _)
theorem State.deliver_preserves (s : State) (f : FaultReport) : s.Preserves (s.deliver f) :=
  .of_shared (s.deliver_keeps f) (s.deliver_guards f) (s.deliver_trips f)
theorem State.deliverAll_preserves (s : State) (l : List FaultReport) : s.Preserves (s.deliverAll l) := by
  unfold State.deliverAll
  induction l generalizing s with
  | nil => exact .refl s
  | cons f rest ih => exact (s.deliver_preserves f).trans (ih _)
theorem State.record_preserves (s : State) (e : FaultEntry) : s.Preserves (s.record e) :=
  .of_shared (s.record_keeps e) (s.record_guards e) (s.record_trips e)
theorem State.handAndCompare_preserves (s : State) (w : Winder) : s.Preserves (s.handAndCompare w) :=
  .of_shared (s.handAndCompare_keeps w) (s.handAndCompare_guards w) (s.handAndCompare_trips w)
theorem State.handTouch_preserves (s : State) (w : Winder) : s.Preserves (s.handTouch w) :=
  .of_shared (s.handTouch_keeps w) (s.handTouch_guards w) (s.handTouch_trips w)
theorem State.handOn_preserves (s : State) (w : Winder) : s.Preserves (s.handOn w) :=
  .of_shared (s.handOn_keeps w) (s.handOn_guards w) (s.handOn_trips w)
theorem State.rebuildWinder_preserves (s : State) (w : Winder) : s.Preserves (s.rebuildWinder w) :=
  .of_shared (s.rebuildWinder_keeps w) (s.rebuildWinder_guards w) (s.rebuildWinder_trips w)
theorem State.rebuildForEdit_preserves (s : State) (m : PerConveyance Bool) : s.Preserves (s.rebuildForEdit m) :=
  .of_shared (s.rebuildForEdit_keeps m) (s.rebuildForEdit_guards m) (s.rebuildForEdit_trips m)
theorem State.withdrawStaged_preserves (s : State) (w : Winder) (st : CallState) : s.Preserves (s.withdrawStaged w st) :=
  .of_shared (s.withdrawStaged_keeps w st) (s.withdrawStaged_guards w st) (s.withdrawStaged_trips w st)
theorem State.discardStaged_preserves (s : State) (w : Winder) (o : TripOutcome) : s.Preserves (s.discardStaged w o) :=
  .of_shared (s.discardStaged_keeps w o) (s.discardStaged_guards w o) (s.discardStaged_trips w o)
theorem State.endAndPark_preserves (s : State) (w : Winder) (o : TripOutcome) : s.Preserves (s.endAndPark w o) :=
  .of_shared (s.endAndPark_keeps w o) (s.endAndPark_guards w o) (s.endAndPark_trips w o)
theorem State.enterStopping_preserves (s : State) (w : Winder) (c : StopCause) (h : (s.winder w).state = .running) :
    s.Preserves (s.enterStopping w c) :=
  .of_shared (s.enterStopping_keeps w c) (s.enterStopping_guards w c) (s.enterStopping_trips w c h)
theorem State.offerLeg_preserves (s : State) (w : Winder) : s.Preserves (s.offerLeg w) :=
  .of_shared (s.offerLeg_keeps w) (s.offerLeg_guards w) (s.offerLeg_trips w)
theorem State.refuseOffer_preserves (s : State) (w : Winder) : s.Preserves (s.refuseOffer w) :=
  .of_shared (s.refuseOffer_keeps w) (s.refuseOffer_guards w) (s.refuseOffer_trips w)
theorem State.endFreeOffer_preserves (s : State) (o : TripOutcome) : s.Preserves (s.endFreeOffer o) :=
  .of_shared (s.endFreeOffer_keeps o) (s.endFreeOffer_guards o) (s.endFreeOffer_trips o)
theorem State.unpair_preserves (s : State) : s.Preserves s.unpair :=
  .of_shared s.unpair_keeps s.unpair_guards s.unpair_trips
theorem State.formReadiness_preserves (s : State) : s.Preserves s.formReadiness :=
  .of_shared s.formReadiness_keeps s.formReadiness_guards s.formReadiness_trips
theorem State.readyStaged_preserves (s : State) (w : Winder) : s.Preserves (s.readyStaged w) := by
  cases w
  · exact .refl s
  · exact s.formReadiness_preserves
theorem State.setContents_preserves (s : State) (k : Skip) (c : Contents) : s.Preserves (s.setContents k c) :=
  .of_shared (s.setContents_keeps k c) (s.setContents_guards k c) (s.setContents_trips k c)
theorem State.clearIndications_keeps (s : State) (w : Winder) : s.Keeps (s.clearIndications w) :=
  .ite (s.withMonitor_keeps w _) ((s.withMonitor_keeps w _).trans (State.clearOver_keeps _ w))
theorem State.clearIndications_preserves (s : State) (w : Winder) : s.Preserves (s.clearIndications w) :=
  .of_shared (s.clearIndications_keeps w) (s.clearIndications_guards w) (s.clearIndications_trips w)
theorem State.clearOver_preserves (s : State) (w : Winder) : s.Preserves (s.clearOver w) :=
  .of_shared (s.clearOver_keeps w) (s.clearOver_guards w) (s.clearOver_trips w)
theorem State.withMonitor_preserves (s : State) (w : Winder) (f : Monitor → Monitor) : s.Preserves (s.withMonitor w f) :=
  .of_judged rfl
theorem State.withPosition_preserves (s : State) (c : Conveyance) (f : Position → Position) : s.Preserves (s.withPosition c f) :=
  .of_judged rfl
theorem State.sendOrder_preserves (s : State) (w : Winder) (o : Order) : s.Preserves (s.sendOrder w o) :=
  .of_judged rfl
theorem State.emptySuppression_preserves (s : State) (w : Winder) : s.Preserves (s.emptySuppression w) :=
  .of_judged rfl
theorem State.rebuildSet_preserves (s : State) (c : Conveyance) : s.Preserves (s.rebuildSet c) := .of_judged rfl

/-- A winder record changed in no field that an invariant goes by, a hold perhaps given up. -/
theorem State.withWinder_preserves (s : State) (w : Winder) (f : WinderRecord → WinderRecord)
    (outputs : (s.winder w).outputsAgree = true → (f (s.winder w)).outputsAgree = true)
    (fields : (s.winder w).fieldsAgree = true → (f (s.winder w)).fieldsAgree = true)
    (state : (f (s.winder w)).state = (s.winder w).state)
    (hold : (f (s.winder w)).holdPending = true → (s.winder w).holdPending = true) : s.Preserves (s.withWinder w f) :=
  .of_shared (s.withWinder_keeps w f) (s.withWinder_guards w f outputs fields) (s.withWinder_trips w f state hold)

/-! ## The tables and the settings -/

theorem zonesOrdered_iff (t : List (Nat × Zone)) : zonesOrdered t = true ↔ Rising t ∧ ∀ e ∈ t, e.1 < 64 := by
  simp [zonesOrdered, Rising]

theorem workInOrdinary_iff (t : List (Nat × Zone)) :
    workInOrdinary t = true ↔ ∀ e ∈ t, e.2.kind = .work → 16 ≤ e.1 := by
  simp [workInOrdinary, Decidable.imp_iff_not_or]

/-- A zone table in its one form, with its WORK entries in their partition (R36). -/
structure ZonesWell (t : List (Nat × Zone)) : Prop where
  rising : Rising t
  below : ∀ e ∈ t, e.1 < 64
  work : ∀ e ∈ t, e.2.kind = .work → 16 ≤ e.1

theorem ZonesWell.put {t : List (Nat × Zone)} (h : ZonesWell t) {n : Nat} {z : Zone} (hn : n < 64)
    (hw : z.kind = .work → 16 ≤ n) : ZonesWell (tablePut t n z) where
  rising := tablePut_rising h.rising n z
  below e he := by
    rcases mem_tablePut he with rfl | k
    · exact hn
    · exact h.below e k
  work e he := by
    rcases mem_tablePut he with rfl | k
    · exact hw
    · exact h.work e k

theorem ZonesWell.filter {t : List (Nat × Zone)} (h : ZonesWell t) (p : Nat × Zone → Bool) : ZonesWell (t.filter p) where
  rising := List.Pairwise.sublist (List.Sublist.map _ List.filter_sublist) h.rising
  below e he := h.below e (List.mem_of_mem_filter he)
  work e he := h.work e (List.mem_of_mem_filter he)

theorem StoredConfig.zonesSound_iff (c : StoredConfig) :
    c.zonesSound = true ↔ ZonesWell c.zones ∧ ∀ e ∈ c.zones, e.2.kind ≠ .work := by
  unfold StoredConfig.zonesSound
  rw [Bool.and_eq_true, zonesOrdered_iff]
  simp only [List.all_eq_true, bne_iff_ne, ne_eq]
  exact ⟨fun ⟨⟨a, b⟩, c⟩ => ⟨⟨a, b, fun e he k => absurd k (c e he)⟩, c⟩, fun ⟨⟨a, b, _⟩, c⟩ => ⟨⟨a, b⟩, c⟩⟩

theorem ShaftRecord.workSound_iff (r : ShaftRecord) :
    r.workSound = true ↔ ZonesWell r.work ∧ ∀ e ∈ r.work, e.2.kind = .work := by
  unfold ShaftRecord.workSound
  rw [Bool.and_eq_true, zonesOrdered_iff]
  simp only [List.all_eq_true, Bool.and_eq_true, beq_iff_eq, decide_eq_true_eq]
  exact ⟨fun ⟨⟨a, b⟩, c⟩ => ⟨⟨a, b, fun e he _ => (c e he).2⟩, fun e he => (c e he).1⟩,
    fun ⟨⟨a, b, c⟩, d⟩ => ⟨⟨a, b⟩, fun e he => ⟨d e he, c e he (d e he)⟩⟩⟩

/-- The tables of a state and their copies, one by one (R36, R175, R178). -/
structure State.Tables (s : State) : Prop where
  zones : ZonesWell s.zones
  stored : s.storedCurrent.zonesSound = true
  commit : ∀ c, s.commit = some c → c.copy.zonesSound = true
  record : s.recordCurrent.workSound = true
  write : ∀ c, s.recordWrite = some c → c.copy.workSound = true

theorem State.zonesSound_iff (s : State) : s.zonesSound = true ↔ s.Tables := by
  simp only [State.zonesSound, Bool.and_eq_true, Option.all_eq_true, zonesOrdered_iff, workInOrdinary_iff]
  exact ⟨fun ⟨⟨⟨⟨⟨⟨a, b⟩, c⟩, d⟩, e⟩, f⟩, g⟩ => ⟨⟨a, b, c⟩, d, e, f, g⟩,
    fun ⟨⟨a, b, c⟩, d, e, f, g⟩ => ⟨⟨⟨⟨⟨⟨a, b⟩, c⟩, d⟩, e⟩, f⟩, g⟩⟩

theorem State.settingsInRange_iff (s : State) :
    s.settingsInRange = true ↔ s.work.inRange = true ∧ s.storedCurrent.settings.inRange = true ∧
      ∀ c, s.commit = some c → c.copy.settings.inRange = true := by
  simp only [State.settingsInRange, Bool.and_eq_true, Option.all_eq_true, and_assoc]

/-- The zone table replaced by another in its one form. -/
theorem State.withZones_preserves (s : State) (z : List (Nat × Zone)) (h : ZonesWell s.zones → ZonesWell z) :
    s.Preserves { s with zones := z } where
  now := rfl
  pending := rfl
  outputs := id
  fields := id
  faults := id
  ended := id
  queues := id
  trips := id
  zones k := by
    rw [State.zonesSound_iff] at *
    exact ⟨h k.zones, k.stored, k.commit, k.record, k.write⟩
  settings := id

/-- The working configuration replaced by another in range. -/
theorem State.withWork_preserves (s : State) (f : Settings → Settings) (h : s.work.inRange = true → (f s.work).inRange = true) :
    s.Preserves (s.withWork f) where
  now := rfl
  pending := rfl
  outputs := id
  fields := id
  faults := id
  ended := id
  queues := id
  trips := id
  zones := id
  settings k := by
    rw [State.settingsInRange_iff] at *
    exact ⟨h k.1, k.2⟩

/-- The item by item reading of a working configuration in range (chapters 1, 2, 5 to 9). -/
structure Settings.Ranged (c : Settings) : Prop where
  pitch : between 3000 6000 c.pitch = true
  span : between 2000000 3200000 c.span = true
  bank : (c.stations[0]).depth = some 0
  stations : ∀ i : Fin 16, (c.stations[i]).inRange = true
  rockPoints : c.rockPoints.inRange = true
  classes : c.classes.inRange = true
  scales : ∀ d, between 1000 100000 (c.scales.get d) = true
  references : ∀ d, depthInRange (c.references.get d).depth = true
  markers : markersInRange c.markers = true
  tracking : trackingOk c.tracking = true
  offerLimit : ∀ w, between 1 6 (c.offerLimit.get w) = true
  reportInterval : ∀ w, between 20 500 (c.reportInterval.get w) = true
  settle : ∀ w, between 500 5000 (c.settle.get w).base = true ∧ between 0 3 (c.settle.get w).cap = true
  payload : between 200 3000 c.payloadTolerance = true
  envelope : ∀ w, (c.envelope.get w).inRange = true

theorem PerWinder.forall_iff {α : Type} (p : PerWinder α) (q : α → Prop) : (∀ w, q (p.get w)) ↔ q p.service ∧ q p.rock :=
  ⟨fun h => ⟨h .service, h .rock⟩, fun h w => by cases w; exacts [h.1, h.2]⟩

theorem PerDrum.forall_iff {α : Type} (p : PerDrum α) (q : α → Prop) :
    (∀ d, q (p.get d)) ↔ q p.service ∧ q p.drum0 ∧ q p.drum1 :=
  ⟨fun h => ⟨h .service, h .drum0, h .drum1⟩, fun h d => by cases d; exacts [h.1, h.2.1, h.2.2]⟩

theorem PerWinder.forall_set {α : Type} {p : PerWinder α} {q : α → Prop} {w : Winder} {a : α} (h : ∀ v, q (p.get v)) (ha : q a)
    (v : Winder) : q ((p.set w a).get v) := by
  by_cases e : v = w
  · subst e; rw [PerWinder.get_set_self]; exact ha
  · rw [PerWinder.get_set_ne _ _ e]; exact h v

theorem PerDrum.forall_set {α : Type} {p : PerDrum α} {q : α → Prop} {w : Drum} {a : α} (h : ∀ v, q (p.get v)) (ha : q a)
    (v : Drum) : q ((p.set w a).get v) := by
  by_cases e : v = w
  · subst e; rw [PerDrum.get_set_self]; exact ha
  · rw [PerDrum.get_set_ne _ _ e]; exact h v

theorem Settings.inRange_iff (c : Settings) : c.inRange = true ↔ c.Ranged := by
  have stations : (c.stations.toList.all Station.inRange = true) ↔ ∀ i : Fin 16, (c.stations[i]).inRange = true := by
    simp only [List.all_eq_true, Vector.mem_toList_iff]
    constructor
    · intro h i; exact h _ (by simp)
    · intro h x hx
      obtain ⟨i, hi, rfl⟩ := Vector.getElem_of_mem hx
      exact h ⟨i, hi⟩
  have scales := PerDrum.forall_iff c.scales (fun x => between 1000 100000 x = true)
  have references := PerDrum.forall_iff c.references (fun x => depthInRange x.depth = true)
  have offers := PerWinder.forall_iff c.offerLimit (fun x => between 1 6 x = true)
  have intervals := PerWinder.forall_iff c.reportInterval (fun x => between 20 500 x = true)
  have settle := PerWinder.forall_iff c.settle (fun x => between 500 5000 x.base = true ∧ between 0 3 x.cap = true)
  have envelope := PerWinder.forall_iff c.envelope (fun x => x.inRange = true)
  unfold Settings.inRange
  simp only [Bool.and_eq_true, stations, beq_iff_eq, List.all_cons, List.all_nil, Bool.and_true]
  constructor
  · rintro ⟨⟨⟨⟨⟨⟨⟨⟨⟨⟨⟨⟨⟨⟨⟨h1, h2⟩, h3⟩, h4⟩, h5⟩, h6⟩, h7⟩, h8⟩, h9⟩, h10⟩, h11⟩, h12⟩, h13⟩, h14⟩, h15⟩, h16⟩
    exact ⟨h1, h2, h3, h4, h5, h6, scales.mpr h7, references.mpr h8, h9, h10, offers.mpr h11, intervals.mpr h12,
      settle.mpr h13, h14, envelope.mpr ⟨h15, h16⟩⟩
  · rintro ⟨h1, h2, h3, h4, h5, h6, h7, h8, h9, h10, h11, h12, h13, h14, h15⟩
    exact ⟨⟨⟨⟨⟨⟨⟨⟨⟨⟨⟨⟨⟨⟨⟨h1, h2⟩, h3⟩, h4⟩, h5⟩, h6⟩, scales.mp h7⟩, references.mp h8⟩, h9⟩, h10⟩, offers.mp h11⟩,
      intervals.mp h12⟩, settle.mp h13⟩, h14⟩, (envelope.mp h15).1⟩, (envelope.mp h15).2⟩

end Sys2Proof.Machine

/-! PROOFS. What each block keeps of the invariants, in the order of the model's files. -/

namespace Sys2Proof.Machine

/-! ## The Call Manager -/

theorem State.withQueue_preserves (s : State) (w : Winder) (f : List Call → List Call)
    (length : (f (s.queues.get w)).length ≤ (s.queues.get w).length)
    (calls : ∀ c ∈ f (s.queues.get w), (∀ x ∈ s.queues.get w, x.isOf w = true) → c.isOf w = true) :
    s.Preserves (s.withQueue w f) :=
  .of_shared (s.withQueue_keeps w f) (s.withQueue_guards w f length) (s.withQueue_trips w f calls)

theorem State.mapQueue_preserves (s : State) (w : Winder) (f : Call → Call) (work : ∀ c, (f c).work = c.work) :
    s.Preserves (s.withQueue w (fun q => q.map f)) :=
  .of_shared (s.withQueue_keeps w _) (s.withQueue_guards w _ (List.length_map _).le) (s.mapQueue_trips w f work)

theorem State.releaseCalls_preserves (s : State) (w : Winder) (st : CallState) :
    s.Preserves (s.withQueue w (fun q => releaseCalls q st)) :=
  s.mapQueue_preserves w _ (fun c => by split <;> rfl)

theorem State.recordEnded_preserves (s : State) (w : Winder) (id : Nat) (r : EndReason) : s.Preserves (s.recordEnded w id r) :=
  .of_shared (s.recordEnded_keeps w id r) (s.recordEnded_guards w id r) (s.recordEnded_trips w id r)

/-- An entry moved to the head of its queue lengthens it by nothing. -/
theorem moveToHead_length {q : List Call} {c : Call} (h : c ∈ q) : (moveToHead q c.id).length ≤ q.length := by
  unfold moveToHead
  have lt := dropCall_length_lt h
  unfold dropCall at lt
  rw [List.length_append]
  have one : ((q.find? (fun x => x.id == c.id)).map (fun x => { x with priority := true })).toList.length ≤ 1 :=
    Option.length_toList_le
  omega

theorem moveToHead_isOf {q : List Call} {w : Winder} (h : ∀ x ∈ q, x.isOf w = true) {c : Call} {id : Nat}
    (hc : c ∈ moveToHead q id) : c.isOf w = true := by
  unfold moveToHead at hc
  rcases List.mem_append.mp hc with k | k
  · simp only [Option.mem_toList, Option.map_eq_some_iff] at k
    obtain ⟨x, hx, rfl⟩ := k
    exact h x (List.mem_of_find?_eq_some hx)
  · exact h c (List.mem_of_mem_filter k)

/-- A call of a winder's own kind put into its queue where the admission count leaves room for it (R59). -/
theorem State.joinQueue_preserves (s : State) (w : Winder) (c : Call) (priority : Bool) (own : c.isOf w = true)
    (room : s.admissionCount w < admissionLimit w) :
    s.Preserves (s.withQueue w (fun q => if priority then c :: q else q ++ [c])) where
  now := rfl
  pending := rfl
  outputs := id
  fields := id
  faults := id
  ended := id
  queues h := by
    rw [State.queuesBounded_iff] at *
    intro v
    by_cases e : v = w
    · subst e
      rw [State.withQueue_admissionCount_self]
      unfold State.admissionCount at room
      cases priority <;> simp <;> omega
    · rw [State.withQueue_admissionCount_ne _ _ e]; exact h v
  trips := s.withQueue_trips w _ (fun x hx k => by
    have : x = c ∨ x ∈ s.queues.get w := by
      cases priority with
      | true => exact List.mem_cons.mp hx
      | false => exact (List.mem_append.mp hx).symm.imp_left List.mem_singleton.mp
    rcases this with rfl | hx
    · exact own
    · exact k x hx)
  zones := id
  settings := id

theorem State.mergeOrAdmit_preserves (s : State) (w : Winder) (link : Link) (work : CallWork) (priority : Bool)
    (own : ∀ c : Call, c.work = work → c.isOf w = true) : s.Preserves (s.mergeOrAdmit w link work priority).1 := by
  unfold State.mergeOrAdmit
  split
  · next c hc =>
    have mem := List.mem_of_find?_eq_some hc
    exact .ite (s.withQueue_preserves w _ (moveToHead_length mem) (fun x hx k => moveToHead_isOf k hx)) (.refl s)
  · split
    · next room => exact (s.joinQueue_preserves w _ priority (own _ rfl) room).trans (.of_judged rfl)
    · exact .refl s

theorem State.admitCageCall_preserves (s : State) (link : Link) (st : Fin 16) (cls : Class) (decks : List Deck)
    (riders : Option (List Nat)) (payload : Option Nat) (priority : Bool) :
    s.Preserves (s.admitCageCall link st cls decks riders payload priority).1 := by
  unfold State.admitCageCall
  split
  · exact .refl s
  · exact s.mergeOrAdmit_preserves _ link _ priority (fun c h => by unfold Call.isOf; rw [h]; rfl)

theorem takeCall_preserves (link : Link) (station cls : Nat) (decks : List Nat) (riders : Option (List Nat))
    (payload : Option Nat) (priority : Nat) (s : State) :
    s.Preserves (takeCall link station cls decks riders payload priority s).1 := by
  unfold takeCall
  split
  · split
    · exact (s.admitCageCall_preserves ..).trans (State.settle_preserves _ _)
    · exact .refl s
  · exact .refl s

theorem takeCycle_preserves (link : Link) (rising : Nat) (s : State) : s.Preserves (takeCycle link rising s).1 := by
  unfold takeCycle
  split
  · exact .refl s
  · exact (s.mergeOrAdmit_preserves _ link _ false (fun c h => by unfold Call.isOf; rw [h]; rfl)).trans
      (State.settle_preserves _ _)

theorem State.withAssembly_preserves (s : State) (a : Option Assembly) : s.Preserves { s with assembly := a } := .of_judged rfl

theorem takeOpenCall_preserves (station cls : Nat) (s : State) : s.Preserves (takeOpenCall station cls s).1 := by
  unfold takeOpenCall
  split
  · split
    · exact s.withAssembly_preserves _
    · exact .refl s
  · exact .refl s

theorem takeAddDeck_preserves (deck : Nat) (s : State) : s.Preserves (takeAddDeck deck s).1 := by
  unfold takeAddDeck
  split
  · exact .refl s
  · exact .refl s
  · exact s.tested_preserves (fun _ => s.withAssembly_preserves _)

theorem takeCloseCall_preserves (link : Link) (riders : Presence (List Nat)) (payload : Presence Nat) (s : State) :
    s.Preserves (takeCloseCall link riders payload s).1 := by
  unfold takeCloseCall
  have closed := s.withAssembly_preserves none
  split
  · exact .refl s
  · dsimp only
    split
    · exact closed
    · split
      · split
        · exact (closed.trans (State.admitCageCall_preserves ..)).trans (State.settle_preserves _ _)
        · exact closed
      all_goals exact closed

theorem takeCancelCall_preserves (id : Nat) (w : Winder) (s : State) : s.Preserves (takeCancelCall id w s).1 := by
  unfold takeCancelCall
  split
  · exact ((s.withQueue_preserves w _ (List.length_filter_le _ _) (fun c hc k => k c (List.mem_of_mem_filter hc))).trans
      (State.recordEnded_preserves ..)).trans (State.settle_preserves _ _)
  · split
    · exact (s.discardStaged_preserves w _).trans (State.settle_preserves _ _)
    · split <;> exact .refl s

/-- Entries leave an ended-call list (R64). -/
theorem State.dropEnded_preserves (s : State) (w : Winder) (p : Ended → Bool) :
    s.Preserves { s.begin with ended := s.ended.set w ((s.ended.get w).filter p) } where
  now := rfl
  pending := rfl
  outputs := id
  fields := id
  faults := id
  ended h := by
    rw [State.endedBounded_iff] at *
    exact PerWinder.forall_set (q := fun l : List Ended => l.length ≤ 16) h ((List.length_filter_le _ _).trans (h w))
  queues := id
  trips := id
  zones := id
  settings := id

/-! ## The store and the bars -/

/-- A write of the shaft work record starts from the table as it stands (R178). -/
theorem State.startRecordWrite_preserves (s : State) : s.Preserves s.startRecordWrite where
  now := rfl
  pending := rfl
  outputs := id
  fields := id
  faults := id
  ended := id
  queues := id
  trips := id
  zones h := by
    rw [State.zonesSound_iff] at *
    refine ⟨h.zones, h.stored, h.commit, h.record, fun c hc => ?_⟩
    cases hc
    rw [ShaftRecord.workSound_iff]
    exact ⟨h.zones.filter _, fun e he => by simpa using List.of_mem_filter he⟩
  settings := id

theorem State.barStaged_preserves (s : State) (st : Fin 16) : s.Preserves (s.barStaged st) :=
  .ite (s.withdrawStaged_preserves _ _) (.refl s)

theorem State.barActive_preserves (s : State) (st : Fin 16) : s.Preserves (s.barActive st) := by
  unfold State.barActive
  split
  · split
    · next h => exact s.enterStopping_preserves _ _ h
    · next h =>
      exact s.withWinder_preserves _ _ id (WinderRecord.fieldsAgree_stop _ _ h) rfl id
    · exact s.endAndPark_preserves _ _
    · exact s.endAndPark_preserves _ _
    all_goals exact .refl s
  · exact .refl s

theorem State.setBar_preserves (s : State) (st : Fin 16) : s.Preserves (s.setBar st) := by
  have bars : s.Preserves { s with bars := s.bars.set st true } := .of_judged rfl
  exact ((bars.trans (State.mapQueue_preserves _ .service
    (fun c => if c.state = .waiting ∧ c.work.names st then { c with state := .heldBar } else c)
    (fun c => by split <;> rfl))).trans (State.barStaged_preserves _ st)).trans (State.barActive_preserves _ st)

theorem takeBarStation_preserves (station : Nat) (s : State) : s.Preserves (takeBarStation station s).1 := by
  unfold takeBarStation
  split
  · exact .refl s
  · split
    · exact .refl s
    · exact ((s.setBar_preserves _).trans (State.startRecordWrite_preserves _)).trans (State.settle_preserves _ _)

theorem State.clearBars_preserves (s : State) : s.Preserves s.clearBars := by
  have bars : s.Preserves { s with bars := Vector.replicate 16 false } := .of_judged rfl
  exact bars.trans (State.releaseCalls_preserves _ .service .heldBar)

theorem takeClearBars_preserves (s : State) : s.Preserves (takeClearBars s).1 := by
  unfold takeClearBars
  split
  · exact (s.clearBars_preserves.trans (State.startRecordWrite_preserves _)).trans (State.settle_preserves _ _)
  · exact .refl s

theorem takeReadQueue_preserves (winder first : Nat) (s : State) : s.Preserves (takeReadQueue winder first s).1 := by
  unfold takeReadQueue
  split
  · exact .of_judged rfl
  · exact pageRead_preserves ..

/-- A commit's copy is made of the configuration as it stands (R175, R176). -/
theorem State.startCommit_preserves (s : State) : s.Preserves s.startCommit where
  now := rfl
  pending := rfl
  outputs := id
  fields := id
  faults := id
  ended := id
  queues := id
  trips := id
  zones h := by
    rw [State.zonesSound_iff] at *
    refine ⟨h.zones, h.stored, fun c hc => ?_, h.record, h.write⟩
    cases hc
    rw [StoredConfig.zonesSound_iff]
    exact ⟨h.zones.filter _, fun e he => by simpa using List.of_mem_filter he⟩
  settings h := by
    rw [State.settingsInRange_iff] at *
    refine ⟨h.1, h.2.1, fun c hc => ?_⟩
    cases hc
    exact h.1

/-- The end of a commit's write whose check holds makes its copy current (R177). -/
theorem State.commitHeld_preserves (s : State) (c : CommitWrite) (h : s.commit = some c) : s.Preserves (s.commitHeld c.copy) where
  now := rfl
  pending := rfl
  outputs := id
  fields := id
  faults := id
  ended := id
  queues := id
  trips := id
  zones k := by
    rw [State.zonesSound_iff] at *
    exact ⟨k.zones, k.commit c h, fun _ hc => (by cases hc), k.record, k.write⟩
  settings k := by
    rw [State.settingsInRange_iff] at *
    exact ⟨k.1, k.2.2 c h, fun _ hc => (by cases hc)⟩

/-- A commit in progress given up. -/
theorem State.dropCommit_preserves (s : State) (c : StoredConfig) : s.Preserves { s with storedSpare := c, commit := none } where
  now := rfl
  pending := rfl
  outputs := id
  fields := id
  faults := id
  ended := id
  queues := id
  trips := id
  zones k := by
    rw [State.zonesSound_iff] at *
    exact ⟨k.zones, k.stored, fun _ hc => (by cases hc), k.record, k.write⟩
  settings k := by
    rw [State.settingsInRange_iff] at *
    exact ⟨k.1, k.2.1, fun _ hc => (by cases hc)⟩

theorem State.endCommit_preserves (s : State) (holds : Bool) : s.Preserves (s.endCommit holds) := by
  unfold State.endCommit
  split
  · exact .refl s
  · next c hc => exact .ite (s.commitHeld_preserves c hc) ((s.dropCommit_preserves _).trans (State.record_preserves _ _))

/-- The end of a record write, whichever copy it leaves current (R178). -/
theorem State.endRecord_preserves (s : State) (c r : ShaftRecord) (h : s.zonesSound = true → c.workSound = true) :
    s.Preserves { s with recordCurrent := c, recordSpare := r, recordWrite := none } where
  now := rfl
  pending := rfl
  outputs := id
  fields := id
  faults := id
  ended := id
  queues := id
  trips := id
  zones k := by
    have sound := h k
    rw [State.zonesSound_iff] at *
    exact ⟨k.zones, k.stored, k.commit, sound, fun _ hc => (by cases hc)⟩
  settings := id

theorem State.endRecordWrite_preserves (s : State) (holds : Bool) : s.Preserves (s.endRecordWrite holds) := by
  unfold State.endRecordWrite
  split
  · exact .refl s
  · next c hc =>
    refine .ite (s.endRecord_preserves _ _ (fun k => ((State.zonesSound_iff s).mp k).write c hc)) ?_
    exact (s.endRecord_preserves s.recordCurrent { c.copy with sound := false }
      (fun k => ((State.zonesSound_iff s).mp k).record)).trans (State.record_preserves _ _)

theorem takeClearFaults_preserves (s : State) : s.Preserves (takeClearFaults s).1 :=
  s.tested_preserves (fun _ => ⟨rfl, rfl, id, id, fun _ => rfl, id, id, id, id, id⟩)

/-! ## The shaft's geometry, stations, rock points and classes -/

theorem State.makeCold_preserves (s : State) (c : Conveyance) : s.Preserves (s.makeCold c) := by
  have estimate : s.Preserves (s.reestimate c) := by
    unfold State.reestimate
    split
    · exact .refl s
    · exact .ite (s.withPosition_preserves c _) (.refl s)
  exact estimate.trans (State.withPosition_preserves _ c _)

theorem State.chillCounterweight_preserves (s : State) : s.Preserves s.chillCounterweight :=
  ((s.makeCold_preserves _).trans (State.rebuildSet_preserves _ _)).trans (State.handOn_preserves _ _)

theorem takeWriteGeometry_preserves (pitch span : Option Nat) (s : State) : s.Preserves (takeWriteGeometry pitch span s).1 := by
  unfold takeWriteGeometry
  refine s.tested_preserves (fun passed => ?_)
  have written : s.Preserves (s.withWork (fun c => { c with pitch := pitch.getD c.pitch, span := span.getD c.span })) := by
    refine s.withWork_preserves _ (fun h => ?_)
    rw [Settings.inRange_iff] at *
    have range := firstFailing_mem passed (b := !pitch.all (between 3000 6000) || !span.all (between 2000000 3200000))
      (r := .outOfRange) (by simp [State.geometryTests])
    simp only [Bool.or_eq_false_iff, Bool.not_eq_false'] at range
    refine { h with pitch := ?_, span := ?_ }
    · cases pitch with
      | none => exact h.pitch
      | some p => simpa using range.1
    · cases span with
      | none => exact h.span
      | some p => simpa using range.2
  exact .ite (written.trans (State.chillCounterweight_preserves _)) written

/-- A station entry read from a request is in its ranges, but for a landing depth where it is in service (R7, R8). -/
theorem readStation_spec {st : Fin 16} {depth : Option Int} {window decks inService : Nat} {e : Station}
    (h : readStation st depth window decks inService = some e) :
    (st = 0 → e.depth = some 0) ∧ (e.depth.all (fun d => decide (0 ≤ d ∧ d ≤ 3200000))) = true ∧
    between 10 150 e.window = true ∧ (e.decks.upper || e.decks.middle || e.decks.lower) = true := by
  unfold readStation at h
  split at h
  · next ds flag hds _ =>
    split at h
    · next ok =>
      simp only [Bool.and_eq_true, decide_eq_true_eq] at ok
      obtain ⟨⟨landing, window⟩, some⟩ := ok
      cases h
      unfold landingOk at landing
      refine ⟨fun z => by subst z; simpa using landing, ?_, window, ?_⟩
      · split at landing
        · rw [beq_iff_eq] at landing; rw [landing]; rfl
        · exact landing
      · unfold deckSetCode at hds
        split at hds
        · next lt =>
          cases hds
          interval_cases decks <;> rfl
        · cases hds
    · cases h
  · cases h

theorem State.putStation_preserves (s : State) (st : Fin 16) {depth : Option Int} {window decks inService : Nat}
    (passed : firstFailing (s.stationTests st (readStation st depth window decks inService)) = none) :
    s.Preserves (s.putStation st (readStation st depth window decks inService)) := by
  unfold State.putStation
  split
  · next e he =>
    refine s.withWork_preserves _ (fun h => ?_)
    rw [Settings.inRange_iff] at *
    rw [he] at passed
    have landing := firstFailing_mem passed (b := (some e).any (fun e => e.inService && e.depth.isNone))
      (r := .noLandingDepth) (by simp [State.stationTests])
    obtain ⟨zero, depth, window, decks⟩ := readStation_spec he
    have ranged : e.inRange = true := by
      unfold Station.inRange
      rw [depth, window, decks]
      simp only [Option.any_some, Bool.and_eq_false_iff] at landing
      rcases landing with k | k
      · rw [k]; rfl
      · rw [Option.isNone_eq_false_iff] at k; rw [k]; simp
    refine { h with bank := ?_, stations := fun i => ?_ }
    · by_cases z : st = 0
      · subst z; simpa using zero rfl
      · have ne : st.val ≠ 0 := fun k => z (Fin.ext k)
        rw [Vector.getElem_set_ne _ _ ne]; exact h.bank
    · by_cases z : st = i
      · subst z; simpa using ranged
      · have ne : st.val ≠ i.val := fun k => z (Fin.ext k)
        show Station.inRange (Vector.set _ _ _)[i.val] = true
        rw [Vector.getElem_set_ne _ _ ne]; exact h.stations i
  · exact .refl s

theorem takeWriteStation_preserves (station : Nat) (depth : Option Int) (window decks inService : Nat) (s : State) :
    s.Preserves (takeWriteStation station depth window decks inService s).1 := by
  unfold takeWriteStation
  split
  · exact .refl s
  · exact s.tested_preserves (fun passed => s.putStation_preserves _ passed)

/-- A rock point written keeps the ranges of the others (R10). -/
theorem RockPoints.write_inRange {p : RockPoints} {r : RockPoint} {depth : Option Int} {window : Option Nat}
    (h : p.inRange = true) (ordered : (p.write r depth window).ordered = true) (hd : depth.all depthInRange = true)
    (hw : window.all (between 10 250) = true) : (p.write r depth window).inRange = true := by
  have d : ∀ x, depthInRange x = true → depthInRange (depth.getD x) = true := by
    intro x hx
    cases depth with
    | none => exact hx
    | some y => simpa using hd
  have w : ∀ x, between 10 250 x = true → between 10 250 (window.getD x) = true := by
    intro x hx
    cases window with
    | none => exact hx
    | some y => simpa using hw
  simp only [RockPoints.inRange, Bool.and_eq_true, List.all_cons, List.all_nil, Bool.and_true] at h ⊢
  refine ⟨ordered, ?_⟩
  obtain ⟨-, ⟨td, tw⟩, ⟨ad, aw⟩, bd, bw⟩ := h
  cases r
  · exact ⟨⟨d _ td, w _ tw⟩, ⟨ad, aw⟩, bd, bw⟩
  · exact ⟨⟨td, tw⟩, ⟨d _ ad, w _ aw⟩, bd, bw⟩
  · exact ⟨⟨td, tw⟩, ⟨ad, aw⟩, d _ bd, w _ bw⟩

theorem takeWriteRockPoint_preserves (point : Nat) (depth : Option Int) (window : Option Nat) (s : State) :
    s.Preserves (takeWriteRockPoint point depth window s).1 := by
  unfold takeWriteRockPoint
  split
  · exact .refl s
  · next r _ =>
    refine s.tested_preserves (fun passed => ?_)
    have range := firstFailing_mem passed (b := !depth.all depthInRange || !window.all (between 10 250))
      (r := .outOfRange) (by simp [State.rockPointTests])
    have ordered := firstFailing_mem passed (b := !(s.work.rockPoints.write r depth window).ordered) (r := .outOfRange)
      (by simp [State.rockPointTests])
    simp only [Bool.or_eq_false_iff, Bool.not_eq_false'] at range ordered
    have written : s.Preserves (s.withWork (fun c => { c with rockPoints := c.rockPoints.write r depth window })) := by
      refine s.withWork_preserves _ (fun h => ?_)
      rw [Settings.inRange_iff] at *
      exact { h with rockPoints := RockPoints.write_inRange h.rockPoints ordered range.1 range.2 }
    exact .ite written (written.trans (State.unpair_preserves _))

/-- A class written keeps the ranges of the others (R12). -/
theorem PerClass.set_inRange {p : PerClass} {c : Class} {e : ClassSettings} (h : p.inRange = true)
    (he : classInRange e = true) (least : (p.set c e).creepLeast = true) : (p.set c e).inRange = true := by
  simp only [PerClass.inRange, Bool.and_eq_true, List.all_cons, List.all_nil, Bool.and_true] at h ⊢
  obtain ⟨-, men, material, rock, inspection, creep, rePair⟩ := h
  refine ⟨least, ?_⟩
  cases c
  · exact ⟨he, material, rock, inspection, creep, rePair⟩
  · exact ⟨men, he, rock, inspection, creep, rePair⟩
  · exact ⟨men, material, he, inspection, creep, rePair⟩
  · exact ⟨men, material, rock, he, creep, rePair⟩
  · exact ⟨men, material, rock, inspection, he, rePair⟩
  · exact ⟨men, material, rock, inspection, creep, he⟩

theorem takeWriteClass_preserves (cls : Nat) (e : ClassSettings) (s : State) : s.Preserves (takeWriteClass cls e s).1 := by
  unfold takeWriteClass
  split
  · exact .refl s
  · next c _ =>
    refine s.tested_preserves (fun passed => ?_)
    have range := firstFailing_mem passed (b := !classInRange e || !(s.work.classes.set c e).creepLeast)
      (r := .outOfRange) (by simp [State.classTests])
    simp only [Bool.or_eq_false_iff, Bool.not_eq_false'] at range
    refine ((s.withWork_preserves (fun k => { k with classes := k.classes.set c e }) (fun h => ?_)).trans
      (State.handAndCompare_preserves _ _)).trans (State.handAndCompare_preserves _ _)
    rw [Settings.inRange_iff] at *
    exact { h with classes := PerClass.set_inRange h.classes range.1 range.2 }

end Sys2Proof.Machine

namespace Sys2Proof.Machine

/-! ## The Position Tracker's settings -/

theorem takeWriteTracking_preserves (t : Tracking) (s : State) : s.Preserves (takeWriteTracking t s).1 := by
  unfold takeWriteTracking
  refine s.tested_preserves (fun passed => s.withWork_preserves (fun c => { c with tracking := t }) (fun h => ?_))
  have range := firstFailing_mem passed (b := !trackingOk t) (r := .outOfRange) (by simp)
  rw [Settings.inRange_iff] at *
  exact { h with tracking := by simpa using range }

theorem State.chill_preserves (s : State) (l : List Conveyance) : s.Preserves (s.chill l) := by
  unfold State.chill
  induction l generalizing s with
  | nil => exact .refl s
  | cons c rest ih => exact (s.makeCold_preserves c).trans (ih _)

/-- Position records changed one after another. -/
theorem State.foldPositions_preserves (s : State) (l : List Conveyance) (f : State → Position → Position) :
    s.Preserves (l.foldl (fun s c => s.withPosition c (f s)) s) := by
  induction l generalizing s with
  | nil => exact .refl s
  | cons c rest ih => exact (s.withPosition_preserves c _).trans (ih _)

theorem State.setDrumDepth_preserves (s : State) (d : Drum) (depth : Int) : s.Preserves (s.setDrumDepth d depth) := by
  have h : s.Preserves { s with drumDepth := s.drumDepth.set d (some depth), metresFrom := s.metresFrom.set d none } :=
    .of_judged rfl
  exact h.trans (State.foldPositions_preserves _ (hungFrom d) (fun _ p => { p with motionRef := some depth }))

theorem State.recomputeDrum_preserves (s : State) (d : Drum) : s.Preserves (s.recomputeDrum d) := by
  unfold State.recomputeDrum
  split
  · exact .refl s
  · exact s.setDrumDepth_preserves d _

theorem State.rescale_preserves (s : State) (d : Drum) (scale : Nat) (h : between 1000 100000 scale = true) :
    s.Preserves (s.rescale d scale) := by
  refine ((((s.withWork_preserves (fun c => { c with scales := c.scales.set d scale }) (fun k => ?_)).trans
    (State.recomputeDrum_preserves _ d)).trans (State.chill_preserves _ _)).trans
    (State.foldPositions_preserves _ _ (fun s p => p.enterCold s.work.tracking.coldBand))).trans
    (State.rebuildWinder_preserves _ _)
  rw [Settings.inRange_iff] at *
  exact { k with scales := PerDrum.forall_set (q := fun x => between 1000 100000 x = true) k.scales h }

theorem takeWriteDrumScale_preserves (drum scale : Nat) (s : State) : s.Preserves (takeWriteDrumScale drum scale s).1 := by
  unfold takeWriteDrumScale
  split
  · exact .refl s
  · refine s.tested_preserves (fun passed => s.rescale_preserves _ _ ?_)
    have range := firstFailing_mem passed (b := !between 1000 100000 scale) (r := .outOfRange) (by simp [State.scaleTests])
    simpa using range

theorem State.refer_preserves (s : State) (d : Drum) (depth : Int) (r : Report) (h : depthInRange depth = true) :
    s.Preserves (s.refer d depth r) := by
  refine ((((s.withWork_preserves (fun c => { c with references := c.references.set d ⟨depth, (r.reading d).count⟩ })
    (fun k => ?_)).trans (State.foldPositions_preserves _ (hungFrom d) (fun _ p => { p with correction := 0 }))).trans
    (State.setDrumDepth_preserves _ d depth)).trans (State.chill_preserves _ _)).trans (State.rebuildWinder_preserves _ _)
  rw [Settings.inRange_iff] at *
  exact { k with references := PerDrum.forall_set (q := fun x : Reference => depthInRange x.depth = true) k.references h }

theorem takeSetReference_preserves (drum : Nat) (depth : Int) (s : State) :
    s.Preserves (takeSetReference drum depth s).1 := by
  unfold takeSetReference
  split
  · exact .refl s
  · refine s.tested_preserves (fun passed => ?_)
    have range := firstFailing_mem passed (b := !depthInRange depth) (r := .outOfRange) (by simp [State.referenceTests])
    show s.Preserves (s.referLatest _ depth)
    unfold State.referLatest
    split
    · exact s.refer_preserves _ _ _ (by simpa using range)
    · exact .refl s

/-- What the marker table is to be, taken apart (R24). -/
theorem markersInRange_iff (l : List Marker) :
    markersInRange l = true ↔ (l.map (·.id)).Pairwise (· < ·) ∧ l.length ≤ 48 ∧
      ∀ m ∈ l, between 1 255 m.id = true ∧ depthInRange m.depth = true ∧ between 5 50 m.accuracy = true := by
  simp [markersInRange, and_assoc]

theorem mem_putMarker {m : Marker} {l : List Marker} {x : Marker} (h : x ∈ putMarker m l) : x = m ∨ x ∈ l := by
  induction l with
  | nil => exact .inl (List.mem_singleton.mp h)
  | cons e rest ih =>
    unfold putMarker at h
    split at h
    · rcases List.mem_cons.mp h with rfl | k
      · exact .inr List.mem_cons_self
      · exact (ih k).imp_right (List.mem_cons_of_mem _)
    · split at h
      · exact (List.mem_cons.mp h).imp_right (List.mem_cons_of_mem _)
      · exact List.mem_cons.mp h

/-- The ids of a marker table rise after an entry is put at its id. -/
theorem putMarker_rising (m : Marker) {l : List Marker} (h : (l.map (·.id)).Pairwise (· < ·)) :
    ((putMarker m l).map (·.id)).Pairwise (· < ·) := by
  induction l with
  | nil => simp [putMarker]
  | cons e rest ih =>
    simp only [List.map_cons, List.pairwise_cons] at h
    obtain ⟨first, later⟩ := h
    unfold putMarker
    split
    · next lt =>
      simp only [List.map_cons, List.pairwise_cons]
      refine ⟨fun a ha => ?_, ih later⟩
      obtain ⟨x, hx, rfl⟩ := List.mem_map.mp ha
      rcases mem_putMarker hx with rfl | hx
      · exact lt
      · exact first _ (List.mem_map_of_mem hx)
    · split
      · next eq => rw [eq] at first; simp only [List.map_cons, List.pairwise_cons]; exact ⟨first, later⟩
      · next nlt ne =>
        have lt : m.id < e.id := by omega
        simp only [List.map_cons, List.pairwise_cons]
        refine ⟨fun a ha => ?_, first, later⟩
        rcases List.mem_cons.mp ha with rfl | ha
        · exact lt
        · exact lt.trans (first a ha)

/-- A marker table grows by one entry at most, and by none where the id has one. -/
theorem putMarker_length (m : Marker) (l : List Marker) :
    (putMarker m l).length ≤ l.length + 1 ∧
    ((∃ x ∈ l, x.id = m.id) → (l.map (·.id)).Pairwise (· < ·) → (putMarker m l).length = l.length) := by
  induction l with
  | nil => simp [putMarker]
  | cons e rest ih =>
    unfold putMarker
    split
    · next lt =>
      refine ⟨by simp [ih.1], fun ⟨x, hx, e'⟩ rising => ?_⟩
      rcases List.mem_cons.mp hx with rfl | hx
      · omega
      · simp [ih.2 ⟨x, hx, e'⟩ (List.pairwise_cons.mp rising).2]
    · split
      · exact ⟨by simp, fun _ _ => by simp⟩
      · next nlt ne =>
        refine ⟨by simp, fun ⟨x, hx, e'⟩ rising => ?_⟩
        rcases List.mem_cons.mp hx with rfl | hx
        · exact absurd e' ne
        · have lt : e.id < x.id := (List.pairwise_cons.mp rising).1 x.id (List.mem_map_of_mem hx)
          omega

theorem takeWriteMarker_preserves (id compartment : Nat) (depth : Int) (accuracy : Nat) (s : State) :
    s.Preserves (takeWriteMarker id compartment depth accuracy s).1 := by
  unfold takeWriteMarker
  split
  · exact .refl s
  · next c _ =>
    refine s.tested_preserves (fun passed => s.withWork_preserves
      (fun k => { k with markers := putMarker ⟨id, c, depth, accuracy⟩ k.markers }) (fun h => ?_))
    have range := firstFailing_mem passed
      (b := !between 1 255 id || !depthInRange depth || !between 5 50 accuracy) (r := .outOfRange)
      (by simp [State.markerTests])
    have room := firstFailing_mem passed (b := (s.marker id).isNone && decide (48 ≤ s.work.markers.length))
      (r := .tableFull) (by simp [State.markerTests])
    simp only [Bool.or_eq_false_iff, Bool.not_eq_false'] at range
    rw [Settings.inRange_iff] at *
    refine { h with markers := ?_ }
    have old := (markersInRange_iff _).mp h.markers
    rw [markersInRange_iff]
    refine ⟨putMarker_rising _ old.1, ?_, fun m hm => ?_⟩
    · obtain ⟨more, same⟩ := putMarker_length ⟨id, c, depth, accuracy⟩ s.work.markers
      have bound := old.2.1
      simp only [Bool.and_eq_false_iff, decide_eq_false_iff_not] at room
      rcases room with k | k
      · obtain ⟨x, hx⟩ := Option.isSome_iff_exists.mp (Option.isNone_eq_false_iff.mp k)
        exact (same ⟨x, List.mem_of_find?_eq_some hx, by simpa using List.find?_some hx⟩ old.1).le.trans bound
      · dsimp only at *
        omega
    · rcases mem_putMarker hm with rfl | k
      · exact ⟨range.1.1, range.1.2, range.2⟩
      · exact old.2.2 m k

theorem State.removeMarker_preserves (s : State) (id : Nat) :
    s.Preserves (s.withWork (fun k => { k with markers := k.markers.filter (fun m => m.id != id) })) := by
  refine s.withWork_preserves _ (fun h => ?_)
  rw [Settings.inRange_iff] at *
  refine { h with markers := ?_ }
  have old := (markersInRange_iff _).mp h.markers
  rw [markersInRange_iff]
  exact ⟨List.Pairwise.sublist (List.Sublist.map _ List.filter_sublist) old.1, (List.length_filter_le _ _).trans old.2.1,
    fun m hm => old.2.2 m (List.mem_of_mem_filter hm)⟩

/-! ## The other settings -/

theorem takeWriteOfferLimit_preserves (limit : Nat) (w : Winder) (s : State) : s.Preserves (takeWriteOfferLimit limit w s).1 := by
  refine s.tested_preserves (fun passed =>
    s.withWork_preserves (fun c => { c with offerLimit := c.offerLimit.set w limit }) (fun h => ?_))
  have range := firstFailing_mem passed (b := !between 1 6 limit) (r := .outOfRange) (by simp)
  rw [Settings.inRange_iff] at *
  exact { h with offerLimit := PerWinder.forall_set (q := fun x => between 1 6 x = true) h.offerLimit (by simpa using range) }

theorem takeWriteReportInterval_preserves (interval : Nat) (w : Winder) (s : State) :
    s.Preserves (takeWriteReportInterval interval w s).1 := by
  refine s.tested_preserves (fun passed =>
    s.withWork_preserves (fun c => { c with reportInterval := c.reportInterval.set w interval }) (fun h => ?_))
  have range := firstFailing_mem passed (b := !between 20 500 interval) (r := .outOfRange) (by simp)
  rw [Settings.inRange_iff] at *
  exact { h with reportInterval :=
    PerWinder.forall_set (q := fun x => between 20 500 x = true) h.reportInterval (by simpa using range) }

theorem takeWriteSettle_preserves (base cap : Nat) (w : Winder) (s : State) : s.Preserves (takeWriteSettle base cap w s).1 := by
  refine s.tested_preserves (fun passed =>
    s.withWork_preserves (fun c => { c with settle := c.settle.set w ⟨base, cap⟩ }) (fun h => ?_))
  have range := firstFailing_mem passed (b := !between 500 5000 base || !between 0 3 cap) (r := .outOfRange) (by simp)
  rw [Settings.inRange_iff] at *
  have new : between 500 5000 base = true ∧ between 0 3 cap = true := by simpa using range
  have all := PerWinder.forall_set (p := s.work.settle) (w := w) (a := ⟨base, cap⟩)
    (q := fun x : SettleSettings => between 500 5000 x.base = true ∧ between 0 3 x.cap = true) h.settle new
  exact { h with settle := all }

theorem takeWritePayload_preserves (tolerance action : Nat) (s : State) : s.Preserves (takeWritePayload tolerance action s).1 := by
  unfold takeWritePayload
  split
  · exact .refl s
  · split
    · exact .refl s
    · next a _ =>
      refine s.tested_preserves (fun passed => s.withWork_preserves
        (fun c => { c with payloadTolerance := tolerance, payloadAction := a }) (fun h => ?_))
      have range := firstFailing_mem passed (b := !between 200 3000 tolerance) (r := .outOfRange) (by simp)
      rw [Settings.inRange_iff] at *
      exact { h with payload := by simpa using range }

theorem readEnvelope_inRange {hysteresis mode under margin : Nat} {e : EnvelopeSettings}
    (h : readEnvelope hysteresis mode under margin = some e) : e.inRange = true := by
  obtain ⟨m, -, k⟩ := Option.bind_eq_some_iff.mp h
  split at k
  · next ok => cases k; exact ok
  · cases k

theorem takeWriteEnvelope_preserves (hysteresis mode under margin : Nat) (w : Winder) (s : State) :
    s.Preserves (takeWriteEnvelope hysteresis mode under margin w s).1 := by
  unfold takeWriteEnvelope
  split
  · exact .refl s
  · next e he =>
    refine s.tested_preserves (fun _ => ?_)
    have written : s.Preserves (s.withWork (fun c => { c with envelope := c.envelope.set w e })) := by
      refine s.withWork_preserves _ (fun h => ?_)
      rw [Settings.inRange_iff] at *
      exact { h with envelope := PerWinder.forall_set (q := fun x : EnvelopeSettings => x.inRange = true) h.envelope (readEnvelope_inRange he) }
    show s.Preserves (s.writeEnvelope w e)
    unfold State.writeEnvelope
    dsimp only
    split
    · exact written.trans (State.clearIndications_preserves _ _)
    all_goals exact written

theorem takeStopMonitor_preserves (w : Winder) (s : State) : s.Preserves (takeStopMonitor w s).1 :=
  s.tested_preserves (fun _ => .ite ((s.withMonitor_preserves w _).trans (State.clearOver_preserves _ w)) (.refl s))

/-! ## The Zone Table -/

/-- A zone placed at a number of its partition (R36). -/
theorem State.placeZone_preserves (s : State) (n : Nat) (z : Zone) (hn : n < 64) (hw : z.kind = .work → 16 ≤ n) :
    s.Preserves (s.placeZone n z) := by
  unfold State.placeZone
  exact (s.withZones_preserves _ (fun h => h.put hn hw)).trans (State.rebuildForEdit_preserves _ _)

theorem State.freeAt_preserves (s : State) (n : Nat) : s.Preserves (s.freeAt n) := by
  unfold State.freeAt
  split
  · next z _ =>
    have off : ∀ t : State, t.Preserves (t.unsuppress n) := fun _ => .of_judged rfl
    exact ((s.withZones_preserves (tableDrop s.zones n) (fun h => h.filter _)).trans (off _)).trans
      (State.rebuildForEdit_preserves _ _)
  · exact .refl s

/-- The kind of an entry read from a request is the one that its code names (R39). -/
theorem readZone_kind {kind mask : Nat} {upper lower : Int} {cap : Option Nat} {label : List Nat} {z : Zone}
    (h : readZone kind mask upper lower cap label = some z) : zoneKindCode kind = some z.kind := by
  unfold readZone at h
  split at h
  · next k m hk _ =>
    obtain ⟨c, -, e⟩ := Option.bind_eq_some_iff.mp h
    split at e
    · cases e; exact hk
    · cases e
  · cases h

theorem takeWriteZone_preserves (number : Option Nat) (kind mask : Nat) (upper lower : Int) (cap : Option Nat)
    (label : List Nat) (s : State) : s.Preserves (takeWriteZone number kind mask upper lower cap label s).1 := by
  unfold takeWriteZone
  refine s.tested_preserves (fun passed => ?_)
  have wrong := firstFailing_mem passed (b := kind == 2) (r := .wrongKind) (by simp [State.writeZoneTests])
  split
  · next n z _ hz =>
    split
    · next lt =>
      refine s.placeZone_preserves n z lt (fun k => ?_)
      have code := readZone_kind hz
      rw [k] at code
      rcases kind with _ | _ | _ | _ | _ | _ <;> simp [zoneKindCode] at code wrong
    · exact .refl s
  · exact .refl s

theorem readWorkZone_kind {mask : Nat} {upper lower : Int} {label : List Nat} {z : Zone}
    (h : readWorkZone mask upper lower label = some z) : z.kind = .work := by
  obtain ⟨m, -, e⟩ := Option.bind_eq_some_iff.mp h
  split at e
  · cases e; rfl
  · cases e

theorem takeAddWorkZone_preserves (mask : Nat) (upper lower : Int) (label : List Nat) (s : State) :
    s.Preserves (takeAddWorkZone mask upper lower label s).1 := by
  unfold takeAddWorkZone
  split
  · exact .refl s
  · exact .refl s
  · next z n _ hn =>
    split
    · exact .refl s
    · obtain ⟨lo, hi, -, -⟩ := lowestFree_some hn
      exact (s.placeZone_preserves n z (by omega) (fun _ => lo)).trans (State.startRecordWrite_preserves _)

theorem takeRemoveWorkZone_preserves (n : Nat) (s : State) : s.Preserves (takeRemoveWorkZone n s).1 :=
  s.tested_preserves (fun _ => ((((s.freeAt_preserves n).trans (State.releaseCalls_preserves _ .service .heldWork)).trans
    (State.releaseCalls_preserves _ .rock .heldWork)).trans (State.startRecordWrite_preserves _)).trans
    (State.settleBoth_preserves _))

/-! ## The Trip Pipeline -/

theorem takeReady_preserves (trip leg : Nat) (s : State) : s.Preserves (takeReady trip leg s).1 := by
  unfold takeReady
  split
  · unfold readyStagedTrip
    split
    · exact .refl s
    · split
      · exact .refl s
      · have ready : s.Preserves (s.withPipe .service (fun p => { p with staged := p.staged.map (fun t => { t with ready := true }) })) := by
          refine .of_shared (s.withPipe_keeps _ _) (s.withPipe_guards _ _ (fun h => by simpa using h))
            (s.withPipe_trips _ _ (fun h => ?_) rfl (fun h => by simpa using h))
          refine ⟨by simpa using h.offer, fun t ht => ?_, fun t ht k => absurd (h.active t ht k).1 nofun, fun e =>
            ⟨fun t ht => ?_, (h.cycles e).2⟩⟩
          · obtain ⟨x, hx, rfl⟩ := Option.map_eq_some_iff.mp ht
            exact h.staged x hx
          · obtain ⟨x, hx, rfl⟩ := Option.map_eq_some_iff.mp ht
            exact (h.cycles e).1 x hx
        exact ready.trans (State.settle_preserves _ _)
  · unfold readyActive
    split
    · split
      · exact .ite (.refl s) ((s.offerLeg_preserves _).trans (State.settle_preserves _ _))
      · exact .refl s
    all_goals exact .refl s
  · exact .refl s

/-- A trip staged where the admission count leaves room for it (R59, R93, R94). -/
theorem State.stage_preserves (s : State) (w : Winder) (t : Trip) (may : s.SlotsSound → s.MayStage w)
    (room : s.admissionCount w < admissionLimit w) (kind : t.kind ≠ .rePair) (source : t.source = none)
    (cycles : w = .service → t.isRockCycle = false) : s.Preserves (s.stage w t) where
  now := rfl
  pending := rfl
  outputs := id
  fields := id
  faults := id
  ended := id
  queues h := by
    rw [State.queuesBounded_iff] at *
    intro v
    unfold State.stage
    by_cases e : v = w
    · subst e
      rw [State.withPipe_admissionCount_self]
      unfold State.admissionCount at room
      simp only [Option.isSome_some, if_true]
      omega
    · rw [State.withPipe_admissionCount_ne _ _ e]; exact h v
  trips h := s.stage_trips w t (may ((State.tripsAgree_iff s).mp h).1) kind (by rw [source]; nofun) cycles h
  zones := id
  settings := id

/-- The tests that MANUAL TRIP has for both winders leave the staged slot free, and room in the admission count (R93). -/
theorem State.manualTests_passed {s : State} {w : Winder} (h : ∀ e ∈ s.manualTests w, e.1 = false) :
    (s.pipe w).staged = none ∧ (s.winder w).state.stages = true ∧ (s.winder w).holdPending = false ∧
    s.admissionCount w < admissionLimit w := by
  simp [State.manualTests] at h
  obtain ⟨-, stages, hold, staged, room⟩ := h
  exact ⟨staged, stages, hold, room⟩

theorem State.stageManual_preserves (s : State) (w : Winder) (work : CallWork) (tests : ∀ e ∈ s.manualTests w, e.1 = false)
    (pairing : w = .rock → s.pairing ≠ .unpaired) (cls : w = .service → work.cls ≠ .rock) :
    s.Preserves (s.stageManual w work).1 := by
  obtain ⟨empty, stages, hold, room⟩ := State.manualTests_passed tests
  refine ((s.stage_preserves w _ (fun sound => ⟨empty, stages, hold, fun t ht k => ?_⟩) room (by simp [Trip.built]) rfl (fun e => ?_)).trans
    (State.readyStaged_preserves _ w)).trans (State.settle_preserves _ w)
  · obtain ⟨rock, -, unpaired⟩ := (sound.pipes w).active t ht k
    exact pairing rock unpaired
  · simp [Trip.isRockCycle, Trip.built, cls e]

theorem cageClassCode_ne_rock {n : Nat} {c : Class} (h : cageClassCode n = some c) : c ≠ .rock := by
  unfold cageClassCode at h
  split at h <;> cases h <;> simp

theorem takeManualTrip_preserves (body : ManualBody) (s : State) : s.Preserves (takeManualTrip body s).1 := by
  unfold takeManualTrip
  split
  · next station decks cls riders payload =>
    refine withRead_preserves riders s (fun r => withRead_preserves payload s (fun p => ?_))
    unfold takeManualCage
    split
    · next st c ds _ hc _ =>
      dsimp only
      split
      · refine s.tested_preserves (fun passed => s.stageManual_preserves _ _ (fun e he => ?_) nofun
          (fun _ => cageClassCode_ne_rock hc))
        exact firstFailing_eq_none.mp passed e (by simp [State.manualCageTests, he])
      · exact .refl s
    · exact .refl s
  · next rising =>
    unfold takeManualRock
    split
    · exact .refl s
    · refine s.tested_preserves (fun passed => s.stageManual_preserves _ _ (fun e he => ?_) (fun _ => ?_) nofun)
      · exact firstFailing_eq_none.mp passed e (by simp [he])
      · have := firstFailing_mem passed (b := s.pairing == .unpaired) (r := .unpaired) (by simp)
        simpa using this
  · exact .refl s

/-- The tests of INSPECT TRIP leave the staged slot free and no re-pair in hand (R94). -/
theorem State.inspectTests_passed {s : State} {c : Conveyance} (h : ∀ e ∈ s.inspectTests c, e.1 = false) (sound : s.SlotsSound) :
    s.MayStage (ownerOf c) ∧ s.admissionCount (ownerOf c) < admissionLimit (ownerOf c) := by
  simp [State.inspectTests] at h
  obtain ⟨-, ⟨stages, rePair⟩, hold, staged, room, -⟩ := h
  refine ⟨⟨staged, stages, hold, fun t ht k => ?_⟩, room⟩
  obtain ⟨rock, -, -⟩ := (sound.pipes _).active t ht k
  have other := rePair rock
  rw [ht] at other
  simp [k] at other

theorem takeInspectTrip_preserves (conveyance : Nat) (target : Int) (s : State) :
    s.Preserves (takeInspectTrip conveyance target s).1 := by
  unfold takeInspectTrip
  split
  · exact .refl s
  · next c _ =>
    refine s.tested_preserves (fun passed => ?_)
    have tests : ∀ e ∈ s.inspectTests c, e.1 = false :=
      fun e he => firstFailing_eq_none.mp passed e (by simp [he])
    have room : s.admissionCount (ownerOf c) < admissionLimit (ownerOf c) := by
      have := tests (decide (admissionLimit (ownerOf c) ≤ s.admissionCount (ownerOf c)), .queueFull) (by simp [State.inspectTests])
      simpa using this
    refine (s.stage_preserves (ownerOf c) _ (fun sound => (State.inspectTests_passed tests sound).1) room (by simp [Trip.built]) rfl
      (fun _ => rfl)).trans (State.settle_preserves _ _)

/-! ## GRANT and its replies -/

/-- An offer that awaits a reply has its trip in a slot (R83). -/
theorem State.SlotsSound.onOffer_of_offer {s : State} (h : s.SlotsSound) {w : Winder} (offer : (s.pipe w).offer ≠ none) :
    (s.pipe w).onOffer.isSome = true := by
  unfold Pipe.onOffer
  rcases (h.pipes w).offer with k | k | k
  · exact absurd k offer
  · cases ha : (s.pipe w).active with
    | none => rw [ha] at k; cases k
    | some t => rfl
  · split
    · rfl
    · exact k

theorem State.acceptOffer_preserves (s : State) (w : Winder) (offer : (s.pipe w).offer ≠ none) : s.Preserves (s.acceptOffer w) :=
  .of_shared (s.acceptOffer_keeps w) (s.acceptOffer_guards w)
    (fun h => s.acceptOffer_trips w (((State.tripsAgree_iff s).mp h).1.onOffer_of_offer offer) h)

theorem State.offerAwaits_offer {s : State} {w : Winder} {tag : Nat} (h : s.offerAwaits w tag = true) :
    (s.pipe w).offer ≠ none := by
  unfold State.offerAwaits at h
  intro k
  rw [k] at h
  cases h

theorem State.lateReply_preserves (s : State) (w : Winder) (tag code : Nat) : s.Preserves (s.lateReply w tag code) :=
  .ite (s.sendOrder_preserves w _) (.refl s)

theorem State.takeGrantReply_preserves (s : State) (w : Winder) (tag code : Nat) :
    s.Preserves (s.takeGrantReply w tag code) := by
  unfold State.takeGrantReply
  dsimp only
  split
  · refine (s.dropAwaited_preserves w .grant tag).trans ?_
    split
    · next awaits =>
      exact .ite (State.acceptOffer_preserves _ w (State.offerAwaits_offer awaits)) (State.refuseOffer_preserves _ w)
    · exact State.lateReply_preserves _ w tag code
  · exact s.lateReply_preserves w tag code

theorem State.grantExpires_preserves (s : State) (w : Winder) (tag : Nat) : s.Preserves (s.grantExpires w tag) :=
  .ite ((s.dropAwaited_preserves w .grant tag).trans (.ite (State.refuseOffer_preserves _ w) (.refl _))) (.refl s)

/-! ## The Winder Controllers -/

theorem State.stopWinder_preserves (s : State) (w : Winder) : s.Preserves (s.stopWinder w) := by
  unfold State.stopWinder
  split
  · next h => exact s.enterStopping_preserves w _ h
  · exact s.endAndPark_preserves w _
  · exact s.endAndPark_preserves w _
  · next h =>
    refine (s.withWinder_preserves w (fun r => { r with stopPending := true }) id (fun k => ?_) rfl id).trans ?_
    · rw [WinderRecord.fieldsAgree_iff] at *
      exact ⟨k.1, .inl h, k.2.2⟩
    · unfold State.stopFreeMove
      split
      · exact .ite (State.endFreeOffer_preserves _ _) (.refl _)
      · exact .refl _
  · exact s.withdrawStaged_preserves w _
  all_goals exact .refl s

/-- A winder at rest between trips enters another such state: no trip in either slot (R76). -/
theorem State.enterEmpty_trips (s : State) (w : Winder) (st : WinderState) (active : (s.winder w).state.holdsActive = false)
    (staged : (s.winder w).state.stages = false ∨ st.stages = true) (empty : st.holdsActive = false) :
    s.Trips (s.changeState w st) := by
  refine .of_parts (s.changeState_slots w st) (fun _ v h => ?_)
  rw [State.changeState_view]
  split
  · next e =>
    subst e
    refine ⟨h.active.trans (active.trans empty.symm), fun k => ?_⟩
    obtain ⟨a, b⟩ := h.staged k
    refine ⟨staged.resolve_left (fun n => ?_), b⟩
    exact absurd a (by rw [show (s.view v).state = (s.winder v).state from rfl, n]; nofun)
  · exact h

theorem State.enterEmpty_preserves (s : State) (w : Winder) (st : WinderState)
    (active : (s.winder w).state.holdsActive = false) (staged : (s.winder w).state.stages = false ∨ st.stages = true)
    (empty : st.holdsActive = false) : s.Preserves (s.changeState w st) :=
  .of_shared (s.changeState_keeps w st) (s.changeState_guards w st) (s.enterEmpty_trips w st active staged empty)

theorem State.released_preserves (s : State) (w : Winder) (h : (s.winder w).state = .parked) : s.Preserves (s.released w) := by
  refine (s.enterEmpty_preserves w .idle (by rw [h]; rfl) (.inr rfl) rfl).trans
    (State.withWinder_preserves _ w (fun r => { r with
      recovery := s.restricted.get w, mode := if s.restricted.get w || s.commissioning then .inspection else r.mode })
      id (fun k => ?_) rfl id)
  rw [WinderRecord.fieldsAgree_iff] at *
  refine ⟨k.1, k.2.1, k.2.2.1, ?_⟩
  dsimp only
  cases s.restricted.get w
  · exact .inl rfl
  · exact .inr rfl

theorem takeRelease_preserves (w : Winder) (s : State) : s.Preserves (takeRelease w s).1 := by
  unfold takeRelease
  split
  · next h =>
    exact s.tested_preserves (fun _ => (s.released_preserves w (by simpa [State.isIn] using h)).trans
      (State.settle_preserves _ w))
  · split
    · exact (s.withWinder_preserves w _ id id rfl (fun k => by cases k)).trans (State.settle_preserves _ w)
    · exact .refl s

/-- A winder with no staged trip held: parked with no trip, or with a hold pending (R100). -/
theorem State.holdPending_trips (s : State) (w : Winder) :
    s.Trips ((s.withWinder w (fun r => { r with holdPending := true })).withdrawStaged w .waiting) := by
  refine .of_parts (fun h => State.withdrawStaged_sound _ w _ (h.of_same rfl rfl rfl)) (fun _ v h => ?_)
  rw [State.withdrawStaged_view, State.withWinder_view]
  split
  · next e => subst e; exact ⟨h.active, nofun⟩
  · exact h

theorem State.parkHeld_guards (s : State) (w : Winder) : s.Guards (s.parkHeld w) :=
  (s.changeState_guards w _).trans (State.withWinder_guards _ w _ id id)

theorem State.parkHeld_keeps (s : State) (w : Winder) : s.Keeps (s.parkHeld w) :=
  (s.changeState_keeps w _).trans (State.withWinder_keeps _ w _)

theorem State.parkHeld_view (s : State) (w v : Winder) :
    (s.parkHeld w).view v = if v = w then { s.view v with state := .parked } else s.view v := by
  unfold State.parkHeld
  rw [State.withWinder_view, State.changeState_view]
  split
  · next e =>
    subst e
    have hold : ((s.changeState v .parked).winder v).holdPending = (s.view v).hold := by
      have := congrArg View.hold (s.changeState_view v v .parked)
      simpa [State.view] using this
    ext <;> simp [hold]
  · rfl

theorem takeHold_preserves (w : Winder) (s : State) : s.Preserves (takeHold w s).1 := by
  unfold takeHold
  have rest : (s.winder w).state.holdsActive = false → s.Preserves ((s.withdrawStaged w .waiting).parkHeld w) := by
    intro empty
    refine .of_shared ((s.withdrawStaged_keeps w _).trans (State.parkHeld_keeps _ w))
      ((s.withdrawStaged_guards w _).trans (State.parkHeld_guards _ w)) (.of_parts (fun h => ?_) (fun _ v h => ?_))
    · exact (State.changeState_slots _ w .parked (s.withdrawStaged_sound w _ h)).of_same rfl rfl rfl
    · rw [State.parkHeld_view, State.withdrawStaged_view]
      split
      · next e => subst e; exact ⟨h.active.trans empty, nofun⟩
      · exact h
  have pending : s.Preserves ((s.withWinder w (fun r => { r with holdPending := true })).withdrawStaged w .waiting) :=
    .of_shared ((s.withWinder_keeps w _).trans (State.withdrawStaged_keeps _ w _))
      ((s.withWinder_guards w _ id id).trans (State.withdrawStaged_guards _ w _)) (s.holdPending_trips w)
  split
  case h_1 h => exact rest (by rw [h]; rfl)
  case h_2 h => exact rest (by rw [h]; rfl)
  case h_7 =>
    refine .of_shared (((s.endActive_keeps w _).trans (State.withdrawStaged_keeps _ w _)).trans (State.parkHeld_keeps _ w))
      (((s.endActive_guards w _).trans (State.withdrawStaged_guards _ w _)).trans (State.parkHeld_guards _ w))
      (.of_parts (fun h => ?_) (fun _ v h => ?_))
    · exact (State.changeState_slots _ w .parked (State.withdrawStaged_sound _ w _ (s.endActive_slots w _ h))).of_same rfl rfl rfl
    · rw [State.parkHeld_view, State.withdrawStaged_view, State.endActive_view]
      split
      · next e => subst e; exact ⟨rfl, nofun⟩
      · exact h
  case h_8 => exact .refl s
  case h_9 => exact .refl s
  all_goals
    split
    · exact .refl s
    · exact pending

/-- The queue and ended-call list of a winder emptied (R73). -/
theorem State.resetCalls_preserves (s : State) (w : Winder) : s.Preserves (s.resetCalls w) where
  now := rfl
  pending := rfl
  outputs := id
  fields := id
  faults := id
  ended h := by
    rw [State.endedBounded_iff] at *
    exact PerWinder.forall_set (q := fun l : List Ended => l.length ≤ 16) h (Nat.zero_le _)
  queues h := (s.withQueue_guards w (fun _ => []) (Nat.zero_le _)).queuesBounded h
  trips h := s.withQueue_trips w (fun _ => []) (fun _ k => by cases k) h
  zones := id
  settings := id

theorem State.resetWinder_preserves (s : State) (w : Winder) : s.Preserves (s.resetWinder w) := by
  have pipe : ∀ t : State, t.Preserves (t.withPipe w (fun p => { p with latest := none, prior := none })) := fun t =>
    .of_shared (t.withPipe_keeps _ _) (t.withPipe_guards _ _ id)
      (t.withPipe_trips _ _ (fun h => h.of_slots ⟨rfl, rfl, rfl⟩) rfl id)
  refine ((((s.resetCalls_preserves w).trans (pipe _)).trans (State.withMonitor_preserves _ w _)).trans
    (State.withWinder_preserves _ w (fun r => { r with held := false, recovery := false, slowCap := none }) id (fun k => ?_)
      rfl id)).trans (State.emptySuppression_preserves _ w)
  exact WinderRecord.fieldsAgree_slowCap_none (WinderRecord.fieldsAgree_recovery_false (r := _) k)

theorem takeSetMode_preserves (mode : Nat) (w : Winder) (s : State) : s.Preserves (takeSetMode mode w s).1 := by
  unfold takeSetMode
  split
  · exact .refl s
  · next m _ =>
    refine s.tested_preserves (fun passed => ((s.withWinder_preserves w (fun r => { r with mode := m }) id (fun k => ?_)
      rfl id).trans (State.handAndCompare_preserves _ w)).trans (State.settle_preserves _ w))
    have recovery := firstFailing_mem passed (b := (s.winder w).recovery && m != .inspection) (r := .recovery)
      (by simp [State.modeTests])
    rw [WinderRecord.fieldsAgree_iff] at *
    refine ⟨k.1, k.2.1, k.2.2.1, ?_⟩
    simpa [Decidable.imp_iff_not_or] using recovery

theorem takeAcknowledge_preserves (w : Winder) (s : State) : s.Preserves (takeAcknowledge w s).1 := by
  refine s.tested_preserves (fun passed => ?_)
  have tripped := firstFailing_mem passed (b := !s.isIn w .tripped) (r := .winderState) (by simp)
  have st : (s.winder w).state = .tripped := by simpa [State.isIn] using tripped
  exact s.enterEmpty_preserves w .parked (by rw [st]; rfl) (.inl (by rw [st]; rfl)) rfl

theorem takeReleaseLockout_preserves (w : Winder) (s : State) : s.Preserves (takeReleaseLockout w s).1 := by
  refine s.tested_preserves (fun passed => ?_)
  have locked := firstFailing_mem passed (b := !s.isIn w .lockout) (r := .winderState) (by simp)
  have st : (s.winder w).state = .lockout := by simpa [State.isIn] using locked
  exact s.enterEmpty_preserves w .parked (by rw [st]; rfl) (.inl (by rw [st]; rfl)) rfl

end Sys2Proof.Machine

namespace Sys2Proof.Machine

/-! ## The Rock Coordinator -/

theorem takeLoaded_preserves (skip mass : Nat) (s : State) : s.Preserves (takeLoaded skip mass s).1 := by
  unfold takeLoaded
  split
  · exact .refl s
  · exact s.tested_preserves (fun _ => (s.setContents_preserves _ _).trans (State.settle_preserves _ _))

theorem takeTipped_preserves (skip : Nat) (s : State) : s.Preserves (takeTipped skip s).1 := by
  unfold takeTipped
  split
  · exact .refl s
  · exact s.tested_preserves (fun _ => (s.setContents_preserves _ _).trans (State.settle_preserves _ _))

theorem takeSetSkipContents_preserves (skip contents : Nat) (mass : Option Nat) (s : State) :
    s.Preserves (takeSetSkipContents skip contents mass s).1 := by
  unfold takeSetSkipContents
  split
  · exact s.tested_preserves (fun _ => (s.setContents_preserves _ _).trans (State.settle_preserves _ _))
  · exact .refl s

/-- Unpairing leaves the slots in agreement where they would be with the skips Unpaired (R135, R138). -/
theorem State.unpair_agrees (s : State) (h : ({ s with pairing := .unpaired, pairBeyond := false } : State).tripsAgree = true) :
    s.unpair.tripsAgree = true := by
  unfold State.unpair
  split
  · next e =>
    rw [State.tripsAgree_iff] at *
    exact ⟨h.1.of_same rfl rfl e, h.2⟩
  · exact (((State.mapQueue_trips _ .rock (fun c => { c with state := .heldPairing }) (fun _ => rfl)).trans
      (State.unstageCycle_trips _)).trans (State.formReadiness_trips _)) h

/-- A re-pair begun: its trip active, the winder in CLUTCHING and the skips Unpaired (R137, R138). -/
theorem State.activateRePair_trips (s : State) (t : Trip)
    (empty : (s.pipe .rock).staged = none) : s.Trips (((s.activate .rock t).changeState .rock .clutching).unpair) := by
  intro agree
  obtain ⟨sound, stands⟩ := (State.tripsAgree_iff s).mp agree
  apply State.unpair_agrees
  rw [State.tripsAgree_iff]
  have view : ∀ v, ((s.activate .rock t).changeState .rock .clutching).view v =
      if v = .rock then { s.view v with state := .clutching, active := true } else s.view v := by
    intro v
    unfold State.activate
    rw [State.changeState_view, State.withPipe_view]
    split
    · next e => subst e; rfl
    · rfl
  refine ⟨⟨fun v => ?_, fun v => ?_⟩, fun v => ?_⟩
  · refine Pipe.Sound.of_slots (p := (s.activate .rock t).pipe v) ?_ (State.changeState_pipe_slots ..)
    cases v with
    | service =>
      obtain ⟨offer, staged, active, cycles⟩ := sound.pipes .service
      exact ⟨offer, staged, fun u hu k => absurd (active u hu k).1 nofun, cycles⟩
    | rock =>
      have none : ∀ u, ((s.activate .rock t).pipe .rock).staged ≠ some u := by
        intro u hu
        rw [show ((s.activate .rock t).pipe .rock).staged = (s.pipe .rock).staged from rfl, empty] at hu
        cases hu
      exact ⟨.inr (.inl rfl), fun u hu => absurd hu (none u), fun u _ _ => ⟨rfl, empty, rfl⟩, nofun⟩
  · show ∀ c ∈ ((s.activate .rock t).changeState .rock .clutching).queues.get v, c.isOf v = true
    rw [(State.changeState_queues ..).1]
    exact sound.queues v
  · show (((s.activate .rock t).changeState .rock .clutching).view v).Stands
    rw [view]
    split
    · next e =>
      subst e
      refine ⟨rfl, fun k => ?_⟩
      rw [show (s.view .rock).staged = (s.pipe .rock).staged.isSome from rfl, empty] at k
      cases k
    · exact stands v

theorem State.withRepair_preserves (s : State) (r : Option RePair) : s.Preserves { s with repair := r } := .of_judged rfl
theorem State.orderClutch_preserves (s : State) (o : Order) : s.Preserves (s.orderClutch o) := .of_judged rfl

theorem State.beginRePair_preserves (s : State) (pocket : Pocket) (free : Skip)
    (empty : (s.pipe .rock).staged = none) : s.Preserves (s.beginRePair pocket free) := by
  have begun : ∀ t : Trip, s.Preserves (((s.activate .rock t).changeState .rock .clutching).unpair) := fun t =>
    .of_shared (((s.activate_keeps .rock t).trans (State.changeState_keeps _ _ _)).trans (State.unpair_keeps _))
      (((s.withPipe_guards .rock (fun p => { p with active := some t, lastTrip := t.number }) id).trans
        (State.changeState_guards _ _ _)).trans (State.unpair_guards _))
      (s.activateRePair_trips t empty)
  unfold State.beginRePair
  dsimp only
  refine (begun (Trip.built (s.nextTrip .rock) .rePair .rePair [s.freeLeg free pocket (s.nextTrip .rock)])).trans ?_
  split
  · exact (State.withRepair_preserves _ _).trans (State.offerLeg_preserves _ _)
  all_goals exact (State.withRepair_preserves _ _).trans (State.orderClutch_preserves _ _)

/-- The tests of RE-PAIR leave the rock winder in IDLE with nothing staged (R137). -/
theorem State.rePairTests_passed {s : State} {p : Pocket} {k : Skip} (h : s.rePairTests p k = none) :
    (s.winder .rock).state = .idle ∧ (s.pipe .rock).staged = none := by
  unfold State.rePairTests at h
  split at h
  · cases h
  · next idle =>
    split at h
    · cases h
    · next empty => exact ⟨by simpa [State.isIn] using idle, by simpa using empty⟩

theorem takeRePair_preserves (pocket free : Nat) (s : State) : s.Preserves (takeRePair pocket free s).1 := by
  unfold takeRePair
  split
  · split
    · exact .refl s
    · next passed =>
      obtain ⟨-, empty⟩ := State.rePairTests_passed passed
      exact (s.beginRePair_preserves _ _ empty).trans (State.settle_preserves _ _)
  · exact .refl s

/-- The trip in the active slot ends the same whatever the pairing. -/
theorem State.endActive_pairing (s : State) (g : Pairing) (w : Winder) (o : TripOutcome) :
    ({ s with pairing := g } : State).endActive w o = { s.endActive w o with pairing := g } := by
  unfold State.endActive
  rw [show ({ s with pairing := g } : State).pipe w = s.pipe w from rfl]
  split
  · rfl
  · unfold State.endTripRecord State.endSource State.endRePair
    split <;> split <;> rfl

/-- A staged trip changed in nothing that tells its kind leaves a pipeline sound. -/
theorem Pipe.Sound.mapStaged {p : Pipe} {w : Winder} {g : Pairing} {f : Trip → Trip} (h : p.Sound w g)
    (alike : ∀ t : Trip, t.Alike (f t)) : ({ p with staged := p.staged.map f } : Pipe).Sound w g := by
  refine ⟨by simpa using h.offer, fun t ht => ?_, fun t ht k => ?_, fun e => ⟨fun t ht => ?_, (h.cycles e).2⟩⟩
  · obtain ⟨x, hx, rfl⟩ := Option.map_eq_some_iff.mp ht
    exact ⟨(alike x).kind ▸ (h.staged x hx).1, (alike x).source ▸ (h.staged x hx).2⟩
  · obtain ⟨a, b, c⟩ := h.active t ht k
    exact ⟨a, by simp [b], c⟩
  · obtain ⟨x, hx, rfl⟩ := Option.map_eq_some_iff.mp ht
    rw [(alike x).isRockCycle]; exact (h.cycles e).1 x hx

/-- A re-pair's end at a pocket: the skips are paired as its trip leaves the active slot (R140). -/
theorem State.pairAndPark_trips (s : State) (p : Pocket) (o : TripOutcome) : s.Trips ((s.pairWith p).endAndPark .rock o) := by
  intro agree
  obtain ⟨sound, stands⟩ := (State.tripsAgree_iff s).mp agree
  rw [State.tripsAgree_iff]
  have view : ∀ v, (s.pairWith p).view v = s.view v := by
    intro v
    cases v
    · rfl
    · show View.mk _ _ _ ((s.pipe .rock).staged.map _).isSome = _
      simp [State.view, State.pairWith, State.formReadiness, State.winder, State.pipe, State.withQueue, State.withPipe,
        PerWinder.get, PerWinder.set]
  refine ⟨State.park_slots _ _ ?_, fun v => ?_⟩
  · have loose : ({ s.pairWith p with pairing := .unpaired } : State).SlotsSound := by
      have base : ({ s with pairing := .unpaired, pairBeyond := false } : State).SlotsSound :=
        ((State.tripsAgree_iff _).mp (s.unpaired_trips false agree)).1
      have queued := State.withQueue_slots _ .rock (fun q => releaseCalls q .heldPairing) (fun c hc k => by
        obtain ⟨x, hx, rfl⟩ := List.mem_map.mp hc
        rw [Call.isOf_work (show _ = x.work by split <;> rfl)]; exact k x hx) base
      let u := ({ s with pairing := .paired p, pairBeyond := false } : State).withQueue .rock (fun q => releaseCalls q .heldPairing)
      exact State.withPipe_slots _ .rock (fun q => { q with staged := q.staged.map u.readied })
        (fun h => h.mapStaged (fun t => by rw [State.readied_eq]; exact ⟨rfl, rfl, rfl⟩)) queued
    have ended := State.endActive_slots _ .rock o loose
    rw [State.endActive_pairing] at ended
    refine ⟨fun v => ?_, ended.queues⟩
    obtain ⟨offer, staged, active, cycles⟩ := ended.pipes v
    refine ⟨offer, staged, fun t ht k => ?_, cycles⟩
    obtain ⟨rock, -, -⟩ := active t ht k
    subst rock
    have none : (((s.pairWith p).endActive .rock o).view .rock).active = false := by
      rw [State.endActive_view]; rfl
    have some : (((s.pairWith p).endActive .rock o).view .rock).active = true := by
      unfold State.view; exact Option.isSome_iff_exists.mpr ⟨t, ht⟩
    rw [none] at some
    cases some
  · show (State.view (State.park ((s.pairWith p).endActive .rock o) .rock) v).Stands
    rw [State.park_view, State.endActive_view, view]
    split
    · exact (stands v).parked
    · exact stands v

theorem State.withClutchTimer_preserves (s : State) (x : Option Time) : s.Preserves { s with clutchTimer := x } := .of_judged rfl

theorem State.closingConfirmed_preserves (s : State) (r : RePair) : s.Preserves (s.closingConfirmed r) := by
  unfold State.closingConfirmed
  refine (s.withClutchTimer_preserves none).trans ?_
  exact .of_shared ((State.pairWith_keeps _ _).trans (State.endAndPark_keeps _ _ _))
    ((State.pairWith_guards _ _).trans (State.endAndPark_guards _ _ _)) (State.pairAndPark_trips _ _ _)

theorem State.openingConfirmed_preserves (s : State) (r : RePair) : s.Preserves (s.openingConfirmed r) := by
  unfold State.openingConfirmed
  exact (s.withClutchTimer_preserves none).trans (.ite (State.endAndPark_preserves _ _ _)
    ((State.withRepair_preserves _ _).trans (State.offerLeg_preserves _ _)))

theorem State.clutchFault_preserves (s : State) : s.Preserves s.clutchFault := s.deliver_preserves _

theorem State.clutchWithin_preserves (s : State) (r : RePair) (c : Clutch) : s.Preserves (s.clutchWithin r c) := by
  unfold State.clutchWithin
  split
  · exact s.openingConfirmed_preserves r
  · exact .refl s
  · exact .refl s
  · exact .ite (s.endAndPark_preserves _ _) (.refl s)
  · exact s.clutchFault_preserves
  · exact s.clutchFault_preserves
  · exact s.closingConfirmed_preserves r
  · exact .refl s
  · exact .refl s

theorem State.clutchOutside_preserves (s : State) (c : Clutch) : s.Preserves (s.clutchOutside c) := by
  have change : s.Preserves s.unrequestedChange :=
    .ite (s.unpair_preserves.trans (State.clutchFault_preserves _)) s.unpair_preserves
  have discard : ∀ t : State, t.Preserves (t.discardInspection c) := fun t => .ite (t.discardStaged_preserves _ _) (.refl t)
  exact (State.Preserves.ite change (.refl s)).trans (discard _)

theorem State.takeClutch_preserves (s : State) (c : Clutch) : s.Preserves (s.takeClutch c) := by
  have read : s.Preserves { s with clutch := some c } := .of_judged rfl
  unfold State.takeClutch
  dsimp only
  split
  · exact read.trans (State.clutchOutside_preserves _ c)
  · exact read.trans (State.clutchWithin_preserves _ _ c)

/-! ## Reports and marker passes -/

theorem State.addMetres_preserves (s : State) (mm : Nat) (c : Conveyance) : s.Preserves (s.addMetres mm c) := .of_judged rfl

theorem State.foldMetres_preserves (s : State) (mm : Nat) (l : List Conveyance) :
    s.Preserves (l.foldl (fun s c => s.addMetres mm c) s) := by
  induction l generalizing s with
  | nil => exact .refl s
  | cons c rest ih => exact (s.addMetres_preserves mm c).trans (ih _)

theorem State.takeDrum_preserves (s : State) (r : Report) (d : Drum) : s.Preserves (s.takeDrum r d) := by
  have kept : ∀ (t : State) (x y : PerDrum (Option Int)), t.Preserves { t with drumDepth := x, metresFrom := y } :=
    fun _ _ _ => .of_judged rfl
  exact (s.foldMetres_preserves _ _).trans (kept _ _ _)

theorem State.raiseLost_preserves (s before : State) (w : Winder) (c : Conveyance) : s.Preserves (s.raiseLost before w c) :=
  .ite (s.deliver_preserves _) (.refl s)

theorem State.updateRecords_preserves (s : State) (w : Winder) (r : Report) : s.Preserves (s.updateRecords w r) := by
  have drums : ∀ (l : List Drum) (t : State), t.Preserves (l.foldl (fun s d => s.takeDrum r d) t) := by
    intro l
    induction l with
    | nil => exact fun t => .refl t
    | cons d rest ih => exact fun t => (t.takeDrum_preserves r d).trans (ih _)
  have record : ∀ (t : State) (c : Conveyance), t.Preserves (t.takeRecord r c) := fun _ _ => .of_judged rfl
  exact ((((drums _ _).trans (record _ _)).trans (record _ _)).trans (State.raiseLost_preserves ..)).trans
    (State.raiseLost_preserves ..)

theorem State.motionCheck_preserves (s : State) (st : WinderState) (w : Winder) : s.Preserves (s.motionCheck st w) := by
  have arm : ∀ (t : State) (c : Conveyance), t.Preserves (t.armMotion c) := fun _ _ => .of_judged rfl
  have rest : ∀ (t : State) (c : Conveyance), t.Preserves (t.armAtRest st w c) := fun t c => .ite (arm t c) (.refl t)
  have first : ∀ (t : State) (c : Conveyance), t.Preserves (t.firstReference c) := fun t c => .ite (arm t c) (.refl t)
  have test : ∀ (t : State) (c : Conveyance), t.Preserves (t.testMotion w c) := fun t c =>
    .ite ((State.Preserves.of_judged (s := t) (t := t.disarmWinder w) rfl).trans (State.deliver_preserves _ _)) (.refl t)
  have fold : ∀ (l : List Conveyance) (t : State), t.Preserves (l.foldl (fun s c => s.testMotion w c) t) := by
    intro l
    induction l with
    | nil => exact fun t => .refl t
    | cons c rest ih => exact fun t => (test t c).trans (ih _)
  exact ((((rest _ _).trans (rest _ _)).trans (first _ _)).trans (first _ _)).trans (fold _ _)

theorem State.pairCheck_preserves (s : State) (c : Option Clutch) : s.Preserves (s.pairCheck c) := by
  have checked : s.Preserves { s with startupCheck := false } := .of_judged rfl
  have beyond : ∀ (t : State) (b : Bool), t.Preserves { t with pairBeyond := b } := fun _ _ => .of_judged rfl
  unfold State.pairCheck
  split
  · dsimp only
    split
    · exact checked
    · refine checked.trans (.ite ?_ ?_)
      · exact .ite ((State.deliver_preserves _ _).trans (State.unpair_preserves _)) (.refl _)
      · exact .ite (.ite (.refl _) ((beyond _ _).trans (State.deliver_preserves _ _))) (beyond _ _)
  · exact .refl s

theorem State.rebuildAtReport_preserves (s before : State) (w : Winder) : s.Preserves (s.rebuildAtReport before w) :=
  ((s.rebuildSet_preserves _).trans (State.rebuildSet_preserves _ _)).trans (State.deliverAll_preserves _ _)

theorem State.raiseDriveFault_preserves (s : State) (w : Winder) (code : Nat) : s.Preserves (s.raiseDriveFault w code) :=
  (s.withWinder_preserves w _ id id rfl id).trans (State.deliver_preserves _ _)

theorem State.takeDriveState_preserves (s : State) (w : Winder) (r : Report) : s.Preserves (s.takeDriveState w r) := by
  unfold State.takeDriveState
  split
  · exact .ite (.refl s) (s.raiseDriveFault_preserves w _)
  all_goals exact s.withWinder_preserves w _ id id rfl id

theorem State.handReport_preserves (s before : State) (w : Winder) (r : Report) : s.Preserves (s.handReport before w r) := by
  have stop : ∀ t : State, t.Preserves (t.stopAtRest (before.winder w).state w) := fun t =>
    .ite (t.endAndPark_preserves w _) (.refl t)
  have clutch : ∀ t : State, t.Preserves (t.clutchAtReport r.clutch) := by
    intro t
    unfold State.clutchAtReport
    split
    · exact .refl t
    · exact t.takeClutch_preserves _
  exact ((((((s.rebuildAtReport_preserves before w).trans (State.handAndCompare_preserves _ w)).trans
    (State.handTouch_preserves _ w)).trans (stop _)).trans (clutch _)).trans (State.takeDriveState_preserves _ w r)).trans
    (State.readyStaged_preserves _ w)

theorem State.storeReport_preserves (s : State) (w : Winder) (r : Report) : s.Preserves (s.storeReport w r) := by
  have stored : s.Preserves { s with reports := s.reports.set w (some r) } := .of_judged rfl
  exact stored.trans (State.withWinder_preserves _ w _ id id rfl id)

theorem State.takeReport_preserves (s : State) (w : Winder) (r : Report) : s.Preserves (s.takeReport w r) :=
  (((((s.storeReport_preserves w r).trans (State.updateRecords_preserves _ w r)).trans
    (State.motionCheck_preserves _ _ w)).trans (State.pairCheck_preserves _ _)).trans
    (State.handReport_preserves _ s w r)).trans (State.settle_preserves _ w)

theorem State.applyPass_preserves (s : State) (c : Conveyance) (m : Marker) (d : Int) : s.Preserves (s.applyPass c m d) := by
  have raise : ∀ t : State, t.Preserves (t.raiseDisagreement c d) := fun t =>
    .ite (t.deliver_preserves _) (.ite (t.deliver_preserves _) (.refl t))
  exact ((((((s.withPosition_preserves c _).trans (raise _)).trans (State.rebuildSet_preserves _ c)).trans
    (State.deliverAll_preserves _ _)).trans (State.handOn_preserves _ _)).trans (State.readyStaged_preserves _ _)).trans
    (State.settle_preserves _ _)

theorem State.takePass_preserves (s : State) (c : Conveyance) (code : Nat) : s.Preserves (s.takePass c code) := by
  have passed : s.Preserves { s with lastPass := s.lastPass.set c (some s.now) } := .of_judged rfl
  unfold State.takePass
  dsimp only
  refine passed.trans ?_
  split
  · exact State.deliver_preserves _ _
  · split
    · exact .refl _
    · exact State.applyPass_preserves _ c _ _
    · exact State.applyPass_preserves _ c _ _
    all_goals exact .refl _

theorem State.raiseSilent_preserves (s : State) (w : Winder) : s.Preserves (s.raiseSilent w) :=
  .ite ((s.withWinder_preserves w _ id id rfl id).trans (State.deliver_preserves _ _))
    ((s.withWinder_preserves w _ id id rfl id).trans (State.deliver_preserves _ _))

theorem takePositionReport_preserves (l : Link) (b : ReportBody) (s : State) : s.Preserves (takePositionReport l b s) := by
  unfold takePositionReport
  split
  · exact s.takeReport_preserves _ _
  · exact .refl s

theorem State.takeLegComplete_preserves (s : State) (w : Winder) (trip leg : Nat) : s.Preserves (s.takeLegComplete w trip leg) := by
  unfold State.takeLegComplete
  split
  · exact .refl s
  · next t ht =>
    have active : (s.pipe w).active = some t := (Option.filter_eq_some_iff.mp ht).1
    split
    · exact .refl s
    · refine State.Preserves.trans ?_ (State.settle_preserves _ w)
      exact .ite (.refl s) (.ite (s.endAndPark_preserves w _) (.of_shared (s.beginSettling_keeps w t _)
        (s.beginSettling_guards w t _) (s.beginSettling_trips w t _ active)))

theorem State.landingTest_keeps (s : State) (w : Winder) (t : Trip) (l : Leg) : s.Keeps (s.landingTest w t l) := by
  unfold State.landingTest
  split
  · exact .refl s
  · refine .ite (s.failLanding_keeps ..) (.ite (s.landLeg_keeps ..) ?_)
    split
    · exact s.relevel_keeps ..
    · unfold State.missPair
      dsimp only
      split
      · exact .ite (s.relevel_keeps ..) (s.failLanding_keeps ..)
      · exact s.failLanding_keeps ..

theorem State.settleEnds_keeps (s : State) (w : Winder) : s.Keeps (s.settleEnds w) := by
  have idle := s.withPipe_keeps w (fun p => { p with settle := none })
  unfold State.settleEnds
  dsimp only
  split
  · exact idle
  · split
    · exact idle
    · exact idle.trans (State.landingTest_keeps _ w _ _)

theorem State.settleEnds_preserves (s : State) (w : Winder) : s.Preserves (s.settleEnds w) :=
  .of_shared (s.settleEnds_keeps w) (s.settleEnds_guards w) (s.settleEnds_trips w)

theorem State.emergencyStop_preserves (s : State) (w : Winder) : s.Preserves (s.emergencyStop w) :=
  .ite (.refl s) (s.deliver_preserves _)

theorem State.lineAsserted_preserves (s : State) (w : Winder) : s.Preserves (s.lineAsserted w) := by
  have line : s.Preserves { s with emergencyLine := s.emergencyLine.set w true } := .of_judged rfl
  exact .ite (.refl s) (line.trans (State.emergencyStop_preserves _ w))

/-! ## The start-up sequence -/

/-- Step 1 of the start-up sequence, with no trip in a slot yet (R179). -/
theorem State.startConfig_preserves (s : State) (idle : ∀ w, (s.pipe w).active = none) : s.Preserves s.startConfig := by
  unfold State.startConfig
  split
  · refine ⟨rfl, rfl, id, id, id, id, id, fun h => ?_, fun h => ?_, fun h => ?_⟩
    · rw [State.tripsAgree_iff] at *
      refine ⟨⟨fun w => ?_, h.1.queues⟩, h.2⟩
      obtain ⟨offer, staged, -, cycles⟩ := h.1.pipes w
      exact ⟨offer, staged, fun t ht => absurd ((idle w).symm.trans ht) nofun, cycles⟩
    · rw [State.zonesSound_iff] at *
      exact ⟨((StoredConfig.zonesSound_iff _).mp h.stored).1, h.stored, h.commit, h.record, h.write⟩
    · rw [State.settingsInRange_iff] at *
      exact ⟨h.2.1, h.2⟩
  · exact s.record_preserves _

/-- The recorded WORK entries placed, a table stays in its one form (R54). -/
theorem ZonesWell.placeAll {t : List (Nat × Zone)} (h : ZonesWell t) {l : List (Nat × Zone)} (below : ∀ e ∈ l, e.1 < 64)
    (work : ∀ e ∈ l, e.2.kind = .work → 16 ≤ e.1) : ZonesWell (placeAll t l) := by
  unfold Machine.placeAll
  induction l generalizing t with
  | nil => exact h
  | cons e rest ih =>
    exact ih (h.put (below e List.mem_cons_self) (work e List.mem_cons_self))
      (fun x hx => below x (List.mem_cons_of_mem _ hx)) (fun x hx => work x (List.mem_cons_of_mem _ hx))

theorem State.moveEntry_preserves (s : State) (e : Nat × Zone) : s.Preserves (s.moveEntry e) := by
  unfold State.moveEntry
  split
  · next n hn =>
    obtain ⟨lo, hi, -, -⟩ := lowestFree_some hn
    exact s.withZones_preserves _ (fun h => h.put (by omega) (fun _ => lo))
  · exact s.record_preserves _

theorem State.startRecord_preserves (s : State) : s.Preserves s.startRecord := by
  unfold State.startRecord
  split
  · have placed : s.Preserves { s with bars := s.recordCurrent.bars, zones := placeAll s.zones s.recordCurrent.work } := by
      refine ⟨rfl, rfl, id, id, id, id, id, id, fun h => ?_, id⟩
      rw [State.zonesSound_iff] at *
      obtain ⟨well, -⟩ := (ShaftRecord.workSound_iff _).mp h.record
      exact ⟨h.zones.placeAll well.below well.work, h.stored, h.commit, h.record, h.write⟩
    have moved : ∀ (l : List (Nat × Zone)) (t : State), t.Preserves (l.foldl State.moveEntry t) := by
      intro l
      induction l with
      | nil => exact fun t => .refl t
      | cons e rest ih => exact fun t => (t.moveEntry_preserves e).trans (ih _)
    exact placed.trans (moved _ _)
  · exact s.record_preserves _

/-- What the start-up sequence keeps of a part that has just come to power (R179). -/
theorem State.unpowered_preserves (s : State) : s.unpowered.Preserves s.startUp := by
  have sample : ∀ (t : State) (w : Winder), t.Preserves (t.sampleLine w) := fun t w => .ite (t.emergencyStop_preserves w) (.refl t)
  have mode : ∀ t : State, t.Preserves { t with commissioning := t.commissioningLine } := fun _ => .of_judged rfl
  exact ((((State.startConfig_preserves _ (fun w => by cases w <;> rfl)).trans (State.startRecord_preserves _)).trans
    (mode _)).trans (sample _ _)).trans (sample _ _)

end Sys2Proof.Machine

/-! PROOFS. What every command and every step keeps: the statements on the invariants (O3, O6 to O10). -/

namespace Sys2Proof.Machine

/-! ## The commands -/

/-- A command completes, and keeps what `Preserves` says. -/
def Keeping (c : Instr) (s : State) : Prop := Completes c s s.Preserves

theorem State.begin_preserves_ite (s : State) {p : Prop} [Decidable p] {t : State} (h : s.begin.Preserves t) :
    s.Preserves (if p then t else s.begin) :=
  .ite (s.begin_preserves.trans h) s.begin_preserves

theorem State.takeReply_preserves (s : State) (w : Winder) (k : Kind) (tag : Nat) : s.Preserves (s.takeReply w k tag) :=
  (s.begin_preserves.trans (State.frameArrives_preserves _ _)).trans (State.dropAwaited_preserves _ w k tag)

theorem State.raiseUnder_preserves (s : State) (w : Winder) : s.Preserves (s.raiseUnder w) := by
  unfold State.raiseUnder
  exact (State.withMonitor_preserves s w (fun m => { m with underIndication := true, underTimer := none })).trans
    (State.deliver_preserves _ _)

theorem unlistedKindRequest_kept (s : State) (l : Link) (kind tag : Nat) : Keeping (.unlistedKindRequest l kind tag) s :=
  ⟨_, rfl, (((s.begin_preserves.trans (State.frameArrives_preserves _ _)).trans (State.abandonIf_preserves _ _)).trans
    (State.dropSnapshot_preserves _ _)).trans (State.reply_preserves ..)⟩

theorem legComplete_kept (s : State) (h : Head) (trip leg : Nat) : Keeping (.legComplete h trip leg) s := by
  change ∃ t, execLegComplete h trip leg s = .next t ∧ s.Preserves t
  unfold execLegComplete
  split
  · exact ⟨_, rfl, driveRequest_preserves s h _ _ _ (fun t => t.takeLegComplete_preserves _ _ _)⟩
  · exact ⟨_, rfl, driveRequest_preserves s h _ _ _ (fun t => .refl t)⟩

theorem driveFault_kept (s : State) (h : Head) (code : Nat) : Keeping (.driveFault h code) s := by
  change ∃ t, execDriveFault h code s = .next t ∧ s.Preserves t
  unfold execDriveFault
  split
  · exact ⟨_, rfl, driveRequest_preserves s h _ _ _ (fun t => t.raiseDriveFault_preserves _ _)⟩
  · exact ⟨_, rfl, driveRequest_preserves s h _ _ _ (fun t => .refl t)⟩

/-- Every command but POWER_ON, whose effect is its own, and DAMAGED_FRAME, which brings others. -/
theorem exec_kept (c : Instr) (s : State) (power : c ≠ .powerOn) (frame : ∀ l b, c ≠ .damagedFrame l b) : Keeping c s := by
  cases c with
  | powerOn => exact absurd rfl power
  | damagedFrame l b => exact absurd rfl (frame l b)
  | emergencyStopAsserted w => exact ⟨_, rfl, s.begin_preserves.trans (State.lineAsserted_preserves _ w)⟩
  | emergencyStopCleared w => exact ⟨_, rfl, .of_judged rfl⟩
  | maintenanceKeyChange active => exact ⟨_, rfl, .of_judged rfl⟩
  | commissioningInputChange active => exact ⟨_, rfl, .of_judged rfl⟩
  | markerPass reader code => exact ⟨_, rfl, s.begin_preserves.trans (State.takePass_preserves _ reader code)⟩
  | strayReplyFrame link kind tag => exact ⟨_, rfl, s.begin_preserves.trans (State.frameArrives_preserves _ link)⟩
  | unlistedKindRequest link kind tag => exact unlistedKindRequest_kept s link kind tag
  | call h station cls decks riders payload priority =>
    exact ⟨_, rfl, request_preserves s h _ _ _ (fun t => withRead_preserves riders t (fun r =>
      withRead_preserves payload t (fun p => takeCall_preserves h.link station cls decks r p priority t)))⟩
  | openCall h station cls => exact ⟨_, rfl, request_preserves s h _ _ _ (takeOpenCall_preserves station cls)⟩
  | addDeck h deck => exact ⟨_, rfl, request_preserves s h _ _ _ (takeAddDeck_preserves deck)⟩
  | closeCall h riders payload => exact ⟨_, rfl, request_preserves s h _ _ _ (takeCloseCall_preserves h.link riders payload)⟩
  | assemblyTimeout => exact ⟨_, rfl, s.begin_preserves_ite (.of_judged rfl)⟩
  | cancelCall h winder id => exact ⟨_, rfl, winderRequest_preserves s h _ _ _ (takeCancelCall_preserves id)⟩
  | queryCall h winder id => exact ⟨_, rfl, winderRequest_preserves s h _ _ _ (fun _ t => .refl t)⟩
  | endedCallExpiry w id => exact ⟨_, rfl, s.dropEnded_preserves w _⟩
  | ready h trip leg => exact ⟨_, rfl, request_preserves s h _ _ _ (takeReady_preserves trip leg)⟩
  | grantReply w tag code =>
    exact ⟨_, rfl, ((s.begin_preserves.trans (State.frameArrives_preserves _ _)).trans
      (State.takeGrantReply_preserves _ w tag code)).trans (State.settle_preserves _ w)⟩
  | grantReplyTimeout w tag =>
    exact ⟨_, rfl, (s.begin_preserves.trans (State.grantExpires_preserves _ w tag)).trans (State.settle_preserves _ w)⟩
  | backoffEnd w =>
    exact ⟨_, rfl, (s.begin_preserves_ite (State.offerLeg_preserves _ w)).trans (State.settle_preserves _ w)⟩
  | grantVoidReply w tag code => exact ⟨_, rfl, s.takeReply_preserves w _ tag⟩
  | noticeReply w notice tag code => exact ⟨_, rfl, s.takeReply_preserves w _ tag⟩
  | clutchReply w order tag code => exact ⟨_, rfl, s.takeReply_preserves w _ tag⟩
  | requestReplyTimeout w kind tag => exact ⟨_, rfl, s.begin_preserves_ite (State.dropAwaited_preserves _ w kind tag)⟩
  | stop h winder =>
    exact ⟨_, rfl, winderRequest_preserves s h _ _ _ (fun w t => (t.stopWinder_preserves w).trans (State.settle_preserves _ w))⟩
  | stopNotAchieved w => exact ⟨_, rfl, s.begin_preserves_ite (State.deliver_preserves _ _)⟩
  | barStation h station => exact ⟨_, rfl, request_preserves s h _ _ _ (takeBarStation_preserves station)⟩
  | shaftWorkRecordWriteEnd checkHolds =>
    exact ⟨_, rfl, s.begin_preserves.trans (State.endRecordWrite_preserves _ checkHolds)⟩
  | queryBar h station => exact ⟨_, rfl, readRequest_preserves s h _ _ _ _⟩
  | clearBars h => exact ⟨_, rfl, request_preserves s h _ _ _ takeClearBars_preserves⟩
  | addWorkZone h mask upper lower label =>
    exact ⟨_, rfl, request_preserves s h _ _ _ (takeAddWorkZone_preserves mask upper lower label)⟩
  | removeWorkZone h number => exact ⟨_, rfl, request_preserves s h _ _ _ (takeRemoveWorkZone_preserves number)⟩
  | tripStatus h winder => exact ⟨_, rfl, winderRequest_preserves s h _ _ _ (fun _ t => .refl t)⟩
  | cycle h rising => exact ⟨_, rfl, request_preserves s h _ _ _ (takeCycle_preserves h.link rising)⟩
  | loaded h skip mass => exact ⟨_, rfl, request_preserves s h _ _ _ (takeLoaded_preserves skip mass)⟩
  | tipped h skip => exact ⟨_, rfl, request_preserves s h _ _ _ (takeTipped_preserves skip)⟩
  | querySkip h skip => exact ⟨_, rfl, readRequest_preserves s h _ _ _ _⟩
  | release h winder => exact ⟨_, rfl, winderRequest_preserves s h _ _ _ takeRelease_preserves⟩
  | hold h winder => exact ⟨_, rfl, winderRequest_preserves s h _ _ _ takeHold_preserves⟩
  | clearHeld h winder =>
    exact ⟨_, rfl, winderRequest_preserves s h _ _ _ (fun w t => t.withWinder_preserves w (fun r => { r with held := false }) id id rfl id)⟩
  | winderReset h winder =>
    exact ⟨_, rfl, winderRequest_preserves s h _ _ _ (fun w t => t.tested_preserves (fun _ => t.resetWinder_preserves w))⟩
  | setMode h winder mode => exact ⟨_, rfl, winderRequest_preserves s h _ _ _ (takeSetMode_preserves mode)⟩
  | acknowledgeTrip h winder => exact ⟨_, rfl, winderRequest_preserves s h _ _ _ takeAcknowledge_preserves⟩
  | releaseLockout h winder => exact ⟨_, rfl, winderRequest_preserves s h _ _ _ takeReleaseLockout_preserves⟩
  | readWinder h winder => exact ⟨_, rfl, winderRequest_preserves s h _ _ _ (fun _ t => .refl t)⟩
  | manualTrip h body => exact ⟨_, rfl, request_preserves s h _ _ _ (takeManualTrip_preserves body)⟩
  | inspectTrip h conveyance target =>
    exact ⟨_, rfl, request_preserves s h _ _ _ (takeInspectTrip_preserves conveyance target)⟩
  | readQueue h winder first => exact ⟨_, rfl, pageRequest_preserves s h _ _ _ (takeReadQueue_preserves winder first)⟩
  | snapshotExpiry => exact ⟨_, rfl, s.begin_preserves_ite (.of_judged rfl)⟩
  | writeZone h number kind mask upper lower cap label =>
    exact ⟨_, rfl, request_preserves s h _ _ _ (fun t => withRead_preserves number t (fun n =>
      withRead_preserves cap t (fun c => takeWriteZone_preserves n kind mask upper lower c label t)))⟩
  | removeZone h number =>
    exact ⟨_, rfl, request_preserves s h _ _ _ (fun t => t.tested_preserves (fun _ => t.freeAt_preserves number))⟩
  | readZone h number => exact ⟨_, rfl, readRequest_preserves s h _ _ _ _⟩
  | readCap h winder => exact ⟨_, rfl, winderRequest_preserves s h _ _ _ (fun _ t => .refl t)⟩
  | writeGeometry h pitch span =>
    exact ⟨_, rfl, request_preserves s h _ _ _ (fun t => withRead_preserves pitch t (fun p =>
      withRead_preserves span t (fun q => takeWriteGeometry_preserves p q t)))⟩
  | readGeometry h => exact ⟨_, rfl, readRequest_preserves s h _ _ _ _⟩
  | writeStation h station depth window decks inService =>
    exact ⟨_, rfl, request_preserves s h _ _ _ (fun t => withRead_preserves depth t (fun d =>
      takeWriteStation_preserves station d window decks inService t))⟩
  | readStation h station => exact ⟨_, rfl, readRequest_preserves s h _ _ _ _⟩
  | writeRockPoint h point depth window =>
    exact ⟨_, rfl, request_preserves s h _ _ _ (fun t => withRead_preserves depth t (fun d =>
      withRead_preserves window t (fun w => takeWriteRockPoint_preserves point d w t)))⟩
  | readRockPoint h point => exact ⟨_, rfl, readRequest_preserves s h _ _ _ _⟩
  | writeClass h cls speed decel limit => exact ⟨_, rfl, request_preserves s h _ _ _ (takeWriteClass_preserves cls _)⟩
  | readClass h cls => exact ⟨_, rfl, readRequest_preserves s h _ _ _ _⟩
  | writeTracking h settings => exact ⟨_, rfl, request_preserves s h _ _ _ (takeWriteTracking_preserves settings)⟩
  | readTracking h => exact ⟨_, rfl, readRequest_preserves s h _ _ _ _⟩
  | writeDrumScale h drum scale => exact ⟨_, rfl, request_preserves s h _ _ _ (takeWriteDrumScale_preserves drum scale)⟩
  | setReference h drum depth => exact ⟨_, rfl, request_preserves s h _ _ _ (takeSetReference_preserves drum depth)⟩
  | restartTracking h winder =>
    exact ⟨_, rfl, winderRequest_preserves s h _ _ _ (fun w t => t.tested_preserves (fun _ =>
      (t.chill_preserves _).trans (State.rebuildWinder_preserves _ w)))⟩
  | writeMarker h id compartment depth accuracy =>
    exact ⟨_, rfl, request_preserves s h _ _ _ (takeWriteMarker_preserves id compartment depth accuracy)⟩
  | removeMarker h id =>
    exact ⟨_, rfl, request_preserves s h _ _ _ (fun t => t.tested_preserves (fun _ => t.removeMarker_preserves id))⟩
  | readMarker h id => exact ⟨_, rfl, readRequest_preserves s h _ _ _ _⟩
  | readPosition h first => exact ⟨_, rfl, pageRequest_preserves s h _ _ _ (fun t => pageRead_preserves t _ first _)⟩
  | writeOfferLimit h winder limit => exact ⟨_, rfl, winderRequest_preserves s h _ _ _ (takeWriteOfferLimit_preserves limit)⟩
  | writeReportInterval h winder interval =>
    exact ⟨_, rfl, winderRequest_preserves s h _ _ _ (takeWriteReportInterval_preserves interval)⟩
  | writeSettle h winder base cap => exact ⟨_, rfl, winderRequest_preserves s h _ _ _ (takeWriteSettle_preserves base cap)⟩
  | readSettle h winder => exact ⟨_, rfl, winderRequest_preserves s h _ _ _ (fun _ t => .refl t)⟩
  | rePair h pocket free => exact ⟨_, rfl, request_preserves s h _ _ _ (takeRePair_preserves pocket free)⟩
  | setSkipContents h skip contents mass =>
    exact ⟨_, rfl, request_preserves s h _ _ _ (fun t => withRead_preserves mass t (fun m =>
      takeSetSkipContents_preserves skip contents m t))⟩
  | writePayload h tolerance action => exact ⟨_, rfl, request_preserves s h _ _ _ (takeWritePayload_preserves tolerance action)⟩
  | readPayload h => exact ⟨_, rfl, readRequest_preserves s h _ _ _ _⟩
  | writeEnvelope h winder hysteresis mode under margin =>
    exact ⟨_, rfl, winderRequest_preserves s h _ _ _ (takeWriteEnvelope_preserves hysteresis mode under margin)⟩
  | readEnvelope h winder => exact ⟨_, rfl, winderRequest_preserves s h _ _ _ (fun _ t => .refl t)⟩
  | clearIndications h winder =>
    exact ⟨_, rfl, winderRequest_preserves s h _ _ _ (fun w t => t.clearIndications_preserves w)⟩
  | setEnvelopeLock h winder =>
    exact ⟨_, rfl, winderRequest_preserves s h _ _ _
      (fun w t => t.withMonitor_preserves w (fun m => { m with envelopeLock := true }))⟩
  | setTripLock h winder =>
    exact ⟨_, rfl, winderRequest_preserves s h _ _ _ (fun w t =>
      t.tested_preserves (fun _ => t.withMonitor_preserves w (fun m => { m with tripLock := true })))⟩
  | stopMonitor h winder => exact ⟨_, rfl, winderRequest_preserves s h _ _ _ takeStopMonitor_preserves⟩
  | startMonitor h winder =>
    exact ⟨_, rfl, winderRequest_preserves s h _ _ _ (fun w t => (t.withMonitor_preserves w _).trans (State.settle_preserves _ w))⟩
  | readFaults h first => exact ⟨_, rfl, pageRequest_preserves s h _ _ _ (fun t => pageRead_preserves t _ first _)⟩
  | clearFaults h => exact ⟨_, rfl, request_preserves s h _ _ _ takeClearFaults_preserves⟩
  | readCounters h => exact ⟨_, rfl, readRequest_preserves s h _ _ _ _⟩
  | clearCounters h => exact ⟨_, rfl, request_preserves s h _ _ _ (fun t => .of_judged rfl)⟩
  | commit h =>
    exact ⟨_, rfl, request_preserves s h _ _ _ (fun t => t.tested_preserves (fun _ => t.startCommit_preserves))⟩
  | commitWriteEnd checkHolds => exact ⟨_, rfl, s.begin_preserves.trans (State.endCommit_preserves _ checkHolds)⟩
  | identify h => exact ⟨_, rfl, readRequest_preserves s h _ _ _ _⟩
  | positionReport h body => exact ⟨_, rfl, driveRequest_preserves s h _ _ _ (takePositionReport_preserves h.link body)⟩
  | driveReportTimeout w => exact ⟨_, rfl, s.begin_preserves_ite (State.raiseSilent_preserves _ w)⟩
  | legComplete h trip leg => exact legComplete_kept s h trip leg
  | driveFault h code => exact driveFault_kept s h code
  | settleExpiry w =>
    exact ⟨_, rfl, s.begin_preserves_ite ((State.settleEnds_preserves _ w).trans (State.settle_preserves _ w))⟩
  | clutchTimerExpiry =>
    exact ⟨_, rfl, s.begin_preserves_ite ((State.withClutchTimer_preserves _ none).trans (State.clutchFault_preserves _))⟩
  | underTimerExpiry w =>
    exact ⟨_, rfl, s.begin_preserves_ite (State.raiseUnder_preserves _ w)⟩
  | tripOvertime w => exact ⟨_, rfl, s.begin_preserves_ite (State.deliver_preserves _ _)⟩

/-! ## DAMAGED_FRAME -/

/-- A frame that ends at a port is the command that `exec` takes, which is neither POWER_ON nor DAMAGED_FRAME, or nothing. -/
theorem execFrame_exec (i : Instr) (s : State) :
    (execFrame i s = exec i s ∧ i ≠ .powerOn ∧ ∀ l b, i ≠ .damagedFrame l b) ∨ execFrame i s = .next s := by
  by_cases power : i = .powerOn
  · subst power; exact .inr rfl
  · exact (execFrame_eq i s).imp_left (fun ⟨h, k⟩ => ⟨h, power, k⟩)

theorem State.takeReceived_preserves (s : State) (l : Link) (x : Received) : s.Preserves (s.takeReceived l x) := by
  cases x with
  | nothing => exact .refl s
  | damaged => exact .of_judged rfl
  | frame b =>
    unfold State.takeReceived
    dsimp only
    split
    · next t e =>
      have sent : ∀ l, t.Preserves { t with sent := l } := fun _ => .of_judged rfl
      rcases execFrame_exec (readFrame l b) s with ⟨k, power, frame⟩ | k
      · obtain ⟨u, hu, kept⟩ := exec_kept _ s power frame
        rw [k, hu] at e
        cases e
        exact kept.trans (sent _)
      · rw [k] at e
        cases e
        exact sent _
    · exact .refl s
    · exact .refl s

theorem State.takeBytes_preserves (s : State) (l : Link) (bytes : List RxByte) : s.Preserves (s.takeBytes l bytes) := by
  have ports : ∀ (t : State) (p : PerLink Port), t.Preserves { t with ports := p } := fun _ _ => .of_judged rfl
  have all : ∀ (xs : List Received) (t : State), t.Preserves (xs.foldl (fun s x => s.takeReceived l x) t) := by
    intro xs
    induction xs with
    | nil => exact fun t => .refl t
    | cons x rest ih => exact fun t => (t.takeReceived_preserves l x).trans (ih _)
  exact ((ports s _).trans (all _ _)).trans (ports _ _)

/-- Every command but POWER_ON completes and keeps the invariants, the queue of commands and the time base. -/
theorem exec_preserves (c : Instr) (s : State) (power : c ≠ .powerOn) : ∃ t, exec c s = .next t ∧ s.Preserves t := by
  by_cases frame : ∃ l b, c = .damagedFrame l b
  · obtain ⟨l, b, rfl⟩ := frame
    exact ⟨_, rfl, s.begin_preserves.trans (State.takeBytes_preserves _ l b)⟩
  · exact exec_kept c s power (fun l b h => frame ⟨l, b, h⟩)

/-- Settles O3: what `exec_preserves` says of the queue and the time base, and POWER_ON, which keeps the queue. -/
theorem everyCommandCompletes : Obligations.EveryCommandCompletes := by
  intro c s
  by_cases power : c = .powerOn
  · subst power
    exact ⟨s.startUp, rfl, s.unpowered_preserves.pending, fun h => absurd rfl h⟩
  · obtain ⟨t, e, kept⟩ := exec_preserves c s power
    exact ⟨t, e, kept.pending, fun _ => kept.now⟩

/-! ## The steps -/

/-- What a step keeps of the invariants. -/
structure State.Invariant (s t : State) : Prop where
  outputs : s.outputsAgree = true → t.outputsAgree = true
  fields : s.fieldsAgree = true → t.fieldsAgree = true
  faults : s.faultsBounded = true → t.faultsBounded = true
  ended : s.endedBounded = true → t.endedBounded = true
  queues : s.queuesBounded = true → t.queuesBounded = true
  trips : s.tripsAgree = true → t.tripsAgree = true
  zones : s.zonesSound = true → t.zonesSound = true
  settings : s.settingsInRange = true → t.settingsInRange = true

theorem State.Preserves.invariant {s t : State} (h : s.Preserves t) : s.Invariant t :=
  ⟨h.outputs, h.fields, h.faults, h.ended, h.queues, h.trips, h.zones, h.settings⟩

theorem State.Invariant.trans {s t u : State} (h : s.Invariant t) (k : t.Invariant u) : s.Invariant u :=
  ⟨k.outputs ∘ h.outputs, k.fields ∘ h.fields, k.faults ∘ h.faults, k.ended ∘ h.ended, k.queues ∘ h.queues, k.trips ∘ h.trips,
    k.zones ∘ h.zones, k.settings ∘ h.settings⟩

/-- A part that comes to power starts afresh but for its stores, which keep what they held (R179). -/
theorem State.startUp_invariant (s : State) : s.Invariant s.startUp := by
  refine State.Invariant.trans ⟨fun _ => rfl, fun _ => rfl, fun _ => rfl, fun _ => rfl, fun _ => rfl, fun _ => ?_, fun h => ?_,
    fun h => ?_⟩ s.unpowered_preserves.invariant
  · rfl
  · rw [State.zonesSound_iff] at *
    exact ⟨⟨List.Pairwise.nil, fun _ k => (by cases k), fun _ k => (by cases k)⟩, h.stored, fun _ k => (by cases k), h.record,
      fun _ k => (by cases k)⟩
  · rw [State.settingsInRange_iff] at *
    exact ⟨(by decide : Settings.defaults.inRange = true), h.2.1, fun _ k => (by cases k)⟩

theorem exec_invariant {c : Instr} {s t : State} (h : exec c s = .next t) : s.Invariant t := by
  by_cases power : c = .powerOn
  · subst power
    cases h
    exact s.startUp_invariant
  · obtain ⟨u, e, kept⟩ := exec_preserves c s power
    rw [e] at h
    cases h
    exact kept.invariant

theorem State.countMotion_preserves (s : State) (w : Winder) : s.Preserves (s.countMotion w) := by
  refine .ite (.of_shared (s.withPipe_keeps w _) (s.withPipe_guards w _ id) (s.withPipe_trips w _ (fun h => ?_) (by simp) id))
    (.refl s)
  refine ⟨by simpa using h.offer, h.staged, fun t ht k => ?_, fun e => ⟨(h.cycles e).1, fun t ht => ?_⟩⟩
  · obtain ⟨x, hx, rfl⟩ := Option.map_eq_some_iff.mp ht
    exact h.active x hx k
  · obtain ⟨x, hx, rfl⟩ := Option.map_eq_some_iff.mp ht
    exact (h.cycles e).2 x hx

theorem step_invariant {s t : State} (h : step s = .next t) : s.Invariant t := by
  have clock : ∀ (u : State) (n : Time) (p : List Instr) (d : Nat), u.Invariant { u with now := n, pending := p, draws := d } :=
    fun _ _ _ _ => ⟨id, id, id, id, id, id, id, id⟩
  unfold step at h
  split at h
  · cases h
    exact ((s.begin_preserves.invariant.trans (clock s.begin (s.now + 1) s.pending s.draws)).trans
      ((State.countMotion_preserves _ .service).trans (State.countMotion_preserves _ .rock)).invariant).trans (clock _ _ _ _)
  · next c rest _ => exact (clock s s.now rest s.draws).trans (exec_invariant h)

/-- Settles O6: every change of a winder record keeps the outputs with the state. -/
theorem outputsAgreeWithTheStates : Obligations.OutputsAgreeWithTheStates :=
  fun _ _ agree run => (step_invariant run).outputs agree

/-- Settles O7: the fields of the records and the slots stay with the states. -/
theorem recordFieldsAgreeWithTheStates : Obligations.RecordFieldsAgreeWithTheStates :=
  fun _ _ run => ⟨(step_invariant run).fields, (step_invariant run).trips⟩

/-- Settles O8: the bounds of the lists and of the queues. -/
theorem listsStayBounded : Obligations.ListsStayBounded := by
  intro s t run
  refine ⟨(step_invariant run).faults, (step_invariant run).ended, (step_invariant run).queues, ?_⟩
  rw [State.queuesBounded_iff]
  refine forall_congr' (fun w => ?_)
  have occupied : (if (s.pipe w).staged.isSome = true then 1 else 0) = if (s.pipe w).staged = none then 0 else 1 := by
    cases (s.pipe w).staged <;> rfl
  unfold State.admissionCount
  rw [occupied]
  cases w <;> rfl

/-- Settles O9: the zone tables stay in their one form, each entry in its partition. -/
theorem zoneTablesStaySound : Obligations.ZoneTablesStaySound :=
  fun _ _ sound run => (step_invariant run).zones sound

/-- Settles O10: every write of a setting is tested first. -/
theorem settingsStayInRange : Obligations.SettingsStayInRange :=
  fun _ _ ranged run => (step_invariant run).settings ranged

end Sys2Proof.Machine

/-! PROOFS. The machine and its links: the reset, a step, an idle millisecond with the timers then due, the arrival of a
request, and a request to a drive (O1, O2, O4, O5, O11, O15). -/

namespace Sys2Proof.Machine

/-- Settles O5: the invariants are decidable, and the reset state is one closed term. -/
theorem invariantsHoldAtReset : Obligations.InvariantsHoldAtReset := by
  refine ⟨rfl, rfl, rfl, rfl, ?_, ?_, rfl, rfl⟩ <;> decide

/-- Settles O1. -/
theorem stepTakesTheFrontCommand : Obligations.StepTakesTheFrontCommand := by
  intro c rest s h
  unfold step
  rw [h]

/-- Settles O4: each value stands in the definition of the reset. -/
theorem resetHoldsTheNamedValues : Obligations.ResetHoldsTheNamedValues := by
  have winders : ∀ w, State.reset.winder w = WinderRecord.atPowerOn ∧ State.reset.pipe w = Pipe.atPowerOn ∧
      State.reset.monitor w = Monitor.atPowerOn ∧ State.reset.queues.get w = [] ∧ State.reset.ended.get w = [] ∧
      State.reset.lastCallId.get w = 250 ∧ State.reset.reports.get w = none ∧ State.reset.caps.get w = ⟨0, none⟩ ∧
      State.reset.drives.get w = ⟨0, [], []⟩ ∧ State.reset.restricted.get w = false ∧
      State.reset.counters.get w = ⟨0, 0, 0, 0, 0⟩ := by
    intro w
    cases w <;> exact ⟨rfl, rfl, rfl, rfl, rfl, rfl, rfl, rfl, rfl, rfl, rfl⟩
  have conveyances : ∀ c, State.reset.position c = Position.atPowerOn 600 0 ∧ State.reset.metres.get c = 0 ∧
      State.reset.remainders.get c = 0 ∧ State.reset.lastPass.get c = none := by
    intro c
    cases c <;> exact ⟨rfl, rfl, rfl, rfl⟩
  have drums : ∀ d, State.reset.drumDepth.get d = none ∧ State.reset.metresFrom.get d = none := by
    intro d
    cases d <;> exact ⟨rfl, rfl⟩
  have links : ∀ l, State.reset.ports.get l = ⟨.hunting, 0⟩ ∧ State.reset.frameErrors.get l = 0 := by
    intro l
    cases l <;> exact ⟨rfl, rfl⟩
  have skips : ∀ k, State.reset.skips.get k = ⟨.unknown, 0⟩ := by
    intro k
    cases k <;> rfl
  exact ⟨rfl, rfl, rfl, rfl, rfl, rfl, rfl, rfl, rfl, rfl, rfl, rfl, rfl, winders, conveyances, drums, links, skips, rfl, rfl,
    rfl, rfl, rfl, rfl, rfl, rfl, rfl, rfl, rfl, rfl, rfl, rfl, rfl, rfl, rfl⟩

/-! ## The timers that are due (O2) -/

theorem mem_whenDue {b : Bool} {c d : Instr} : d ∈ whenDue b c ↔ b = true ∧ d = c := by
  cases b <;> simp [whenDue]

theorem State.backoffDue_iff {s : State} {w : Winder} :
    s.backoffDue w = true ↔ ∃ e, (s.pipe w).offer = some (.backoff e) ∧ reached s.now e = true := by
  unfold State.backoffDue
  split <;> simp_all

theorem State.settleDue_iff {s : State} {w : Winder} :
    s.settleDue w = true ↔ ∃ x, (s.pipe w).settle = some x ∧ reached s.now x.expiry = true := by
  simp [State.settleDue, Option.any_eq_true]

theorem State.underDue_iff {s : State} {w : Winder} :
    s.underDue w = true ↔ ∃ e, (s.monitor w).underTimer = some e ∧ reached s.now e = true := by
  simp [State.underDue, Option.any_eq_true]

theorem State.stopOverdue_iff {s : State} {w : Winder} :
    s.stopOverdue w = true ↔
      (s.winder w).state = .stopping ∧ ∃ x, (s.winder w).stopStarted = some x ∧ 30000 ≤ (s.now - x).toNat := by
  simp [State.stopOverdue, State.isIn, Option.any_eq_true]
  exact fun _ => Iff.rfl

theorem State.overtime_iff {s : State} {w : Winder} :
    s.overtime w = true ↔ ∃ t, (s.pipe w).active = some t ∧ (s.work.classes.get t.cls).limit * 1000 < t.motionTime := by
  simp [State.overtime, Option.any_eq_true]
  rfl

theorem State.assemblyDue_iff {s : State} :
    s.assemblyDue = true ↔ ∃ a, s.assembly = some a ∧ 20000 ≤ (s.now - a.openedAt).toNat := by
  simp only [State.assemblyDue, Option.any_eq_true, decide_eq_true_eq]
  rfl

theorem State.snapshotDue_iff {s : State} :
    s.snapshotDue = true ↔ ∃ x, s.snapshot = some x ∧ 2000 ≤ (s.now - x.formedAt).toNat := by
  simp only [State.snapshotDue, Option.any_eq_true, decide_eq_true_eq]
  rfl

theorem State.clutchDue_iff {s : State} :
    s.clutchDue = true ↔ ∃ e, s.clutchTimer = some e ∧ reached s.now e = true := by
  simp [State.clutchDue, Option.any_eq_true]

theorem State.inMotion_iff {s : State} {w : Winder} :
    s.inMotion w = true ↔ (s.winder w).state = .running ∨ (s.winder w).state = .stopping := by
  unfold State.inMotion
  cases (s.winder w).state <;> simp [WinderState.isMotion]

/-- In RUNNING and STOPPING a silence is covered by no Note, and outside them by any record of it (R111, log 33). -/
theorem State.silentDue_iff {s : State} {w : Winder} :
    s.silentDue w = true ↔
      if (s.winder w).state = .running ∨ (s.winder w).state = .stopping then
        (s.winder w).silent ≠ .tripRaised ∧ s.work.reportInterval.get w ≤ s.Silence w
      else (s.winder w).silent = .clear ∧ 1000 ≤ s.Silence w := by
  unfold State.silentDue State.silenceUnraised State.allowance State.quiet State.Silence elapsed
  by_cases m : (s.winder w).state = .running ∨ (s.winder w).state = .stopping
  · rw [State.inMotion_iff.mpr m]
    cases (s.winder w).silent <;> simp [m]
  · rw [Bool.eq_false_iff.mpr (mt State.inMotion_iff.mp m)]
    cases (s.winder w).silent <;> simp [m]

/-- An awaited reply that is due gives the timeout of its kind. -/
theorem State.mem_dueReplies {s : State} {w : Winder} {c : Instr} :
    c ∈ s.dueReplies w ↔ ∃ a ∈ (s.drives.get w).awaited, reached s.now a.expiry = true ∧
      c = if a.kind = .grant then .grantReplyTimeout w a.tag else .requestReplyTimeout w a.kind a.tag := by
  simp only [State.dueReplies, List.mem_map, List.mem_filter, replyTimeout]
  exact ⟨fun ⟨a, ⟨m, r⟩, e⟩ => ⟨a, m, r, e.symm⟩, fun ⟨a, m, r, e⟩ => ⟨a, ⟨m, r⟩, e.symm⟩⟩

theorem State.mem_dueEnded {s : State} {w : Winder} {c : Instr} :
    c ∈ s.dueEnded w ↔
      ∃ e ∈ s.ended.get w, 60000 ≤ (s.now - e.at_).toNat ∧ c = .endedCallExpiry w e.id := by
  simp only [State.dueEnded, List.mem_map, List.mem_filter, endedDue, decide_eq_true_eq]
  exact ⟨fun ⟨a, ⟨m, r⟩, e⟩ => ⟨a, m, r, e.symm⟩, fun ⟨a, m, r, e⟩ => ⟨a, ⟨m, r⟩, e.symm⟩⟩

theorem State.isDue_of_mem_dueReplies {s : State} {w : Winder} {c : Instr} (member : c ∈ s.dueReplies w) : s.IsDue c := by
  obtain ⟨a, mem, due, rfl⟩ := State.mem_dueReplies.mp member
  by_cases g : a.kind = .grant
  · rw [if_pos g]
    exact ⟨a, mem, g, rfl, due⟩
  · rw [if_neg g]
    exact ⟨g, a, mem, rfl, rfl, due⟩

theorem State.mem_dueOf {s : State} {w : Winder} {c : Instr} :
    c ∈ s.dueOf w ↔ c ∈ s.dueReplies w ∨ c ∈ s.dueEnded w ∨ (s.backoffDue w = true ∧ c = .backoffEnd w) ∨
      (s.settleDue w = true ∧ c = .settleExpiry w) ∨ (s.underDue w = true ∧ c = .underTimerExpiry w) ∨
      (s.stopOverdue w = true ∧ c = .stopNotAchieved w) ∨ (s.overtime w = true ∧ c = .tripOvertime w) ∨
      (s.silentDue w = true ∧ c = .driveReportTimeout w) := by
  simp only [State.dueOf, List.mem_append, mem_whenDue, or_assoc]

theorem State.isDue_of_mem_dueOf {s : State} {w : Winder} {c : Instr} (member : c ∈ s.dueOf w) : s.IsDue c := by
  rcases State.mem_dueOf.mp member with h | h | ⟨h, rfl⟩ | ⟨h, rfl⟩ | ⟨h, rfl⟩ | ⟨h, rfl⟩ | ⟨h, rfl⟩ | ⟨h, rfl⟩
  · exact State.isDue_of_mem_dueReplies h
  · obtain ⟨e, mem, due, rfl⟩ := State.mem_dueEnded.mp h
    exact ⟨e, mem, rfl, due⟩
  · exact State.backoffDue_iff.mp h
  · exact State.settleDue_iff.mp h
  · exact State.underDue_iff.mp h
  · exact State.stopOverdue_iff.mp h
  · exact State.overtime_iff.mp h
  · exact State.silentDue_iff.mp h

theorem State.mem_dueCommands {s : State} {c : Instr} :
    c ∈ s.dueCommands ↔
      (s.commit.any (fun x => reached s.now x.deadline) = true ∧ c = .commitWriteEnd (Config.storeCheck s.draws)) ∨
      (s.recordWrite.any (fun x => reached s.now x.deadline) = true ∧
        c = .shaftWorkRecordWriteEnd (Config.storeCheck (s.draws + 1))) ∨
      (s.assemblyDue = true ∧ c = .assemblyTimeout) ∨ (s.snapshotDue = true ∧ c = .snapshotExpiry) ∨
      (s.clutchDue = true ∧ c = .clutchTimerExpiry) ∨ ∃ w, c ∈ s.dueOf w := by
  have winders : (∃ w, c ∈ s.dueOf w) ↔ c ∈ s.dueOf .service ∨ c ∈ s.dueOf .rock :=
    ⟨fun ⟨w, h⟩ => (by cases w; exacts [.inl h, .inr h]), fun h => h.elim (⟨_, ·⟩) (⟨_, ·⟩)⟩
  simp only [State.dueCommands, List.mem_append, mem_whenDue, or_assoc, winders]

theorem State.isDue_of_mem_dueCommands {s : State} {c : Instr} (member : c ∈ s.dueCommands) : s.IsDue c := by
  rcases State.mem_dueCommands.mp member with ⟨h, rfl⟩ | ⟨h, rfl⟩ | ⟨h, rfl⟩ | ⟨h, rfl⟩ | ⟨h, rfl⟩ | ⟨w, h⟩
  · exact ⟨rfl, Option.any_eq_true .. |>.mp h⟩
  · exact ⟨rfl, Option.any_eq_true .. |>.mp h⟩
  · exact State.assemblyDue_iff.mp h
  · exact State.snapshotDue_iff.mp h
  · exact State.clutchDue_iff.mp h
  · exact State.isDue_of_mem_dueOf h

/-- A timer of a winder that is due has its command in the winder's list. -/
theorem State.mem_dueCommands_of_dueOf {s : State} {c : Instr} (w : Winder) (h : c ∈ s.dueOf w) : c ∈ s.dueCommands :=
  State.mem_dueCommands.mpr (.inr (.inr (.inr (.inr (.inr ⟨w, h⟩)))))

theorem State.mem_dueCommands_of_isDue {s : State} {c : Instr} (h : s.IsDue c) : c ∈ s.dueCommands := by
  match c, h with
  | .commitWriteEnd _, ⟨rfl, x, e, due⟩ =>
    exact State.mem_dueCommands.mpr (.inl ⟨Option.any_eq_true .. |>.mpr ⟨x, e, due⟩, rfl⟩)
  | .shaftWorkRecordWriteEnd _, ⟨rfl, x, e, due⟩ =>
    exact State.mem_dueCommands.mpr (.inr (.inl ⟨Option.any_eq_true .. |>.mpr ⟨x, e, due⟩, rfl⟩))
  | .assemblyTimeout, h =>
    exact State.mem_dueCommands.mpr (.inr (.inr (.inl ⟨State.assemblyDue_iff.mpr h, rfl⟩)))
  | .snapshotExpiry, h =>
    exact State.mem_dueCommands.mpr (.inr (.inr (.inr (.inl ⟨State.snapshotDue_iff.mpr h, rfl⟩))))
  | .clutchTimerExpiry, h =>
    exact State.mem_dueCommands.mpr (.inr (.inr (.inr (.inr (.inl ⟨State.clutchDue_iff.mpr h, rfl⟩)))))
  | .grantReplyTimeout w _, ⟨a, mem, g, rfl, due⟩ =>
    exact State.mem_dueCommands_of_dueOf w (State.mem_dueOf.mpr (.inl (State.mem_dueReplies.mpr ⟨a, mem, due, (if_pos g).symm⟩)))
  | .requestReplyTimeout w _ _, ⟨g, a, mem, kind, rfl, due⟩ =>
    subst kind
    exact State.mem_dueCommands_of_dueOf w (State.mem_dueOf.mpr (.inl (State.mem_dueReplies.mpr ⟨a, mem, due, (if_neg g).symm⟩)))
  | .endedCallExpiry w _, ⟨e, mem, rfl, due⟩ =>
    exact State.mem_dueCommands_of_dueOf w (State.mem_dueOf.mpr (.inr (.inl (State.mem_dueEnded.mpr ⟨e, mem, due, rfl⟩))))
  | .backoffEnd w, h =>
    exact State.mem_dueCommands_of_dueOf w (State.mem_dueOf.mpr (by simp [State.backoffDue_iff.mpr h]))
  | .settleExpiry w, h =>
    exact State.mem_dueCommands_of_dueOf w (State.mem_dueOf.mpr (by simp [State.settleDue_iff.mpr h]))
  | .underTimerExpiry w, h =>
    exact State.mem_dueCommands_of_dueOf w (State.mem_dueOf.mpr (by simp [State.underDue_iff.mpr h]))
  | .stopNotAchieved w, h =>
    exact State.mem_dueCommands_of_dueOf w (State.mem_dueOf.mpr (by simp [State.stopOverdue_iff.mpr h]))
  | .tripOvertime w, h =>
    exact State.mem_dueCommands_of_dueOf w (State.mem_dueOf.mpr (by simp [State.overtime_iff.mpr h]))
  | .driveReportTimeout w, h =>
    exact State.mem_dueCommands_of_dueOf w (State.mem_dueOf.mpr (by simp [State.silentDue_iff.mpr h]))

/-! ## An idle millisecond (O2) -/

theorem WinderState.countsMotion_iff {x : WinderState} :
    x.countsMotion = true ↔ x = .running ∨ x = .settling ∨ x = .stopping := by
  cases x <;> simp [WinderState.countsMotion]

/-- The motion times of a winder's trip are all that a millisecond of motion changes. -/
theorem State.countMotion_eq (s : State) (w : Winder) :
    s.countMotion w = s.withPipe w (fun p => { p with active := p.active.map (fun a =>
      if (s.winder w).state = .running ∨ (s.winder w).state = .settling ∨ (s.winder w).state = .stopping then
        { a with motionTime := a.motionTime + 1 }
      else a) }) := by
  unfold State.countMotion
  by_cases m : (s.winder w).state.countsMotion = true
  · simp only [if_pos m, if_pos (WinderState.countsMotion_iff.mp m)]
  · simp only [if_neg m, if_neg (mt WinderState.countsMotion_iff.mpr m), Option.map_id_fun', id]
    have same : s.pipes.set w (s.pipe w) = s.pipes := PerWinder.set_get ..
    exact congrArg (fun p => { s with pipes := p }) same.symm

/-- Settles O2. -/
theorem idleStepIsOneMillisecond : Obligations.IdleStepIsOneMillisecond := by
  intro s idle
  have counted : s.tick = { s with
      now := s.now + 1, sent := [], pending := s.tick.pending, draws := s.tick.draws, pipes := s.tick.pipes } := by
    unfold State.tick
    simp only [State.countMotion_eq]
    rfl
  have due : s.tick.pending = ({ s.tick with pending := [], draws := s.draws } : State).dueCommands := by
    unfold State.tick
    simp only [State.countMotion_eq]
    rfl
  refine ⟨s.tick, ?_, counted, due, fun w => ⟨?_, ?_⟩⟩
  · unfold step
    rw [idle]
  · unfold State.tick
    simp only [State.countMotion_eq]
    cases w <;> rfl
  · intro c
    rw [due]
    exact ⟨State.isDue_of_mem_dueCommands, State.mem_dueCommands_of_isDue⟩

/-! ## Requests heard, and requests sent to the drives (O11, O15) -/

/-- Settles O11. -/
theorem arrivalOfARequest : Obligations.ArrivalOfARequest := by
  intro s h k
  have abandoning : s.abandoning h k = true ↔ h.link = .signal ∧ k ≠ .addDeck ∧ k ≠ .closeCall ∧ s.assembly ≠ none := by
    simp [State.abandoning, abandons, Option.isSome_iff_ne_none, and_assoc]
  refine ⟨?_, abandoning⟩
  have left : (if s.abandoning h k = true then none else s.assembly) =
      if h.link = .signal ∧ k ≠ .addDeck ∧ k ≠ .closeCall then none else s.assembly := by
    rw [if_congr abandoning rfl rfl]
    by_cases e : s.assembly = none
    · rw [e, ite_self, ite_self]
    · exact if_congr ⟨fun ⟨a, b, c, _⟩ => ⟨a, b, c⟩, fun ⟨a, b, c⟩ => ⟨a, b, c, e⟩⟩ rfl rfl
  calc s.heard h k
      = { s.begin.frameArrives h.link with
          assembly := if s.abandoning h k = true then none else s.assembly
          snapshot := if h.link = .console then none else s.snapshot } := by
        unfold State.heard State.takeRequest
        rw [State.dropSnapshot_eq, State.abandonIf_eq, State.frameArrives_eq]
        rfl
    _ = _ := by
        rw [left, State.frameArrives_eq]
        rfl

/-- The trip and leg last granted under a tag (R86). -/
theorem State.grantOf_congr {s t : State} {w : Winder} (h : (s.drives.get w).grants = (t.drives.get w).grants) (tag : Nat) :
    s.grantOf w tag = t.grantOf w tag := by
  unfold State.grantOf
  rw [h]

theorem State.sendOrder_drive (s : State) (w : Winder) (o : Order) :
    (s.sendOrder w o).drives.get w = (s.drives.get w).send s.now o := PerWinder.get_set_self ..

/-- A GRANT takes the place of an earlier one of the same tag (R86). -/
theorem DriveLink.send_grant_find (d : DriveLink) (now : Time) (trip leg speed decel : Nat) (drums : List GrantDrum) (tag : Nat) :
    (d.send now (.grant trip leg speed decel drums)).grants.find? (fun g => g.tag == tag) =
      if tag = d.tagCount then some ⟨d.tagCount, trip, leg⟩ else d.grants.find? (fun g => g.tag == tag) := by
  unfold DriveLink.send
  dsimp only
  rw [List.find?_append, List.find?_filter]
  by_cases e : tag = d.tagCount
  · have earlier : d.grants.find? (fun g => decide ((g.tag != d.tagCount) = true ∧ (g.tag == tag) = true)) = none :=
      List.find?_eq_none.mpr (fun g _ => by simp [e])
    rw [earlier, if_pos e]
    simp [e]
  · have other : (fun g : GrantSent => decide ((g.tag != d.tagCount) = true ∧ (g.tag == tag) = true)) = (fun g => g.tag == tag) := by
      funext g
      by_cases k : g.tag = tag
      · simp [k, e]
      · simp [k]
    rw [other, if_neg e]
    simp [Ne.symm e]

theorem State.grantOf_sendOrder_grant (s : State) (w : Winder) (trip leg speed decel : Nat) (drums : List GrantDrum) (tag : Nat) :
    (s.sendOrder w (.grant trip leg speed decel drums)).grantOf w tag =
      if tag = (s.drives.get w).tagCount then (trip, leg) else s.grantOf w tag := by
  unfold State.grantOf
  rw [State.sendOrder_drive, DriveLink.send_grant_find]
  by_cases e : tag = (s.drives.get w).tagCount
  · rw [if_pos e, if_pos e]
  · rw [if_neg e, if_neg e]

theorem DriveLink.send_grants_of_not_grant (d : DriveLink) (now : Time) {o : Order}
    (h : ∀ trip leg speed decel drums, o ≠ .grant trip leg speed decel drums) : (d.send now o).grants = d.grants := by
  cases o with
  | grant => exact absurd rfl (h _ _ _ _ _)
  | grantVoid | slow | resume | stop | brake | clutchOpen | clutchClose => rfl

/-- Settles O15. -/
theorem requestsToTheDriveAreTagged : Obligations.RequestsToTheDriveAreTagged := by
  intro s w o
  have others : ∀ v, v ≠ w → (s.sendOrder w o).drives.get v = s.drives.get v := fun v h => PerWinder.get_set_ne _ _ h
  rw [State.sendOrder_drive]
  refine ⟨rfl, rfl, rfl, ?_, ?_, ?_, rfl, others⟩
  · rintro trip leg speed decel drums tag rfl
    exact s.grantOf_sendOrder_grant w trip leg speed decel drums tag
  · intro tag h
    refine State.grantOf_congr ?_ tag
    rw [State.sendOrder_drive]
    exact DriveLink.send_grants_of_not_grant _ _ h
  · intro v tag h
    exact State.grantOf_congr (congrArg _ (others v h)) tag

end Sys2Proof.Machine

/-! PROOFS. Reception, the screen, and the frames that are no listed request (O12, O13, O14, O16). -/

namespace Sys2Proof.Machine

/-! ## What a request does once it is screened -/

theorem screen_eq_turnedAway (s : State) (h : Head) (k : Kind) (n : Nat) (w : Option Nat) :
    screen (s.heard h k) h k n w = s.turnedAway h k n w := by
  unfold screen State.turnedAway
  simp [Option.isSome_iff_ne_none, and_assoc]

theorem State.admits_iff {s : State} {h : Head} {k : Kind} {n : Nat} {w : Option Nat} :
    s.admits h k n w ↔ s.turnedAway h k n w = none := by
  unfold State.admits
  rw [screen_eq_turnedAway]

/-- A request that its screen lets pass is answered as its block answers it. -/
theorem State.answers_of_request {s t : State} {c : Instr} {h : Head} {k : Kind} {n : Nat} {w : Option Nat}
    {act : State → State × (Code × Answer)} {r : Code × Answer} (runs : exec c s = .next (request s h k n w act))
    (a : s.admits h k n w) (e : act (s.heard h k) = (t, r)) : s.Answers c h k t r := by
  unfold State.Answers
  rw [runs, request_admitted a, e]

theorem State.answers_of_winderRequest {s t : State} {c : Instr} {h : Head} {k : Kind} {n code : Nat} {w : Winder}
    {act : Winder → State → State × (Code × Answer)} {r : Code × Answer} (hw : winderCode code = some w)
    (runs : exec c s = .next (winderRequest s h k n code act)) (a : s.admits h k n (some code))
    (e : act w (s.heard h k) = (t, r)) : s.Answers c h k t r := by
  unfold State.Answers
  rw [runs, winderRequest_admitted hw a, e]

/-- A request that its screen turns away is a read that answers what the screen does. -/
theorem State.reads_of_turnedAway {s : State} {c : Instr} {h : Head} {k : Kind} {n : Nat} {w : Option Nat}
    {act : State → State × (Code × Answer)} {code : Code} (runs : exec c s = .next (request s h k n w act))
    (a : s.turnedAway h k n w = some code) : s.Reads c h k (code, .nothing) := by
  unfold State.Reads State.Answers
  rw [runs, request_turnedAway ((screen_eq_turnedAway ..).trans a)]

/-- The kinds whose requests read in pages (R171). -/
def Paged (k : Kind) : Prop := k = .readQueue ∨ k = .readFaults ∨ k = .readPosition

theorem Paged.clear {k : Kind} (h : Paged k) :
    (k == .addDeck || k == .closeCall) = false ∧ k ≠ .winderReset := by
  rcases h with rfl | rfl | rfl <;> exact ⟨rfl, nofun⟩

theorem State.takeRequest_eq_heard (s : State) (h : Head) (k : Kind) :
    s.takeRequest h k = { s.heard h k with snapshot := s.snapshot } := by
  unfold State.heard
  rw [State.dropSnapshot_eq]
  unfold State.takeRequest State.abandonIf
  split <;> rfl

theorem pageRequest_turnedAway {s : State} {h : Head} {k : Kind} {n : Nat} {w : Option Nat} {code : Code} (paged : Paged k)
    (a : s.turnedAway h k n w = some code) (act : State → State × (Code × Answer)) :
    pageRequest s h k n w act = s.answering (s.heard h k) h k (code, .nothing) := by
  obtain ⟨adds, reset⟩ := paged.clear
  have screened : screen (s.takeRequest h k) h k n w = some code := by
    rw [← screen_dropSnapshot _ h.link]
    exact (screen_eq_turnedAway ..).trans a
  unfold pageRequest State.answering State.abandoning
  dsimp only
  rw [screened, adds, blockAbandons_of_ne reset, Bool.or_false]
  rfl

theorem pageRequest_eq {s : State} {h : Head} {k : Kind} (paged : Paged k) (n : Nat) (w : Option Nat)
    (act : State → State × (Code × Answer)) :
    pageRequest s h k n w act =
      match s.turnedAway h k n w with
      | some code => s.answering (s.heard h k) h k (code, .nothing)
      | none =>
        s.answering (act { s.heard h k with snapshot := s.snapshot }).1 h k (act { s.heard h k with snapshot := s.snapshot }).2 := by
  cases a : s.turnedAway h k n w with
  | some code => exact pageRequest_turnedAway paged a act
  | none =>
    rw [pageRequest_admitted (State.admits_iff.mpr a) paged.clear.1 paged.clear.2, State.takeRequest_eq_heard]

theorem request_eq (s : State) (h : Head) (k : Kind) (n : Nat) (w : Option Nat) (act : State → State × (Code × Answer)) :
    request s h k n w act =
      match s.turnedAway h k n w with
      | some code => s.answering (s.heard h k) h k (code, .nothing)
      | none => s.answering (act (s.heard h k)).1 h k (act (s.heard h k)).2 := by
  cases a : s.turnedAway h k n w with
  | some code => exact request_turnedAway ((screen_eq_turnedAway ..).trans a) act
  | none => exact request_admitted (State.admits_iff.mpr a) act

theorem driveRequest_eq (s : State) (h : Head) (k : Kind) (n : Nat) (answer : State → Code × Answer) (act : State → State) :
    driveRequest s h k n answer act =
      match s.turnedAway h k n none with
      | some code => s.answering (s.heard h k) h k (code, .nothing)
      | none => act (s.answering (s.heard h k) h k (answer (s.heard h k))) := by
  cases a : s.turnedAway h k n none with
  | some code => exact driveRequest_turnedAway ((screen_eq_turnedAway ..).trans a) answer act
  | none => exact driveRequest_admitted (State.admits_iff.mpr a) answer act

theorem State.reads_of_driveTurnedAway {s : State} {c : Instr} {h : Head} {k : Kind} {n : Nat} {answer : State → Code × Answer}
    {act : State → State} {code : Code} (runs : exec c s = .next (driveRequest s h k n answer act))
    (a : s.turnedAway h k n none = some code) : s.Reads c h k (code, .nothing) := by
  unfold State.Reads State.Answers
  rw [runs, driveRequest_turnedAway ((screen_eq_turnedAway ..).trans a)]

theorem State.reads_of_pageTurnedAway {s : State} {c : Instr} {h : Head} {k : Kind} {n : Nat} {w : Option Nat}
    {act : State → State × (Code × Answer)} {code : Code} (paged : Paged k)
    (runs : exec c s = .next (pageRequest s h k n w act)) (a : s.turnedAway h k n w = some code) :
    s.Reads c h k (code, .nothing) := by
  unfold State.Reads State.Answers
  rw [runs, pageRequest_turnedAway paged a]

/-! ## Codes that name nothing -/

theorem winderCode_of_le {n : Nat} (h : 2 ≤ n) : winderCode n = none := by
  match n, h with
  | _ + 2, _ => rfl

theorem skipCode_of_le {n : Nat} (h : 2 ≤ n) : skipCode n = none := by
  match n, h with
  | _ + 2, _ => rfl

theorem withRead_unread {α : Type} {o : Presence α} (h : o.read = none) (act : Option α → State → State × (Code × Answer))
    (s : State) : withRead o act s = (s, refuse .outOfRange) := by
  unfold withRead
  rw [h]

/-- Of two fields, either that does not read refuses the request. -/
theorem withRead_either_unread {α β : Type} {o : Presence α} {p : Presence β} (h : o.read = none ∨ p.read = none)
    (act : Option α → Option β → State → State × (Code × Answer)) (s : State) :
    withRead o (fun a => withRead p (act a)) s = (s, refuse .outOfRange) := by
  cases e : o.read with
  | none => exact withRead_unread e _ _
  | some a =>
    have unread : p.read = none := h.resolve_left (by simp [e])
    calc withRead o (fun a => withRead p (act a)) s
        = withRead p (act a) s := by
          unfold withRead
          rw [e]
      _ = _ := withRead_unread unread _ _

theorem takeCloseCall_unread {l : Link} {riders : Presence (List Nat)} {payload : Presence Nat} {s : State} {a : Assembly}
    (h : riders.read = none ∨ payload.read = none) (opened : s.assembly = some a) (decks : a.decks ≠ []) :
    takeCloseCall l riders payload s = ({ s with assembly := none }, refuse .outOfRange) := by
  unfold takeCloseCall
  rw [opened]
  dsimp only
  rw [if_neg (by simpa using decks)]
  rcases h with h | h
  · rw [h]
  · rw [h]
    cases riders.read <;> rfl

theorem State.heard_assembly_of_closeCall (s : State) (h : Head) : (s.heard h .closeCall).assembly = s.assembly := by
  unfold State.heard
  rw [State.dropSnapshot_eq]
  show (s.takeRequest h .closeCall).assembly = s.assembly
  unfold State.takeRequest abandons
  rw [State.abandonIf_eq]
  simp
  rfl

/-- Settles O12. -/
theorem screenOrder : Obligations.ScreenOrder := by
  refine ⟨fun s h k length winder => ⟨screen_eq_turnedAway .., fun act => request_eq s h k length winder act,
      fun paged act => pageRequest_eq paged length winder act, fun answer act => driveRequest_eq s h k length answer act⟩,
    fun s h code => ⟨?_, ?_, ?_, ?_, ?_, ?_⟩, ⟨?_, ?_⟩, fun s h => ⟨?_, ?_, ?_, ?_, ?_, ?_⟩⟩
  · exact fun n first a => State.reads_of_pageTurnedAway (.inl rfl) rfl a
  · exact fun first a => State.reads_of_pageTurnedAway (.inr (.inl rfl)) rfl a
  · exact fun first a => State.reads_of_pageTurnedAway (.inr (.inr rfl)) rfl a
  · exact fun b a => State.reads_of_driveTurnedAway rfl a
  · intro trip leg a
    cases e : driveWinder h.link with
    | none => exact State.reads_of_driveTurnedAway (by show execLegComplete h trip leg s = _; unfold execLegComplete; rw [e]) a
    | some w => exact State.reads_of_driveTurnedAway (by show execLegComplete h trip leg s = _; unfold execLegComplete; rw [e]) a
  · intro fault a
    cases e : driveWinder h.link with
    | none => exact State.reads_of_driveTurnedAway (by show execDriveFault h fault s = _; unfold execDriveFault; rw [e]) a
    | some w => exact State.reads_of_driveTurnedAway (by show execDriveFault h fault s = _; unfold execDriveFault; rw [e]) a
  · intro s h k length n act large a
    unfold winderRequest
    rw [request_admitted a, winderCode_of_le large]
    rfl
  · exact fun s h n large a => State.answers_of_request rfl a (by rw [skipCode_of_le large]; rfl)
  · intro n k decks riders payload p unread
    refine ⟨fun a => ?_, fun a x opened open_ => ?_, fun a => ?_⟩
    · exact State.answers_of_request rfl a (withRead_either_unread unread _ _)
    · exact State.answers_of_request rfl a
        (takeCloseCall_unread unread ((s.heard_assembly_of_closeCall h).trans opened) open_)
    · exact State.answers_of_request rfl a (withRead_either_unread unread _ _)
  · exact fun number k mask upper lower cap label unread a =>
      State.answers_of_request rfl a (withRead_either_unread unread _ _)
  · exact fun pitch span unread a => State.answers_of_request rfl a (withRead_either_unread unread _ _)
  · exact fun n depth window decks flag unread a => State.answers_of_request rfl a (withRead_unread unread _ _)
  · exact fun n depth window unread a => State.answers_of_request rfl a (withRead_either_unread unread _ _)
  · exact fun n contents mass unread a => State.answers_of_request rfl a (withRead_unread unread _ _)

/-! ## Reception (O13) -/

theorem receiveBytes_append (r : Reception) (a b : List RxByte) :
    receiveBytes r (a ++ b) =
      ((receiveBytes (receiveBytes r a).1 b).1, (receiveBytes r a).2 ++ (receiveBytes (receiveBytes r a).1 b).2) := by
  induction a generalizing r with
  | nil => rfl
  | cons x rest ih =>
    simp only [List.cons_append, receiveBytes]
    rw [ih]
    dsimp only
    by_cases e : (receiveByte r x).2 = .nothing
    · simp only [if_pos e]
    · simp only [if_neg e, List.cons_append]

/-- The bytes of a frame that come in time are gathered until its last one (R165). -/
theorem receiveBytes_gathers (got bytes : List Byte) {n : Nat} (short : n ≤ 96) (head : ((got ++ bytes).headD 0#8).toNat = n)
    (more : (got ++ bytes).length < 3 + n + 2) :
    receiveBytes (.inFrame got) (bytes.map (RxByte.mk false)) = (.inFrame (got ++ bytes), []) := by
  induction bytes generalizing got with
  | nil => simp [receiveBytes]
  | cons b rest ih =>
    have split : got ++ b :: rest = (got ++ [b]) ++ rest := by simp
    have front : ((got ++ [b]).headD 0#8).toNat = n := by
      rw [← head, split]
      cases got <;> rfl
    have one : receiveByte (.inFrame got) ⟨false, b⟩ = (.inFrame (got ++ [b]), .nothing) := by
      have long : (got ++ [b]).length < 3 + n + 2 := by
        rw [split, List.length_append] at more
        omega
      unfold receiveByte
      dsimp only
      rw [front, if_neg (by simp), if_neg (by omega), if_pos long]
    rw [split] at head more ⊢
    simp only [List.map_cons, receiveBytes, one, ih _ head more, if_true]

theorem crcHolds_append (bytes : List Byte) (x y : Byte) :
    crcHolds (bytes ++ [x] ++ [y]) = ([x, y] == [(crcOf bytes).extractLsb' 8 8, (crcOf bytes).extractLsb' 0 8]) := by
  unfold crcHolds
  simp

/-- The last byte of a frame ends it, whole or damaged by its CRC (R165). -/
theorem receiveByte_last {bytes : List Byte} {n : Nat} (short : n ≤ 96) (head : (bytes.headD 0#8).toNat = n)
    (length : bytes.length = 3 + n) (x y : Byte) :
    receiveByte (.inFrame (bytes ++ [x])) ⟨false, y⟩ =
      (.hunting, if crcHolds (bytes ++ [x] ++ [y]) then .frame (bytes ++ [x] ++ [y]) else .damaged) := by
  have front : ((bytes ++ [x] ++ [y]).headD 0#8).toNat = n := by
    rw [← head]
    match bytes, length with
    | b :: rest, _ => rfl
    | [], h => exact absurd h (by rw [List.length_nil]; omega)
  unfold receiveByte
  dsimp only
  rw [front, if_neg (by simp), if_neg (by omega), if_neg (by simp; omega)]
  split <;> rfl

theorem crcBit_eq (r : BitVec 16) (d : Bool) :
    crcBit r d = (r <<< 1) ^^^ (if r.getLsbD 15 = d then 0#16 else 1#16 <<< 12 ||| 1#16 <<< 5 ||| 1#16) := by
  have top : r.msb = r.getLsbD 15 := BitVec.msb_eq_getLsbD_last r
  unfold crcBit
  rw [top]
  cases r.getLsbD 15 <;> cases d <;> simp

theorem crcOf_append_singleton (bytes : List Byte) (b : Byte) :
    crcOf (bytes ++ [b]) = [7, 6, 5, 4, 3, 2, 1, 0].foldl (fun r i => crcBit r (b.getLsbD i)) (crcOf bytes) := by
  unfold crcOf
  rw [List.foldl_append]
  rfl

/-- The bytes that a frame's CRC covers: its length, kind, tag and body (R165). -/
def coveredBytes (kind tag : Nat) (body : List Byte) : List Byte := u8 body.length ++ u8 kind ++ u8 tag ++ body

theorem coveredBytes_head (kind tag : Nat) {body : List Byte} (short : body.length ≤ 96) :
    ((coveredBytes kind tag body).headD 0#8).toNat = body.length := by
  show (BitVec.ofNat 8 body.length).toNat = body.length
  rw [BitVec.toNat_ofNat]
  omega

theorem coveredBytes_length (kind tag : Nat) (body : List Byte) : (coveredBytes kind tag body).length = 3 + body.length := by
  simp [coveredBytes, u8]
  omega

theorem receiveBytes_begun (kind tag : Nat) {body : List Byte} (short : body.length ≤ 96) (hi : Byte) :
    receiveBytes .hunting ((0xA5#8 :: coveredBytes kind tag body ++ [hi]).map (RxByte.mk false)) =
      (.inFrame (coveredBytes kind tag body ++ [hi]), []) := by
  have gathered := receiveBytes_gathers [] (coveredBytes kind tag body ++ [hi]) short
    (coveredBytes_head kind tag short)
    (by simp [coveredBytes_length])
  rw [List.cons_append, List.map_cons]
  unfold receiveBytes
  rw [show receiveByte .hunting ⟨false, 0xA5#8⟩ = (.inFrame [], .nothing) from rfl]
  dsimp only
  rw [gathered]
  rfl

theorem receiveBytes_ended (kind tag : Nat) {body : List Byte} (short : body.length ≤ 96) (hi lo : Byte) :
    receiveBytes .hunting ((0xA5#8 :: coveredBytes kind tag body ++ [hi]).map (RxByte.mk false) ++ [⟨false, lo⟩]) =
      (.hunting, [if crcHolds (coveredBytes kind tag body ++ [hi] ++ [lo]) then
        .frame (coveredBytes kind tag body ++ [hi] ++ [lo]) else .damaged]) := by
  rw [receiveBytes_append, receiveBytes_begun kind tag short]
  simp only [receiveBytes]
  rw [receiveByte_last short (coveredBytes_head kind tag short) (coveredBytes_length ..)]
  split <;> simp

/-- Settles O13. -/
theorem framesAreReceivedByTheirCrc : Obligations.FramesAreReceivedByTheirCrc := by
  refine ⟨fun kind tag body short => ⟨?_, receiveBytes_begun kind tag short _, ?_, fun b wrong => ?_⟩,
    fun bytes late b => ⟨rfl, rfl, fun long => ?_⟩, rfl, fun bytes b => ?_⟩
  · simp [frameBytes]
  · refine (receiveBytes_ended kind tag short _ _).trans ?_
    rw [if_pos (by rw [crcHolds_append]; exact beq_self_eq_true _)]
    rfl
  · refine (receiveBytes_ended kind tag short _ _).trans ?_
    rw [if_neg (by rw [crcHolds_append]; simpa [coveredBytes] using wrong)]
  · show (if 96 < b.toNat then _ else _) = _
    rw [if_pos long]
  · rw [crcOf_append_singleton]
    simp only [crcBit_eq]

/-! ## Frames at the ports (O14) -/

/-- A damaged frame counts as one; the ends of a run that are all damaged count together (R162). -/
theorem State.foldl_takeReceived_damaged (l : Link) (ends : List Received) (all : ∀ x ∈ ends, x = .damaged) (s : State) :
    ends.foldl (fun s x => s.takeReceived l x) s =
      if ends = [] then s else s.countFrameErrors l ends.length := by
  induction ends generalizing s with
  | nil => rfl
  | cons x rest ih =>
    obtain rfl : x = .damaged := all x List.mem_cons_self
    have rise : (s.countFrameErrors l 1).countFrameErrors l rest.length = s.countFrameErrors l (rest.length + 1) := by
      unfold State.countFrameErrors saturate
      simp only [PerLink.get_set_self, PerLink.set_set]
      congr 2
      omega
    rw [List.foldl_cons, ih (fun x k => all x (List.mem_cons_of_mem _ k))]
    show (if rest = [] then s.countFrameErrors l 1 else _) = _
    rw [if_neg (List.cons_ne_nil _ _), List.length_cons]
    by_cases e : rest = []
    · rw [if_pos e, e]
      rfl
    · rw [if_neg e]
      exact rise

theorem Port.hear_eq (p : Port) (now : Time) (bytes : List RxByte) :
    p.hear now bytes =
      bytes.modifyHead (fun x => ⟨x.late || decide (2 ≤ (now - p.lastByteAt).toNat), x.byte⟩) := by
  cases bytes <;> rfl

/-- Every request that a frame can spell is taken as `exec` takes it. -/
theorem execFrame_requestOf (h : Head) (k : Kind) (b : List Byte) (s : State) :
    execFrame (requestOf h k b) s = exec (requestOf h k b) s := by
  cases k <;> rfl

theorem execFrame_readDriveReply (w : Winder) (k : Kind) (tag code : Nat) (s : State) :
    execFrame (readDriveReply w k tag code) s = exec (readDriveReply w k tag code) s := by
  cases k <;> rfl

theorem execFrame_readFrame (l : Link) (f : List Byte) (s : State) : execFrame (readFrame l f) s = exec (readFrame l f) s := by
  unfold readFrame
  dsimp only
  split
  · unfold readReply
    split
    · exact execFrame_readDriveReply ..
    · rfl
    · rfl
  · unfold readRequestFrame
    split
    · exact execFrame_requestOf ..
    · rfl

theorem isReplyKind_kindNumber (k : Kind) : isReplyKind (kindNumber k) = false := by
  cases k <;> rfl

theorem isReplyKind_of_request (k : Kind) : isReplyKind (kindNumber k + 128) = true := by
  cases k <;> rfl

theorem kindOf_kindNumber (k : Kind) : kindOf (kindNumber k) = some k := by
  cases k <;> rfl

/-- A number that the catalogue does not list on a link names no kind that may come there (R167). -/
theorem kindOf_filter_unlisted {number : Nat} {l : Link} (h : kindNumberListed number l = false) :
    (kindOf number).filter (fun k => kindListed k l) = none := by
  rw [Option.filter_eq_none_iff]
  intro k e listed
  have named := List.find?_some e
  have member := List.mem_of_find?_eq_some e
  have found : kindNumberListed number l = true :=
    List.any_eq_true.mpr ⟨k, member, Bool.and_eq_true_iff.mpr ⟨named, listed⟩⟩
  rw [h] at found
  cases found

/-- The fields of a frame as `readFrame` finds them. -/
theorem readFrame_covered (l : Link) {number tag : Nat} {body : List Byte} (n : number < 256) (t : tag < 256)
    (short : body.length ≤ 96) (hi lo : Byte) :
    readFrame l (u8 body.length ++ u8 number ++ u8 tag ++ body ++ [hi] ++ [lo]) =
      if isReplyKind number then readReply l number tag body else readRequestFrame l number tag body := by
  have kind : byteAt (u8 body.length ++ u8 number ++ u8 tag ++ body ++ [hi] ++ [lo]) 1 = number := by
    simp [byteAt, u8]
    omega
  have tagged : byteAt (u8 body.length ++ u8 number ++ u8 tag ++ body ++ [hi] ++ [lo]) 2 = tag := by
    simp [byteAt, u8]
    omega
  have length : byteAt (u8 body.length ++ u8 number ++ u8 tag ++ body ++ [hi] ++ [lo]) 0 = body.length := by
    simp [byteAt, u8]
    omega
  have held : ((u8 body.length ++ u8 number ++ u8 tag ++ body ++ [hi] ++ [lo]).drop 3).take body.length = body := by
    simp [u8]
  unfold readFrame
  dsimp only
  rw [kind, tagged, length, held]

theorem Port.lastAfter_eq (p : Port) (now : Time) (bytes : List RxByte) :
    p.lastAfter now bytes = if bytes = [] then p.lastByteAt else now := by
  cases bytes <;> rfl

/-- DAMAGED_FRAME whose bytes end damaged frames alone (R162, R165). -/
theorem State.takeBytes_damaged {s : State} {l : Link} {bytes : List RxByte} {r : Reception} {ends : List Received}
    (received : receiveBytes (s.ports.get l).reception ((s.ports.get l).hear s.now bytes) = (r, ends))
    (all : ∀ x ∈ ends, x = .damaged) :
    s.begin.takeBytes l bytes =
      { s with
        sent := []
        frameErrors :=
          if ends = [] then s.frameErrors else s.frameErrors.set l (saturate (s.frameErrors.get l + ends.length))
        ports := s.ports.set l ⟨r, if bytes = [] then (s.ports.get l).lastByteAt else s.now⟩ } := by
  unfold State.takeBytes
  dsimp only
  rw [show receiveBytes (s.begin.ports.get l).reception ((s.begin.ports.get l).hear s.begin.now bytes) = (r, ends) from received]
  dsimp only
  rw [State.foldl_takeReceived_damaged l ends all]
  by_cases e : ends = []
  · simp only [if_pos e, PerLink.set_set, Port.lastAfter_eq]
    rfl
  · simp only [if_neg e, State.countFrameErrors, PerLink.set_set, Port.lastAfter_eq]
    rfl

/-- DAMAGED_FRAME whose bytes end one whole frame: the frame is taken as its command (R166). -/
theorem State.takeBytes_frame {s t : State} {l : Link} {bytes : List RxByte} {r : Reception} {f : List Byte}
    (received : receiveBytes (s.ports.get l).reception ((s.ports.get l).hear s.now bytes) = (r, [.frame f]))
    (taken : exec (readFrame l f) { s with sent := [], ports := s.ports.set l ⟨.hunting, s.now⟩ } = .next t) :
    s.begin.takeBytes l bytes = { t with ports := t.ports.set l ⟨r, t.now⟩ } := by
  have came : bytes ≠ [] := by
    rintro rfl
    cases received
  unfold State.takeBytes
  dsimp only
  rw [show receiveBytes (s.begin.ports.get l).reception ((s.begin.ports.get l).hear s.begin.now bytes) = (r, [.frame f])
    from received]
  simp only [List.foldl_cons, List.foldl_nil, State.takeReceived]
  rw [execFrame_readFrame, show exec (readFrame l f) { s.begin with ports := s.begin.ports.set l ⟨.hunting, s.begin.now⟩ } = .next t
    from taken]
  simp only [Port.lastAfter_eq, if_neg came]
  rfl

/-- Settles O14. -/
theorem framesThatAreNoListedRequest : Obligations.FramesThatAreNoListedRequest := by
  intro s l
  refine ⟨fun bytes r ends received all => ?_, fun bytes r f received => ?_, fun number tag body hi lo n t short => ?_,
    fun kind tag => ?_, fun kind tag => ?_⟩
  · refine congrArg Host.Outcome.next (State.takeBytes_damaged ?_ all)
    rw [Port.hear_eq]
    exact received
  · obtain ⟨t, taken, _⟩ := everyCommandCompletes (readFrame l f) { s with sent := [], ports := s.ports.set l ⟨.hunting, s.now⟩ }
    refine ⟨t, taken, congrArg Host.Outcome.next (State.takeBytes_frame ?_ taken)⟩
    rw [Port.hear_eq]
    exact received
  · intro command
    have read := readFrame_covered l n t short hi lo
    refine ⟨fun k named listed => read.trans ?_, fun request unlisted => read.trans ?_, fun reply console => read.trans ?_,
      fun k w named drive => read.trans ?_⟩
    · subst named
      rw [isReplyKind_kindNumber, if_neg Bool.false_ne_true]
      unfold readRequestFrame
      rw [kindOf_kindNumber, Option.filter_some, if_pos listed]
    · rw [request, if_neg Bool.false_ne_true]
      unfold readRequestFrame
      rw [kindOf_filter_unlisted unlisted]
    · rw [if_pos reply]
      unfold readReply
      rw [console]
    · subst named
      rw [if_pos (isReplyKind_of_request k)]
      unfold readReply
      rw [drive, Nat.add_sub_cancel, kindOf_kindNumber]
      cases body <;> rfl
  · show Host.Outcome.next (s.begin.frameArrives l) = _
    rw [State.frameArrives_eq]
    rfl
  · show Host.Outcome.next (State.reply ((((s.begin.frameArrives l).abandonIf (abandons s l false)).dropSnapshot l)) ..) = _
    rw [State.frameArrives_eq, State.abandonIf_eq, State.dropSnapshot_eq]
    have left : (if abandons s l false = true then none else s.assembly) = if l = .signal then none else s.assembly := by
      by_cases e : l = .signal
      · cases o : s.assembly <;> simp [abandons, e, o]
      · simp [abandons, e]
    have flag : abandons s l false = (l == .signal && s.assembly.isSome) := by simp [abandons]
    unfold State.reply State.emit State.begin
    dsimp only
    rw [left, flag]
    rfl

/-! ## The replies that only empty the awaited list (O16) -/

theorem State.takeReply_eq (s : State) (w : Winder) (k : Kind) (tag : Nat) : s.takeReply w k tag = s.replyMatched w k tag := by
  unfold State.takeReply State.replyMatched
  rw [State.frameArrives_eq]
  rfl

theorem State.awaitedExpired_iff {s : State} {w : Winder} {k : Kind} {tag : Nat} :
    s.awaitedExpired w k tag = true ↔
      ∃ a ∈ (s.drives.get w).awaited, a.kind = k ∧ a.tag = tag ∧ reached s.now a.expiry = true := by
  simp [State.awaitedExpired, and_assoc]

/-- Settles O16. -/
theorem otherRepliesHaveNoFurtherEffect : Obligations.OtherRepliesHaveNoFurtherEffect := by
  intro s w tag code
  refine ⟨?_, fun n => ?_, fun o => ?_, fun k _ => ?_⟩
  · exact congrArg Host.Outcome.next (s.takeReply_eq w .grantVoid tag)
  · exact congrArg Host.Outcome.next (s.takeReply_eq w (noticeKind n) tag)
  · exact congrArg Host.Outcome.next (s.takeReply_eq w (clutchKind o) tag)
  · refine congrArg Host.Outcome.next ?_
    by_cases due : ∃ a ∈ (s.drives.get w).awaited, a.kind = k ∧ a.tag = tag ∧ reached s.now a.expiry = true
    · rw [if_pos due, if_pos ((State.awaitedExpired_iff (s := s.begin)).mpr due)]
      rfl
    · rw [if_neg due, if_neg (mt (State.awaitedExpired_iff (s := s.begin)).mp due)]
      rfl

end Sys2Proof.Machine

/-! PROOFS. The reads: the settings, the part's condition, the long reads in pages, and QUERY CALL (O17 to O20). -/

namespace Sys2Proof.Machine

/-! ## What a read finds -/

/-- The arrival of a request in one equation: what it changes beside the frames sent and the port is the assembly and the page
snapshot. -/
theorem State.heard_eq (s : State) (h : Head) (k : Kind) :
    s.heard h k =
      { s with
        sent := []
        ports := s.ports.set h.link ⟨.hunting, s.now⟩
        frameErrors := s.frameErrors.set h.link
          (saturate (s.frameErrors.get h.link + (if (s.ports.get h.link).reception = .hunting then 0 else 1)))
        assembly := if h.link = .signal ∧ k ≠ .addDeck ∧ k ≠ .closeCall then none else s.assembly
        snapshot := if h.link = .console then none else s.snapshot } :=
  (arrivalOfARequest s h k).1

theorem State.isIn_iff {s : State} {w : Winder} {x : WinderState} : s.isIn w x = true ↔ (s.winder w).state = x :=
  beq_iff_eq

/-- A read is answered from the state that it finds. -/
theorem State.reads_of_readRequest {s : State} {c : Instr} {h : Head} {k : Kind} {n : Nat} {w : Option Nat}
    {answer : State → Code × Answer} {r : Code × Answer} (runs : exec c s = .next (readRequest s h k n w answer))
    (a : s.admits h k n w) (e : answer (s.heard h k) = r) : s.Reads c h k r :=
  State.answers_of_request runs a (congrArg (Prod.mk (s.heard h k)) e)

theorem State.reads_of_winderRequest {s : State} {c : Instr} {h : Head} {k : Kind} {n code : Nat} {w : Winder}
    {answer : Winder → State → Code × Answer} {r : Code × Answer} (hw : winderCode code = some w)
    (runs : exec c s = .next (winderRequest s h k n code (fun w t => (t, answer w t)))) (a : s.admits h k n (some code))
    (e : answer w (s.heard h k) = r) : s.Reads c h k r :=
  State.answers_of_winderRequest hw runs a (congrArg (Prod.mk (s.heard h k)) e)

theorem stationCode_of_lt {n : Nat} (h : n < 16) : stationCode n = some ⟨n, h⟩ := dif_pos h

theorem stationCode_of_not_lt {n : Nat} (h : ¬n < 16) : stationCode n = none := dif_neg h

/-- Settles O17. -/
theorem settingsReadsAnswer : Obligations.SettingsReadsAnswer := by
  intro s h
  refine ⟨fun a => ?_, fun n a => ?_, fun n a => ?_, fun n a => ?_, fun a => ?_, fun id a => ?_, fun a => ?_, fun n a => ?_⟩
  · exact State.reads_of_readRequest rfl a (by rw [State.heard_eq]; rfl)
  · refine State.reads_of_readRequest rfl a ?_
    rw [State.heard_eq]
    by_cases inTable : n < 16
    · rw [stationCode_of_lt inTable, dif_pos inTable]
      rfl
    · rw [stationCode_of_not_lt inTable, dif_neg inTable]
      rfl
  · refine State.reads_of_readRequest rfl a ?_
    rw [State.heard_eq]
    cases rockPointCode n <;> rfl
  · refine State.reads_of_readRequest rfl a ?_
    rw [State.heard_eq]
    cases classCode n <;> rfl
  · exact State.reads_of_readRequest rfl a (by rw [State.heard_eq]; rfl)
  · refine State.reads_of_readRequest rfl a ?_
    rw [State.heard_eq]
    show (match s.work.markers.find? (fun m => m.id == id) with | some m => doneWith (.marker m) | none => refuse .noSuchMarker) = _
    cases s.work.markers.find? (fun m => m.id == id) <;> rfl
  · exact State.reads_of_readRequest rfl a (by rw [State.heard_eq]; rfl)
  · cases hw : winderCode n with
    | some w =>
      exact State.reads_of_winderRequest (answer := fun w t => doneWith (.settle (t.work.settle.get w))) hw rfl a
        (by rw [State.heard_eq]; rfl)
    | none =>
      refine State.answers_of_request rfl a ?_
      rw [hw]
      rfl

/-- Settles O18. -/
theorem statusReadsAnswer : Obligations.StatusReadsAnswer := by
  intro s h
  refine ⟨fun n w hw a => ?_, fun n w hw a => ?_, fun n w hw a => ?_, fun n w hw a => ?_, fun n k hk a => ?_, fun n a => ?_,
    fun n a => ?_, fun a => ?_, fun a => ?_⟩
  · exact State.reads_of_winderRequest (answer := fun w t => doneWith (t.winderAnswer w)) hw rfl a (by rw [State.heard_eq]; rfl)
  · refine State.reads_of_winderRequest (answer := fun w t => doneWith (t.capAnswer w)) hw rfl a ?_
    rw [State.heard_eq]
    unfold State.capAnswer
    rw [if_congr State.isIn_iff rfl rfl]
    rfl
  · exact State.reads_of_winderRequest (answer := fun w t => doneWith (t.envelopeAnswer w)) hw rfl a (by rw [State.heard_eq]; rfl)
  · exact State.reads_of_winderRequest (answer := fun w t => doneWith (t.statusAnswer w)) hw rfl a (by rw [State.heard_eq]; rfl)
  · refine State.reads_of_readRequest rfl a ?_
    rw [State.heard_eq, hk]
    rfl
  · refine State.reads_of_readRequest rfl a ?_
    rw [State.heard_eq]
    by_cases inTable : n < 16
    · rw [stationCode_of_lt inTable, dif_pos inTable]
      rfl
    · rw [stationCode_of_not_lt inTable, dif_neg inTable]
      rfl
  · exact State.reads_of_readRequest rfl a (by rw [State.heard_eq]; rfl)
  · exact State.reads_of_readRequest rfl a (by rw [State.heard_eq]; rfl)
  · exact State.reads_of_readRequest rfl a (by rw [State.heard_eq]; rfl)

/-! ## QUERY CALL (O20) -/

/-- The place of the first entry that a test holds of. -/
theorem findIdx_append_cons {α : Type} (p : α → Bool) (q : List α) (c : α) (rest : List α) (before : ∀ x ∈ q, p x = false)
    (here : p c = true) : (q ++ c :: rest).findIdx p = q.length ∧ (q ++ c :: rest).find? p = some c := by
  induction q with
  | nil => simp [List.findIdx_cons, here]
  | cons x q ih =>
    have first : p x = false := before x List.mem_cons_self
    obtain ⟨place, found⟩ := ih (fun y hy => before y (List.mem_cons_of_mem _ hy))
    exact ⟨by simp [List.findIdx_cons, first, place], by simp [first, found]⟩

/-- A slot's trip is that of a call where the call's id is asked for. -/
theorem slot_filter_of_source {slot : Option Trip} {t : Trip} {c : Call} {id : Nat} (held : slot = some t)
    (source : t.source = some c) (named : c.id = id) :
    slot.filter (fun t => sourceId (some t) == some id) = some t := by
  subst held
  simp [sourceId, source, named]

theorem slot_filter_of_other {slot : Option Trip} {id : Nat}
    (other : ∀ t c, slot = some t → t.source = some c → c.id ≠ id) :
    slot.filter (fun t => sourceId (some t) == some id) = none := by
  rw [Option.filter_eq_none_iff]
  intro t held
  cases source : t.source with
  | none => simp [sourceId, source]
  | some c => simpa [sourceId, source] using other t c held source

/-- Settles O20. -/
theorem queryCallFindsTheCall : Obligations.QueryCallFindsTheCall := by
  intro s h n id w hw a
  have answered : ∀ r, s.queryAnswer w id = r → s.Reads (.queryCall h n id) h .queryCall r := by
    intro r e
    refine State.reads_of_winderRequest (answer := fun w t => t.queryAnswer w id) hw rfl a (Eq.trans ?_ e)
    rw [State.heard_eq]
    rfl
  refine ⟨fun q c rest queue named before => answered _ ?_, fun absent => ?_⟩
  · obtain ⟨place, found⟩ := findIdx_append_cons (fun x : Call => x.id == id) q c rest
      (fun x hx => beq_eq_false_iff_ne.mpr (before x hx)) (beq_iff_eq.mpr named)
    unfold State.queryAnswer State.whereabouts
    rw [queue, found, place]
    rfl
  have unqueued : (s.queues.get w).find? (fun c => c.id == id) = none :=
    List.find?_eq_none.mpr (fun x hx => by simpa using absent x hx)
  refine ⟨fun t c held source named => answered _ ?_, fun unstaged =>
    ⟨fun t c held source named => answered _ ?_, fun inactive => answered _ ?_⟩⟩
  · unfold State.queryAnswer State.whereabouts
    rw [unqueued, slot_filter_of_source held source named]
    rfl
  · unfold State.queryAnswer State.whereabouts
    rw [unqueued, slot_filter_of_other unstaged, slot_filter_of_source held source named]
    rfl
  · unfold State.queryAnswer State.whereabouts
    rw [unqueued, slot_filter_of_other unstaged, slot_filter_of_other inactive]
    cases (s.ended.get w).find? (fun e => e.id == id) <;> rfl

end Sys2Proof.Machine

/-! PROOFS. The long reads: what a paged read keeps and answers, how many items its page holds, and the bytes of the items
(O19). -/

namespace Sys2Proof.Machine

/-! ## Paged reads -/

theorem pageRead_zero (s : State) (kind : ReadKind) (form : State → List PageItem × PageCommon) :
    pageRead s kind 0 form = ({ s with snapshot := none }, refuse .outOfRange) := rfl

theorem pageRead_fresh (s : State) (kind : ReadKind) (form : State → List PageItem × PageCommon) :
    pageRead s kind 1 form =
      ({ s with snapshot := s.restOfRead kind (form s) }, (.done, pageAnswer (form s).2 (form s).1 1)) := rfl

theorem pageRead_noSnapshot {s : State} {first : Nat} (kind : ReadKind) (form : State → List PageItem × PageCommon)
    (later : 1 < first) (held : s.snapshot = none) : pageRead s kind first form = (s, refuse .noSnapshot) := by
  unfold pageRead
  rw [if_neg (by omega), if_neg (by omega), held]

theorem pageRead_otherKind {s : State} {x : Snapshot} {first : Nat} {kind : ReadKind} (form : State → List PageItem × PageCommon)
    (later : 1 < first) (held : s.snapshot = some x) (other : x.kind ≠ kind) :
    pageRead s kind first form = ({ s with snapshot := none }, refuse .noSnapshot) := by
  unfold pageRead
  rw [if_neg (by omega), if_neg (by omega), held]
  exact if_pos other

theorem pageRead_beyond {s : State} {x : Snapshot} {first : Nat} {kind : ReadKind} (form : State → List PageItem × PageCommon)
    (later : 1 < first) (held : s.snapshot = some x) (same : x.kind = kind) (beyond : x.items.length < first) :
    pageRead s kind first form = (s, refuse .outOfRange) := by
  unfold pageRead
  rw [if_neg (by omega), if_neg (by omega), held]
  exact (if_neg (not_not.mpr same)).trans (if_pos beyond)

theorem pageRead_continued {s : State} {x : Snapshot} {first : Nat} {kind : ReadKind} (form : State → List PageItem × PageCommon)
    (later : 1 < first) (held : s.snapshot = some x) (same : x.kind = kind) (within : first ≤ x.items.length) :
    pageRead s kind first form =
      ({ s with snapshot := x.restAfter first }, (.done, pageAnswer x.common x.items first)) := by
  unfold pageRead
  rw [if_neg (by omega), if_neg (by omega), held]
  exact (if_neg (not_not.mpr same)).trans (if_neg (by omega))

/-- A paged read that its screen lets pass is answered as its block answers it, the page snapshot as it stands. -/
theorem State.answers_of_pageRequest {s t : State} {c : Instr} {h : Head} {k : Kind} {n : Nat} {w : Option Nat}
    {act : State → State × (Code × Answer)} {r : Code × Answer} (paged : Paged k)
    (runs : exec c s = .next (pageRequest s h k n w act)) (a : s.admits h k n w)
    (e : act { s.heard h k with snapshot := s.snapshot } = (t, r)) : s.Answers c h k t r := by
  unfold State.Answers
  rw [runs, pageRequest_eq paged, State.admits_iff.mp a]
  dsimp only
  rw [e]

/-- Only the console sends paged reads. -/
theorem Paged.link_of_admits {s : State} {h : Head} {k : Kind} {n : Nat} {w : Option Nat} (paged : Paged k)
    (a : s.admits h k n w) : h.link = .console := by
  have listed : kindListed k h.link = true := by
    by_contra unlisted
    have away := State.admits_iff.mp a
    unfold State.turnedAway at away
    rw [if_pos (Bool.eq_false_iff.mpr unlisted)] at away
    cases away
  rcases paged with rfl | rfl | rfl <;> exact beq_iff_eq.mp listed

theorem Paged.heard_snapshot {s : State} {h : Head} {k : Kind} {n : Nat} {w : Option Nat} (paged : Paged k)
    (a : s.admits h k n w) : { s.heard h k with snapshot := none } = s.heard h k := by
  rw [State.heard_eq, paged.link_of_admits a]
  rfl

theorem takeReadQueue_named {n : Nat} {w : Winder} (hw : winderCode n = some w) (first : Nat) (s : State) :
    takeReadQueue n first s = pageRead s (.queue w) first (fun t => t.queueItems w) := by
  unfold takeReadQueue
  rw [hw]

/-! ## Paged reads in the request's own terms

One statement for the three reads: `form` gives the whole answer, and the request's block is `pageRead`. -/

section PagedReads

variable {s : State} {h : Head} {k : Kind} {n : Nat} {w : Option Nat} {c : Instr} {kind : ReadKind} {first : Nat}
  {form : State → List PageItem × PageCommon}

theorem State.answers_fresh (paged : Paged k) (runs : exec c s = .next (pageRequest s h k n w (fun t => pageRead t kind 1 form)))
    (a : s.admits h k n w) (same : form { s.heard h k with snapshot := s.snapshot } = form s) :
    s.Answers c h k { s.heard h k with snapshot := s.restOfRead kind (form s) }
      (.done, pageAnswer (form s).2 (form s).1 1) := by
  refine State.answers_of_pageRequest paged runs a ?_
  rw [pageRead_fresh, same, State.heard_eq]
  rfl

theorem State.answers_continued {x : Snapshot} (paged : Paged k)
    (runs : exec c s = .next (pageRequest s h k n w (fun t => pageRead t kind first form))) (a : s.admits h k n w)
    (held : s.snapshot = some x) (later : 1 < first) (within : first ≤ x.items.length) (same : x.kind = kind) :
    s.Answers c h k { s.heard h k with snapshot := x.restAfter first } (.done, pageAnswer x.common x.items first) :=
  State.answers_of_pageRequest paged runs a (pageRead_continued form later held same within)

theorem State.reads_noSnapshot (paged : Paged k)
    (runs : exec c s = .next (pageRequest s h k n w (fun t => pageRead t kind first form))) (a : s.admits h k n w)
    (held : s.snapshot = none) (later : 1 < first) : s.Reads c h k (.refused .noSnapshot, .nothing) := by
  refine State.answers_of_pageRequest paged runs a
    ((pageRead_noSnapshot (s := { s.heard h k with snapshot := s.snapshot }) kind form later held).trans ?_)
  rw [held, paged.heard_snapshot a]
  rfl

theorem State.reads_otherKind {x : Snapshot} (paged : Paged k)
    (runs : exec c s = .next (pageRequest s h k n w (fun t => pageRead t kind first form))) (a : s.admits h k n w)
    (held : s.snapshot = some x) (later : 1 < first) (other : x.kind ≠ kind) :
    s.Reads c h k (.refused .noSnapshot, .nothing) := by
  refine State.answers_of_pageRequest paged runs a ((pageRead_otherKind (s := { s.heard h k with snapshot := s.snapshot }) form later held other).trans ?_)
  exact congrArg (fun t => (t, _)) (paged.heard_snapshot a)

theorem State.answers_beyond {x : Snapshot} (paged : Paged k)
    (runs : exec c s = .next (pageRequest s h k n w (fun t => pageRead t kind first form))) (a : s.admits h k n w)
    (held : s.snapshot = some x) (later : 1 < first) (same : x.kind = kind) (beyond : x.items.length < first) :
    s.Answers c h k { s.heard h k with snapshot := some x } (.refused .outOfRange, .nothing) := by
  refine State.answers_of_pageRequest paged runs a ((pageRead_beyond (s := { s.heard h k with snapshot := s.snapshot }) form later held same beyond).trans ?_)
  rw [held]
  rfl

theorem State.reads_zero (paged : Paged k)
    (runs : exec c s = .next (pageRequest s h k n w (fun t => pageRead t kind 0 form))) (a : s.admits h k n w) :
    s.Reads c h k (.refused .outOfRange, .nothing) := by
  refine State.answers_of_pageRequest paged runs a ?_
  rw [pageRead_zero]
  exact congrArg (fun t => (t, _)) (paged.heard_snapshot a)

end PagedReads

/-- READ QUEUE of a winder is one of the paged reads. -/
theorem exec_readQueue_named {n : Nat} {w : Winder} (hw : winderCode n = some w) (h : Head) (first : Nat) (s : State) :
    exec (.readQueue h n first) s =
      .next (pageRequest s h .readQueue 2 (some n) (fun t => pageRead t (.queue w) first (fun t => t.queueItems w))) := by
  show Host.Outcome.next (pageRequest s h .readQueue 2 (some n) (takeReadQueue n first)) = _
  rw [show takeReadQueue n first = _ from funext (takeReadQueue_named hw first)]

theorem exec_readQueue_unnamed {s : State} {h : Head} {n : Nat} (large : 2 ≤ n) (a : s.admits h .readQueue 2 (some n)) (first : Nat) :
    s.Reads (.readQueue h n first) h .readQueue (.refused .outOfRange, .nothing) := by
  refine State.answers_of_pageRequest (.inl rfl) rfl a ?_
  unfold takeReadQueue
  rw [winderCode_of_le large]
  exact congrArg (fun t => (t, _)) (Paged.heard_snapshot (.inl rfl) a)

theorem winderCode_cases (n : Nat) : 2 ≤ n ∨ ∃ w, winderCode n = some w := by
  match n with
  | 0 => exact .inr ⟨.service, rfl⟩
  | 1 => exact .inr ⟨.rock, rfl⟩
  | n + 2 => exact .inl (by omega)

/-! ## How much a page holds -/

theorem fitting_eq_take (size : PageItem → Nat) (room : Nat) (l : List PageItem) :
    fitting size room l = l.take (fitting size room l).length := by
  induction l generalizing room with
  | nil => rfl
  | cons i rest ih =>
    unfold fitting
    split
    · rw [List.length_cons, List.take_succ_cons, ← ih]
    · rfl

theorem fitting_fits (size : PageItem → Nat) (room : Nat) (l : List PageItem) :
    ((fitting size room l).map size).sum ≤ room := by
  induction l generalizing room with
  | nil => exact Nat.zero_le _
  | cons i rest ih =>
    unfold fitting
    split
    · next fits =>
      rw [List.map_cons, List.sum_cons]
      have := ih (room - size i)
      omega
    · exact Nat.zero_le _

/-- The first item left out would not have fitted. -/
theorem fitting_full (size : PageItem → Nat) (room : Nat) (l : List PageItem) (more : (fitting size room l).length < l.length) :
    room < ((l.take ((fitting size room l).length + 1)).map size).sum := by
  induction l generalizing room with
  | nil => cases more
  | cons i rest ih =>
    unfold fitting at more ⊢
    by_cases fits : size i ≤ room
    · rw [if_pos fits] at more ⊢
      have := ih (room - size i) (by simpa using more)
      rw [List.length_cons, List.take_succ_cons, List.map_cons, List.sum_cons]
      omega
    · rw [if_neg fits]
      simpa using fits

theorem pageItems_cons {common : PageCommon} {items : List PageItem} {first : Nat} {i : PageItem} {rest : List PageItem}
    (left : items.drop (first - 1) = i :: rest) :
    pageItems common items first =
      i :: fitting (fun i => (itemBytes (pageRoom common) i).length)
        (pageRoom common - (itemBytes (pageRoom common) i).length) rest := by
  unfold pageItems
  rw [left]

theorem pageItems_nil {common : PageCommon} {items : List PageItem} {first : Nat} (left : items.drop (first - 1) = []) :
    pageItems common items first = [] := by
  unfold pageItems
  rw [left]

theorem itemBytes_pos (room : Nat) (i : PageItem) : 1 ≤ (itemBytes room i).length := by
  cases i with
  | call n c => simp [itemBytes, u8]
  | primary e => cases e <;> simp [itemBytes, optional, u8]
  | fault n e => simp [itemBytes, u8]
  | position c p => simp [itemBytes, positionBytes, positionHead, u8]

/-- Items that are there take room. -/
theorem sum_itemBytes_pos (room : Nat) {l : List PageItem} (some_ : l ≠ []) :
    1 ≤ (l.map (fun i => (itemBytes room i).length)).sum := by
  cases l with
  | nil => exact absurd rfl some_
  | cons i rest =>
    have := itemBytes_pos room i
    rw [List.map_cons, List.sum_cons]
    omega

theorem pageRoom_eq (common : PageCommon) : pageRoom common = 90 - (commonBytes common).length := by
  unfold pageRoom
  omega

/-- The bytes of a page's body: the header, the three counts, the items and the repeated part. -/
def pageSize (common : PageCommon) (items : List PageItem) : Nat :=
  3 + 1 + (items.flatMap (itemBytes (90 - (commonBytes common).length))).length + (commonBytes common).length + 1 + 1

theorem pageSize_eq (common : PageCommon) (items : List PageItem) :
    pageSize common items =
      6 + (items.map (fun i => (itemBytes (pageRoom common) i).length)).sum + (commonBytes common).length := by
  unfold pageSize
  rw [pageRoom_eq, List.length_flatMap]
  omega

theorem pageItems_eq_take (common : PageCommon) (items : List PageItem) (first : Nat) :
    pageItems common items first = (items.drop (first - 1)).take (pageItems common items first).length := by
  cases left : items.drop (first - 1) with
  | nil => rw [pageItems_nil left]; rfl
  | cons i rest =>
    rw [pageItems_cons left, List.length_cons, List.take_succ_cons, ← fitting_eq_take]

theorem pageItems_pos {common : PageCommon} {items : List PageItem} {first : Nat} (left : items.drop (first - 1) ≠ []) :
    1 ≤ (pageItems common items first).length := by
  cases e : items.drop (first - 1) with
  | nil => exact absurd e left
  | cons i rest =>
    rw [pageItems_cons e, List.length_cons]
    omega

theorem pageItems_fits {common : PageCommon} {items : List PageItem} {first : Nat}
    (two : 2 ≤ (pageItems common items first).length) : pageSize common (pageItems common items first) ≤ 96 := by
  cases left : items.drop (first - 1) with
  | nil =>
    rw [pageItems_nil left] at two
    cases two
  | cons i rest =>
    rw [pageItems_cons left] at two ⊢
    rw [pageSize_eq, List.map_cons, List.sum_cons]
    rw [List.length_cons] at two
    have fits := fitting_fits (fun i => (itemBytes (pageRoom common) i).length)
      (pageRoom common - (itemBytes (pageRoom common) i).length) rest
    have taken := sum_itemBytes_pos (pageRoom common)
      (l := fitting (fun i => (itemBytes (pageRoom common) i).length)
        (pageRoom common - (itemBytes (pageRoom common) i).length) rest)
      (List.length_pos_iff.mp (by omega))
    rw [pageRoom_eq] at fits taken ⊢
    omega

theorem pageItems_full {common : PageCommon} {items : List PageItem} {first : Nat}
    (more : (pageItems common items first).length < (items.drop (first - 1)).length) :
    96 < pageSize common ((items.drop (first - 1)).take ((pageItems common items first).length + 1)) := by
  cases left : items.drop (first - 1) with
  | nil =>
    rw [left] at more
    cases more
  | cons i rest =>
    rw [pageItems_cons left, left] at more
    rw [pageItems_cons left, List.length_cons, List.take_succ_cons, pageSize_eq, List.map_cons, List.sum_cons]
    have full := fitting_full (fun i => (itemBytes (pageRoom common) i).length)
      (pageRoom common - (itemBytes (pageRoom common) i).length) rest (by simpa using more)
    rw [pageRoom_eq] at full ⊢
    omega

/-! ## The bytes of the items -/

theorem placeIn_link (l : Link) : placeIn [Link.console, .signal, .ore, .rockDrive, .serviceDrive] l = u8 l.ctorIdx := by
  cases l <;> rfl

theorem placeIn_callState (c : CallState) : placeIn [CallState.waiting, .heldBar, .heldWork, .heldPairing] c = u8 c.ctorIdx := by
  cases c <;> rfl

theorem placeIn_class (c : Machine.Class) :
    placeIn [Machine.Class.men, .material, .rock, .inspection, .creep, .rePair] c = u8 c.ctorIdx := by
  cases c <;> rfl

theorem placeIn_deck : placeIn [Deck.upper, .middle, .lower] = fun d => u8 d.ctorIdx := by
  funext d
  cases d <;> rfl

theorem placeIn_skip (k : Skip) : placeIn [Skip.skip0, .skip1] k = u8 k.ctorIdx := by
  cases k <;> rfl

theorem placeIn_faultKind (k : FaultKind) :
    placeIn [FaultKind.emergencyStop, .overspeed, .overwind, .workZoneEntry, .inspectZoneEntry, .positionLost,
      .markerDisagreement, .pairDisagreement, .unpermittedMotion, .driveSilent, .driveFault, .tripOvertime,
      .stopNotAchieved, .clutchFault, .landingNotAchieved, .overFault, .underFault, .payloadMismatch, .driveRefused,
      .unknownMarker, .storeInvalid] k = u8 k.ctorIdx := by
  cases k <;> rfl

theorem placeIn_severity (x : Severity) : placeIn [Severity.trip, .stop, .note] x = u8 x.ctorIdx := by
  cases x <;> rfl

theorem placeIn_winder : placeIn [Winder.service, .rock] = winderBytes := by
  funext w
  cases w <;> rfl

theorem placeIn_conveyance : placeIn [Conveyance.cage, .counterweight, .skip0, .skip1] = conveyanceBytes := by
  funext c
  cases c <;> rfl

theorem placeIn_recordState (x : RecordState) : placeIn [RecordState.cold, .valid, .lost] x = u8 x.ctorIdx := by
  cases x <;> rfl

theorem placeIn_direction (x : Direction) : placeIn [Direction.descending, .ascending, .stationary] x = u8 x.ctorIdx := by
  cases x <;> rfl

/-- A call in a page, and a fault entry, in the places that R174's tables give. -/
theorem itemBytes_cage (room n : Nat) {c : Call} {station : Fin 16} {cls : Machine.Class} {decks : List Deck}
    {riders : Option (List Nat)} {payload : Option Nat} (work : c.work = .cage station cls decks riders payload) :
    itemBytes room (.call n c) =
      u8 c.id ++ placeIn [Link.console, .signal, .ore, .rockDrive, .serviceDrive] c.origin ++ u8 0 ++
        placeIn [Machine.Class.men, .material, .rock, .inspection, .creep, .rePair] cls ++
        u8 1 ++ u8 station.val ++ u8 1 ++ listed (placeIn [Deck.upper, .middle, .lower]) decks ++
        optional (listed u8) riders ++ optional u16 payload ++ u8 0 ++
        (flag c.priority ++ placeIn [CallState.waiting, .heldBar, .heldWork, .heldPairing] c.state ++ timeBytes c.arrival ++ u8 n) := by
  rw [placeIn_link, placeIn_class, placeIn_deck, placeIn_callState]
  show callBytes c ++ u8 n = _
  unfold callBytes
  rw [work]
  simp only [List.append_assoc]

theorem itemBytes_cycle (room n : Nat) {c : Call} {k : Skip} (work : c.work = .cycle k) :
    itemBytes room (.call n c) =
      u8 c.id ++ placeIn [Link.console, .signal, .ore, .rockDrive, .serviceDrive] c.origin ++ u8 1 ++ u8 2 ++ u8 0 ++ u8 0 ++
        u8 0 ++ u8 0 ++ u8 1 ++ placeIn [Skip.skip0, .skip1] k ++
        (flag c.priority ++ placeIn [CallState.waiting, .heldBar, .heldWork, .heldPairing] c.state ++ timeBytes c.arrival ++ u8 n) := by
  rw [placeIn_link, placeIn_skip, placeIn_callState]
  show callBytes c ++ u8 n = _
  unfold callBytes
  rw [work]
  simp only [List.append_assoc]
  rfl

theorem positionHead_length (p : Position) : (positionHead p).length ≤ 26 := by
  have depth : (optional i32 p.estimate).length ≤ 5 := by
    cases p.estimate <;> simp [optional, i32, u32, u16, u8]
  have marker : (optional u8 p.lastMarker).length ≤ 2 := by
    cases p.lastMarker <;> simp [optional, u8]
  have quads : (u32 p.band).length = 4 ∧ (u32 p.travel).length = 4 ∧ (i32 p.correction).length = 4 := ⟨rfl, rfl, rfl⟩
  have words : (u16 p.base).length = 2 ∧ (i16 p.speed).length = 2 := ⟨rfl, rfl⟩
  have bytes : (u8 p.state.ctorIdx).length = 1 ∧ (u8 p.direction.ctorIdx).length = 1 ∧ (flag p.rest).length = 1 := ⟨rfl, rfl, rfl⟩
  unfold positionHead
  simp only [List.length_append]
  omega

theorem optional_timeBytes_length (t : Option Time) : (optional timeBytes t).length ≤ 5 := by
  cases t <;> simp [optional, timeBytes, u32, u16, u8]

theorem positionsBytes_length (reports : PerWinder (Option Time)) (passes : PerConveyance (Option Time)) :
    (commonBytes (.positions reports passes)).length ≤ 30 := by
  have := optional_timeBytes_length reports.service
  have := optional_timeBytes_length reports.rock
  have := optional_timeBytes_length passes.cage
  have := optional_timeBytes_length passes.counterweight
  have := optional_timeBytes_length passes.skip0
  have := optional_timeBytes_length passes.skip1
  unfold commonBytes
  simp only [List.length_append]
  omega

/-- A position record fits in a page of its own (R171). -/
theorem itemBytes_position_fits {room : Nat} (h : 60 ≤ room) (c : Conveyance) (p : Position) :
    (itemBytes room (.position c p)).length ≤ room := by
  have head := positionHead_length p
  have zones := zoneSetBytes_length (room := room - (positionHead p).length) (by omega) p.zoneSet
  show (positionHead p ++ zoneSetBytes _ p.zoneSet).length ≤ room
  rw [List.length_append]
  omega

/-- What READ POSITION gives of a record before its zone set, in the places that R174's tables give. -/
theorem positionHead_eq (p : Position) :
    positionHead p =
      placeIn [RecordState.cold, .valid, .lost] p.state ++ optional i32 p.estimate ++ u32 p.band ++ u16 p.base ++
        u32 p.travel ++ optional u8 p.lastMarker ++ i32 p.correction ++ i16 p.speed ++
        placeIn [Direction.descending, .ascending, .stationary] p.direction ++ flag p.rest := by
  rw [placeIn_recordState, placeIn_direction]
  rfl

/-! ## The statement -/

/-- Settles O19. -/
theorem longReadsAnswerInPages : Obligations.LongReadsAnswerInPages := by
  refine ⟨fun s h => ⟨?_, ?_, ?_, ?_, ?_, ?_, ?_⟩, fun s w => ⟨rfl, rfl, rfl, fun c => ?_⟩, fun common items first => ?_, ?_, ?_, ?_, ?_⟩
  · exact fun n w hw a => State.answers_fresh (form := fun t => t.queueItems w) (.inl rfl) (exec_readQueue_named hw h 1 s) a
      (by rw [State.heard_eq]; rfl)
  · exact fun a => State.answers_fresh (.inr (.inl rfl)) rfl a (by rw [State.heard_eq]; rfl)
  · exact fun a => State.answers_fresh (.inr (.inr rfl)) rfl a (by rw [State.heard_eq]; rfl)
  · intro x first held later within
    refine ⟨fun n w hw same a => ?_, fun same a => ?_, fun same a => ?_⟩
    · exact State.answers_continued (.inl rfl) (exec_readQueue_named hw h first s) a held later within same
    · exact State.answers_continued (.inr (.inl rfl)) rfl a held later within same
    · exact State.answers_continued (.inr (.inr rfl)) rfl a held later within same
  · intro first held later
    refine ⟨fun n w hw a => ?_, fun a => ?_, fun a => ?_⟩
    · exact State.reads_noSnapshot (.inl rfl) (exec_readQueue_named hw h first s) a held later
    · exact State.reads_noSnapshot (.inr (.inl rfl)) rfl a held later
    · exact State.reads_noSnapshot (.inr (.inr rfl)) rfl a held later
  · refine ⟨fun n a => ⟨?_, fun large first => exec_readQueue_unnamed large a first, fun x w first held hw later => ⟨?_, ?_⟩⟩,
      fun a => ⟨?_, fun x first held later => ⟨?_, ?_⟩⟩, fun a => ⟨?_, fun x first held later => ⟨?_, ?_⟩⟩⟩
    · rcases winderCode_cases n with large | ⟨w, hw⟩
      · exact exec_readQueue_unnamed large a 0
      · exact State.reads_zero (.inl rfl) (exec_readQueue_named hw h 0 s) a
    · exact State.reads_otherKind (.inl rfl) (exec_readQueue_named hw h first s) a held later
    · exact State.answers_beyond (.inl rfl) (exec_readQueue_named hw h first s) a held later
    · exact State.reads_zero (.inr (.inl rfl)) rfl a
    · exact State.reads_otherKind (.inr (.inl rfl)) rfl a held later
    · exact State.answers_beyond (.inr (.inl rfl)) rfl a held later
    · exact State.reads_zero (.inr (.inr rfl)) rfl a
    · exact State.reads_otherKind (.inr (.inr rfl)) rfl a held later
    · exact State.answers_beyond (.inr (.inr rfl)) rfl a held later
  · intro x held old
    have due : s.begin.snapshotDue = true := State.snapshotDue_iff.mpr ⟨x, held, old⟩
    refine congrArg Host.Outcome.next ?_
    rw [if_pos due]
    rfl
  · have common := positionsBytes_length ⟨(s.reports.get .service).map (·.at_), (s.reports.get .rock).map (·.at_)⟩ s.lastPass
    have item := itemBytes_position_fits (room := 90 - (commonBytes (.positions
      ⟨(s.reports.get .service).map (·.at_), (s.reports.get .rock).map (·.at_)⟩ s.lastPass)).length) (by omega) c (s.position c)
    omega
  · refine ⟨pageItems_eq_take .., pageItems_pos, fun two => ?_, pageItems_full, fun abandoned => ?_⟩
    · have fits := pageItems_fits two
      rw [pageItems_eq_take] at fits
      exact fits
    · rw [← pageRoom_eq]
      simp only [replyBytes, headerBytes, pageAnswer, answerBytes, listed, List.append_assoc]
  · intro occupied admission overflow reports passes
    refine ⟨rfl, rfl, ?_⟩
    simp [commonBytes]
  · exact fun room n c => ⟨fun station cls decks riders payload work => itemBytes_cage room n work, fun k work => itemBytes_cycle room n work⟩
  · intro room n e
    rw [placeIn_faultKind, placeIn_severity, placeIn_winder, placeIn_conveyance]
    exact ⟨rfl, rfl, rfl⟩
  · intro room c p
    dsimp only
    rw [← positionHead_eq]
    refine ⟨fun fits => ?_, fun full => ⟨(List.range 8).flatMap (zoneMapByte p.zoneSet), ?_, ?_, fun n small => zoneMap_bit p.zoneSet small⟩⟩
    · exact congrArg (positionHead p ++ ·) (zoneSetBytes_list (by omega))
    · simp [zoneMapByte, u8]
    · exact congrArg (positionHead p ++ ·) (zoneSetBytes_map (by omega))

end Sys2Proof.Machine

/-! PROOFS. Tools for the requests: what a request's block finds, its tests, what it completes in; and what the operations that
hand a result on leave unchanged. -/

namespace Sys2Proof.Machine

/-! ## Requests -/

@[simp] theorem State.heard_isIn (s : State) (h : Head) (k : Kind) (w : Winder) (x : WinderState) :
    (s.heard h k).isIn w x = s.isIn w x := by
  unfold State.isIn
  rw [State.heard_winder]

/-- A request of a kind that the console alone sends is heard as one of the console. -/
theorem State.heard_of_console {s : State} {h : Head} (k : Kind) (console : h.link = .console) :
    s.heard h k =
      { s with
        sent := []
        ports := s.ports.set h.link ⟨.hunting, s.now⟩
        frameErrors := s.frameErrors.set h.link
          (saturate (s.frameErrors.get h.link + (if (s.ports.get h.link).reception = .hunting then 0 else 1)))
        snapshot := none } := by
  rw [State.heard_eq, console]
  rfl

/-- The link of a request that passes its screen lists its kind (R167). -/
theorem State.listed_of_admits {s : State} {h : Head} {k : Kind} {n : Nat} {w : Option Nat} (a : s.admits h k n w) :
    kindListed k h.link = true := by
  by_contra unlisted
  have away := State.admits_iff.mp a
  unfold State.turnedAway at away
  rw [if_pos (Bool.eq_false_iff.mpr unlisted)] at away
  cases away

/-- A request that completes in a state completes in it with its reply sent last. -/
theorem State.Answers.completes {s t : State} {c : Instr} {h : Head} {k : Kind} {r : Code × Answer} {post : State → Prop}
    (a : s.Answers c h k t r) (other : k ≠ .winderReset) (holds : post { t with sent := t.sent ++ [s.replyTo h k r] }) :
    Completes c s post :=
  ⟨_, a.trans (congrArg Host.Outcome.next (State.answering_eq s t h other r)), holds⟩

/-- A request whose tests all pass is answered as it is when taken. -/
theorem State.answers_of_tested {s t : State} {c : Instr} {h : Head} {k : Kind} {n : Nat} {w : Option Nat}
    {block act : State → State × (Code × Answer)} {r : Code × Answer} {tests : List (Bool × Reason)}
    (runs : exec c s = .next (request s h k n w block)) (a : s.admits h k n w)
    (e : block (s.heard h k) = (s.heard h k).tested tests act) (pass : firstFailing tests = none)
    (taken : act (s.heard h k) = (t, r)) : s.Answers c h k t r :=
  State.answers_of_request runs a (e.trans ((State.tested_none pass act).trans taken))

/-- A request with a test that fails is refused by the first that does, and nothing changes. -/
theorem State.refused_of_tested {s : State} {c : Instr} {h : Head} {k : Kind} {n : Nat} {w : Option Nat}
    {block act : State → State × (Code × Answer)} {tests : List (Bool × Reason)}
    {r : Reason} (runs : exec c s = .next (request s h k n w block)) (a : s.admits h k n w)
    (e : block (s.heard h k) = (s.heard h k).tested tests act) (fails : firstFailing tests = some r) :
    s.Reads c h k (.refused r, .nothing) :=
  State.answers_of_request runs a (e.trans (State.tested_some fails act))

/-- The same with the request's tests stated in order. -/
theorem State.inOrder_of_request {s : State} {c : Instr} {h : Head} {k : Kind} {n : Nat} {w : Option Nat}
    {block act : State → State × (Code × Answer)} {tests : List (Prop × Reason)} {table : List (Bool × Reason)} {taken : Prop}
    (runs : exec c s = .next (request s h k n w block)) (a : s.admits h k n w)
    (e : block (s.heard h k) = (s.heard h k).tested table act)
    (same : List.Forall₂ (fun e b => (e.1 ↔ b.1 = true) ∧ e.2 = b.2) tests table)
    (passed : firstFailing table = none →
      s.Answers c h k (act (s.heard h k)).1 (act (s.heard h k)).2 → taken) :
    TestsInOrder (fun r => s.Reads c h k (.refused r, .nothing)) tests taken :=
  TestsInOrder.of_tested (by rw [runs, request_admitted a, e]) same passed

theorem State.inOrder_of_winderRequest {s : State} {c : Instr} {h : Head} {k : Kind} {n code : Nat} {w : Winder}
    {block : Winder → State → State × (Code × Answer)} {act : State → State × (Code × Answer)} {tests : List (Prop × Reason)}
    {table : List (Bool × Reason)} {taken : Prop} (hw : winderCode code = some w)
    (runs : exec c s = .next (winderRequest s h k n code block)) (a : s.admits h k n (some code))
    (e : block w (s.heard h k) = (s.heard h k).tested table act)
    (same : List.Forall₂ (fun e b => (e.1 ↔ b.1 = true) ∧ e.2 = b.2) tests table)
    (passed : firstFailing table = none →
      s.Answers c h k (act (s.heard h k)).1 (act (s.heard h k)).2 → taken) :
    TestsInOrder (fun r => s.Reads c h k (.refused r, .nothing)) tests taken :=
  TestsInOrder.of_tested (by rw [runs, winderRequest_admitted hw a, e]) same passed

@[simp] theorem Presence.read_of {α : Type} (o : Option α) : (Presence.of o).read = some o := by
  cases o <;> rfl

theorem between_eq_false {lo hi n : Nat} : between lo hi n = false ↔ n < lo ∨ hi < n := by
  simp [between]
  omega

theorem depthInRange_eq_false {d : Int} : depthInRange d = false ↔ d < -60000 ∨ 3200000 < d := by
  simp [depthInRange]
  omega

theorem State.isIn_eq_false {s : State} {w : Winder} {x : WinderState} : s.isIn w x = false ↔ (s.winder w).state ≠ x :=
  beq_eq_false_iff_ne

theorem not_isIn_iff {s : State} {w : Winder} {x : WinderState} : (!s.isIn w x) = true ↔ (s.winder w).state ≠ x := by
  rw [Bool.not_eq_true', State.isIn_eq_false]

/-! ## What handing a result on leaves unchanged -/

/-- Between two states only the records of the conveyances and what is handed on to the Winder Controller differ. -/
def State.HandsOn (s t : State) : Prop :=
  t = { s with positions := t.positions, caps := t.caps, restricted := t.restricted, winders := t.winders, drives := t.drives,
               sent := t.sent }

theorem State.HandsOn.refl (s : State) : s.HandsOn s := rfl

theorem State.HandsOn.trans {s t u : State} (h : s.HandsOn t) (k : t.HandsOn u) : s.HandsOn u := by
  unfold State.HandsOn at *
  refine k.trans ?_
  rw [h]

theorem State.HandsOn.ite {s t u : State} {p : Prop} [Decidable p] (h : s.HandsOn t) (k : s.HandsOn u) :
    s.HandsOn (if p then t else u) := by
  split <;> assumption

theorem State.followCap_handsOn (s : State) (w : Winder) : s.HandsOn (s.followCap w) := by
  unfold State.followCap
  split
  · exact .refl s
  · exact .ite rfl (.refl s)

theorem State.handTouch_handsOn (s : State) (w : Winder) : s.HandsOn (s.handTouch w) := by
  unfold State.handTouch
  exact .ite rfl rfl

theorem State.handOn_handsOn (s : State) (w : Winder) : s.HandsOn (s.handOn w) :=
  .trans (s := s) (.trans (s := s) (t := s.handCap w) rfl (State.followCap_handsOn _ w)) (State.handTouch_handsOn _ w)

theorem State.reestimate_handsOn (s : State) (c : Conveyance) : s.HandsOn (s.reestimate c) := by
  unfold State.reestimate
  split
  · exact .refl s
  · exact .ite rfl (.refl s)

theorem State.makeCold_handsOn (s : State) (c : Conveyance) : s.HandsOn (s.makeCold c) :=
  (s.reestimate_handsOn c).trans rfl

/-- What is handed on changes no record of a conveyance. -/
theorem State.followCap_positions (s : State) (w : Winder) : (s.followCap w).positions = s.positions := by
  unfold State.followCap
  split
  · rfl
  · dsimp only
    split <;> rfl

theorem State.handTouch_positions (s : State) (w : Winder) : (s.handTouch w).positions = s.positions := by
  unfold State.handTouch
  dsimp only
  split <;> rfl

theorem State.handOn_positions (s : State) (w : Winder) : (s.handOn w).positions = s.positions :=
  (State.handTouch_positions _ w).trans (State.followCap_positions _ w)

theorem State.handOn_position (s : State) (w : Winder) (c : Conveyance) : (s.handOn w).position c = s.position c :=
  congrArg (fun p => p.get c) (s.handOn_positions w)

/-! ## A record made Cold (R27) -/

theorem State.reestimate_ne (s : State) {c d : Conveyance} (h : d ≠ c) : (s.reestimate c).position d = s.position d := by
  unfold State.reestimate
  split
  · rfl
  · dsimp only
    split
    · exact State.withPosition_position_ne s c _ h
    · rfl

/-- The estimate that a record put into Cold takes: from its drum where that gives a depth in range, and else the one it had. -/
def State.freshEstimate (s : State) (c : Conveyance) : Option Int :=
  match s.drumDepth.get (drumOf c) with
  | none => (s.position c).estimate
  | some d => if depthInRange (s.depthOf c d) = true then some (s.depthOf c d) else (s.position c).estimate

theorem State.freshEstimate_none {s : State} {c : Conveyance} (h : s.drumDepth.get (drumOf c) = none) :
    s.freshEstimate c = (s.position c).estimate := by
  unfold State.freshEstimate
  rw [h]

theorem State.freshEstimate_some {s : State} {c : Conveyance} {d : Int} (h : s.drumDepth.get (drumOf c) = some d) :
    s.freshEstimate c = if depthInRange (s.depthOf c d) = true then some (s.depthOf c d) else (s.position c).estimate := by
  unfold State.freshEstimate
  rw [h]

/-- A recomputed estimate stands for the latest report's too, and nothing else of the record changes. -/
theorem State.reestimate_self (s : State) (c : Conveyance) :
    ∃ e, (s.reestimate c).position c = { s.position c with estimate := s.freshEstimate c, reportEstimate := e } := by
  cases drum : s.drumDepth.get (drumOf c) with
  | none =>
    refine ⟨(s.position c).reportEstimate, ?_⟩
    rw [State.freshEstimate_none drum]
    unfold State.reestimate
    rw [drum]
  | some d =>
    rw [State.freshEstimate_some drum]
    unfold State.reestimate
    rw [drum]
    dsimp only
    by_cases range : depthInRange (s.depthOf c d) = true
    · rw [if_pos range, if_pos range]
      exact ⟨some (s.depthOf c d), State.withPosition_position_self ..⟩
    · rw [if_neg range, if_neg range]
      exact ⟨(s.position c).reportEstimate, rfl⟩

theorem State.reestimate_work (s : State) (c : Conveyance) : (s.reestimate c).work = s.work := by
  unfold State.reestimate
  split
  · rfl
  · dsimp only
    split <;> rfl

theorem State.makeCold_self (s : State) (c : Conveyance) :
    ∃ e, (s.makeCold c).position c =
      { s.position c with
        estimate := s.freshEstimate c, reportEstimate := e, base := s.work.tracking.coldBand
        band := s.work.tracking.coldBand, travel := 0, lastMarker := none, state := .cold } := by
  obtain ⟨e, he⟩ := s.reestimate_self c
  refine ⟨e, ?_⟩
  unfold State.makeCold
  rw [State.withPosition_position_self, he]
  rfl

theorem State.makeCold_ne (s : State) {c d : Conveyance} (h : d ≠ c) : (s.makeCold c).position d = s.position d := by
  unfold State.makeCold
  rw [State.withPosition_position_ne _ c _ h, State.reestimate_ne s h]

theorem State.rebuildSet_self (s : State) (c : Conveyance) : (s.rebuildSet c).position c = (s.position c).withSet (s.touched c) :=
  State.withPosition_position_self ..

theorem State.rebuildSet_ne (s : State) {c d : Conveyance} (h : d ≠ c) : (s.rebuildSet c).position d = s.position d :=
  State.withPosition_position_ne s c _ h

end Sys2Proof.Machine

/-! PROOFS. The writes of the shaft's geometry, stations, rock points and classes (O21). -/

namespace Sys2Proof.Machine

/-! ## WRITE GEOMETRY (R4, R5) -/

theorem takeWriteGeometry_taken {s : State} {pitch span : Option Nat} (pass : firstFailing (s.geometryTests pitch span) = none) :
    takeWriteGeometry pitch span s =
      (if span.isSome then (s.withWork (fun c => { c with pitch := pitch.getD c.pitch, span := span.getD c.span })).chillCounterweight
        else s.withWork (fun c => { c with pitch := pitch.getD c.pitch, span := span.getD c.span }), done) :=
  State.tested_none pass _

theorem takeWriteGeometry_refused {s : State} {pitch span : Option Nat} {r : Reason}
    (fails : firstFailing (s.geometryTests pitch span) = some r) : takeWriteGeometry pitch span s = (s, refuse r) :=
  State.tested_some fails _

theorem State.answers_writeGeometry {s t : State} {h : Head} {pitch span : Option Nat} {r : Code × Answer}
    (a : s.admits h .writeGeometry (optionalSize 2 (Presence.of pitch) + optionalSize 4 (Presence.of span)) none)
    (e : takeWriteGeometry pitch span (s.heard h .writeGeometry) = (t, r)) :
    s.Answers (.writeGeometry h (.of pitch) (.of span)) h .writeGeometry t r :=
  State.answers_of_request rfl a (by rw [withRead_of, withRead_of]; exact e)

theorem State.chillCounterweight_handsOn (s : State) : s.HandsOn s.chillCounterweight :=
  ((s.makeCold_handsOn .counterweight).trans (t := s.makeCold .counterweight)
    (u := (s.makeCold .counterweight).rebuildSet .counterweight) rfl).trans (State.handOn_handsOn _ _)

theorem State.chillCounterweight_ne (s : State) {c : Conveyance} (h : c ≠ .counterweight) :
    s.chillCounterweight.position c = s.position c := by
  unfold State.chillCounterweight
  rw [State.handOn_position, State.rebuildSet_ne _ h, State.makeCold_ne _ h]

/-- The counterweight's record once a span is written: Cold, its correction kept (R5, R27). -/
theorem State.chillCounterweight_self (s : State) :
    ∃ estimate report set suppressed, s.chillCounterweight.position .counterweight =
      { s.position .counterweight with
        estimate := estimate, reportEstimate := report, base := s.work.tracking.coldBand, band := s.work.tracking.coldBand
        travel := 0, lastMarker := none, state := .cold, zoneSet := set, suppressed := suppressed } := by
  obtain ⟨e, cold⟩ := s.makeCold_self .counterweight
  unfold State.chillCounterweight
  rw [State.handOn_position, State.rebuildSet_self, cold]
  exact ⟨_, _, _, _, rfl⟩

theorem State.writeGeometry_pitch (s : State) (h : Head) (p : Nat) (range : between 3000 6000 p = true)
    (parked : s.isIn .service .parked = true) (a : s.admits h .writeGeometry 4 none) :
    s.Answers (.writeGeometry h (.present p) .absent) h .writeGeometry
      { s.heard h .writeGeometry with work := { s.work with pitch := p } } (.done, .nothing) := by
  refine State.answers_writeGeometry (pitch := some p) (span := none) a ((takeWriteGeometry_taken ?_).trans ?_)
  · simp [State.geometryTests, firstFailing, range, parked]
  · rw [State.heard_eq]
    rfl

theorem State.writeGeometry_span (s : State) (h : Head) (pitch : Option Nat) (span : Nat)
    (pitchRange : Option.all (between 3000 6000) pitch = true) (range : between 2000000 3200000 span = true)
    (commissioning : s.commissioning = true) (parked : s.isIn .service .parked = true)
    (a : s.admits h .writeGeometry (optionalSize 2 (Presence.of pitch) + 5) none) :
    s.Answers (.writeGeometry h (.of pitch) (.present span)) h .writeGeometry
      ({ s.heard h .writeGeometry with work := { s.work with pitch := pitch.getD s.work.pitch, span := span } } :
        State).chillCounterweight (.done, .nothing) := by
  refine State.answers_writeGeometry (span := some span) a ((takeWriteGeometry_taken ?_).trans ?_)
  · simp [State.geometryTests, firstFailing, range, parked, pitchRange, commissioning]
  · rw [State.heard_eq]
    rfl

/-- The refusals of WRITE GEOMETRY, in the order of log 23. -/
theorem State.writeGeometry_refusals (s : State) (h : Head) (pitch span : Option Nat)
    (a : s.admits h .writeGeometry (optionalSize 2 (Presence.of pitch) + optionalSize 4 (Presence.of span)) none) :
    let no (r : Reason) : Prop := s.Reads (.writeGeometry h (.of pitch) (.of span)) h .writeGeometry (.refused r, .nothing)
    (span ≠ none → s.commissioning = false → no .notCommissioning) ∧
    ((span ≠ none → s.commissioning = true) → s.isIn .service .parked = false → no .notParked) ∧
    ((span ≠ none → s.commissioning = true) → s.isIn .service .parked = true →
      (pitch = none ∧ span = none) ∨ (∃ p, pitch = some p ∧ (p < 3000 ∨ 6000 < p)) ∨
        (∃ x, span = some x ∧ (x < 2000000 ∨ 3200000 < x)) → no .outOfRange) := by
  intro no
  have refused : ∀ r, firstFailing ((s.heard h .writeGeometry).geometryTests pitch span) = some r → no r :=
    fun r fails => State.answers_writeGeometry a (takeWriteGeometry_refused fails)
  have clear : (span ≠ none → s.commissioning = true) → (span.isSome && !s.commissioning) = false := by
    intro k
    cases span with
    | none => rfl
    | some x => simp [k (by simp)]
  refine ⟨fun wanted commissioning => refused _ ?_, fun k parked => refused _ ?_, fun k parked wrong => refused _ ?_⟩
  · simp [State.geometryTests, firstFailing, commissioning, Option.isSome_iff_ne_none.mpr wanted]
  · simp only [State.geometryTests, firstFailing, State.heard_commissioning, State.heard_isIn, clear k, parked]
    rfl
  · simp only [State.geometryTests, firstFailing, State.heard_commissioning, State.heard_isIn, clear k, parked]
    rcases wrong with ⟨rfl, rfl⟩ | ⟨p, rfl, bad⟩ | ⟨x, rfl, bad⟩
    · rfl
    · simp [between_eq_false.mpr bad]
    · simp [between_eq_false.mpr bad]

/-! ## WRITE STATION (R7, R8) -/

theorem State.answers_writeStation {s t : State} {h : Head} {n : Nat} {depth : Option Int} {window decks flag : Nat}
    {r : Code × Answer} (a : s.admits h .writeStation (4 + optionalSize 4 (Presence.of depth)) none)
    (e : takeWriteStation n depth window decks flag (s.heard h .writeStation) = (t, r)) :
    s.Answers (.writeStation h n (.of depth) window decks flag) h .writeStation t r :=
  State.answers_of_request rfl a (by rw [withRead_of]; exact e)

theorem takeWriteStation_named {s : State} {n : Nat} {st : Fin 16} (hn : stationCode n = some st) (depth : Option Int)
    (window decks flag : Nat) :
    takeWriteStation n depth window decks flag s =
      s.tested (s.stationTests st (readStation st depth window decks flag))
        (fun s => (s.putStation st (readStation st depth window decks flag), done)) := by
  unfold takeWriteStation
  rw [hn]

theorem State.heard_stationTests (s : State) (h : Head) (k : Kind) (st : Fin 16) (entry : Option Station) :
    (s.heard h k).stationTests st entry = s.stationTests st entry := by
  rw [State.heard_eq]
  rfl

theorem State.writeStation_taken (s : State) (h : Head) (n : Nat) (st : Fin 16) (depth : Option Int) (window decks flag : Nat)
    (e : Station) (hn : stationCode n = some st) (parked : s.isIn .service .parked = true)
    (unnamed : ∀ c ∈ s.queues.get .service, c.work.names st = false) (read : readStation st depth window decks flag = some e)
    (landing : e.inService = true → e.depth ≠ none) (a : s.admits h .writeStation (4 + optionalSize 4 (Presence.of depth)) none) :
    s.Answers (.writeStation h n (.of depth) window decks flag) h .writeStation
      { s.heard h .writeStation with work := { s.work with stations := s.work.stations.set st e } } (.done, .nothing) := by
  have idle : (s.queues.get .service).any (fun c => c.work.names st) = false := by
    simpa using unnamed
  have lands : (e.inService && e.depth.isNone) = false := by
    cases on : e.inService
    · rfl
    · simpa [Option.isSome_iff_ne_none] using landing on
  refine State.answers_writeStation a ?_
  rw [takeWriteStation_named hn, read, State.tested_none]
  · rw [State.heard_eq]
    rfl
  · rw [State.heard_stationTests]
    simp [State.stationTests, firstFailing, parked, idle, lands]

theorem State.writeStation_refusals (s : State) (h : Head) (n : Nat) (depth : Option Int) (window decks flag : Nat)
    (a : s.admits h .writeStation (4 + optionalSize 4 (Presence.of depth)) none) :
    let no (r : Reason) : Prop :=
      s.Reads (.writeStation h n (.of depth) window decks flag) h .writeStation (.refused r, .nothing)
    (16 ≤ n → no .outOfRange) ∧
    ∀ st, stationCode n = some st →
      (s.isIn .service .parked = false → no .notParked) ∧
      (s.isIn .service .parked = true →
        ((∃ c ∈ s.queues.get .service, c.work.names st = true) → no .stationInUse) ∧
        ((∀ c ∈ s.queues.get .service, c.work.names st = false) →
          (readStation st depth window decks flag = none → no .outOfRange) ∧
          (∀ e, readStation st depth window decks flag = some e → e.inService = true → e.depth = none →
            no .noLandingDepth))) := by
  intro no
  refine ⟨fun large => ?_, fun st hn => ?_⟩
  · refine State.answers_writeStation a ?_
    unfold takeWriteStation
    rw [stationCode_of_not_lt (by omega)]
    rfl
  have refused : ∀ r, firstFailing (s.stationTests st (readStation st depth window decks flag)) = some r → no r := by
    intro r fails
    refine State.answers_writeStation a ?_
    rw [takeWriteStation_named hn]
    exact State.tested_some ((congrArg firstFailing (s.heard_stationTests ..)).trans fails) _
  refine ⟨fun unparked => refused _ ?_, fun parked => ⟨fun named => refused _ ?_, fun unnamed => ?_⟩⟩
  · simp [State.stationTests, firstFailing, unparked]
  · have used : (s.queues.get .service).any (fun c => c.work.names st) = true := by
      simpa using named
    simp [State.stationTests, firstFailing, parked, used]
  · have idle : (s.queues.get .service).any (fun c => c.work.names st) = false := by
      simpa using unnamed
    refine ⟨fun unread => refused _ ?_, fun e read inService landless => refused _ ?_⟩
    · simp [State.stationTests, firstFailing, parked, idle, unread]
    · simp [State.stationTests, firstFailing, parked, idle, read, inService, landless]

theorem deckSetCode_eq_some {n : Nat} {d : DeckSet} :
    deckSetCode n = some d ↔ n < 8 ∧ d.upper = n.testBit 0 ∧ d.middle = n.testBit 1 ∧ d.lower = n.testBit 2 := by
  obtain ⟨upper, middle, lower⟩ := d
  unfold deckSetCode
  split
  · next small =>
    simp only [Option.some.injEq, DeckSet.mk.injEq, small, true_and]
    exact ⟨fun ⟨a, b, c⟩ => ⟨a.symm, b.symm, c.symm⟩, fun ⟨a, b, c⟩ => ⟨a.symm, b.symm, c.symm⟩⟩
  · next large => simp [large]

theorem flagCode_eq_some {n : Nat} {b : Bool} : flagCode n = some b ↔ n = 0 ∧ b = false ∨ n = 1 ∧ b = true := by
  match n with
  | 0 => simp [flagCode, eq_comm]
  | 1 => simp [flagCode, eq_comm]
  | n + 2 => simp [flagCode]

theorem landingOk_iff {st : Fin 16} {depth : Option Int} :
    landingOk st depth = true ↔ (st = 0 → depth = some 0) ∧ ∀ d, depth = some d → 0 ≤ d ∧ d ≤ 3200000 := by
  unfold landingOk
  by_cases zero : st = 0
  · rw [if_pos zero, beq_iff_eq]
    constructor
    · rintro rfl
      exact ⟨fun _ => rfl, fun d k => (by cases k; decide)⟩
    · exact fun k => k.1 zero
  · rw [if_neg zero]
    cases depth <;> simp [zero]

/-- The station entry that a request's fields give (R7, R8). -/
theorem readStation_eq_some (st : Fin 16) (depth : Option Int) (window decks flag : Nat) (e : Station) :
    readStation st depth window decks flag = some e ↔
      e.depth = depth ∧ e.window = window ∧ (flag = 0 ∧ e.inService = false ∨ flag = 1 ∧ e.inService = true) ∧
      1 ≤ decks ∧ decks ≤ 7 ∧ (e.decks.upper = decks.testBit 0 ∧ e.decks.middle = decks.testBit 1 ∧
        e.decks.lower = decks.testBit 2) ∧
      10 ≤ window ∧ window ≤ 150 ∧ (st = 0 → depth = some 0) ∧ (∀ d, depth = some d → 0 ≤ d ∧ d ≤ 3200000) := by
  have fields : readStation st depth window decks flag = some e ↔
      ∃ ds b, deckSetCode decks = some ds ∧ flagCode flag = some b ∧
        (landingOk st depth && between 10 150 window && decide (0 < decks)) = true ∧ ⟨depth, window, ds, b⟩ = e := by
    unfold readStation
    cases deckSetCode decks <;> cases flagCode flag <;> simp
  rw [fields]
  constructor
  · rintro ⟨ds, b, hds, hb, ok, rfl⟩
    obtain ⟨small, bits⟩ := deckSetCode_eq_some.mp hds
    simp only [Bool.and_eq_true, decide_eq_true_eq, between, landingOk_iff] at ok
    obtain ⟨⟨lands, low, high⟩, pos⟩ := ok
    exact ⟨rfl, rfl, flagCode_eq_some.mp hb, pos, by omega, bits, low, high, lands.1, lands.2⟩
  · rintro ⟨rfl, rfl, hb, pos, small, bits, low, high, zero, lands⟩
    refine ⟨e.decks, e.inService, deckSetCode_eq_some.mpr ⟨by omega, bits⟩, flagCode_eq_some.mpr hb, ?_, rfl⟩
    simp only [Bool.and_eq_true, decide_eq_true_eq, between, landingOk_iff]
    exact ⟨⟨⟨zero, lands⟩, low, high⟩, pos⟩

/-! ## WRITE ROCK POINT (R10) -/

/-- Between two states only queues, ended-call lists and pipelines differ. -/
def State.Requeues (s t : State) : Prop := t = { s with queues := t.queues, ended := t.ended, pipes := t.pipes }

theorem State.Requeues.trans {s t u : State} (h : s.Requeues t) (k : t.Requeues u) : s.Requeues u := by
  unfold State.Requeues at *
  refine k.trans ?_
  rw [h]

theorem State.returnCall_requeues (s : State) (w : Winder) (c : Call) (st : CallState) : s.Requeues (s.returnCall w c st) := by
  unfold State.returnCall
  dsimp only
  split <;> rfl

/-- An outcome that no counter tells of. -/
theorem State.endTripRecord_requeues (s : State) (w : Winder) (t : Trip) {o : TripOutcome} (uncounted : ∀ c : Counters, c.tripEnded o = c) :
    s.Requeues (s.endTripRecord w t o) := by
  have same : ∀ u : State, u.withCounters w (fun c => c.tripEnded o) = u := by
    intro u
    have e : u.counters.set w ((u.counters.get w).tripEnded o) = u.counters := by
      rw [uncounted]
      exact PerWinder.set_get ..
    exact congrArg (fun c => { u with counters := c }) e
  unfold State.endTripRecord
  rw [same]
  unfold State.endSource
  split <;> rfl

theorem State.withdrawStaged_requeues (s : State) (w : Winder) (st : CallState) : s.Requeues (s.withdrawStaged w st) := by
  unfold State.withdrawStaged
  split
  · exact State.Requeues.trans (t := s.withPipe w Pipe.unstage) rfl (State.returnCall_requeues ..)
  · unfold State.discardStaged
    split
    · rfl
    · exact State.Requeues.trans (t := s.withPipe w Pipe.unstage) rfl (State.endTripRecord_requeues _ _ _ (fun _ => rfl))

/-- Unpairing changes the pairing, the pair condition, and what it does to the rock queue and its staged cycle. -/
theorem State.unpair_eq (s : State) :
    s.unpair =
      { s with pairing := s.unpair.pairing, pairBeyond := s.unpair.pairBeyond, queues := s.unpair.queues
               ended := s.unpair.ended, pipes := s.unpair.pipes } := by
  unfold State.unpair
  split
  · rfl
  · dsimp only
    generalize e : ({ s with pairing := .unpaired, pairBeyond := false } : State).withQueue .rock
      (fun q => q.map (fun c => { c with state := .heldPairing })) = u
    have cycle : u.Requeues u.unstageCycle := by
      unfold State.unstageCycle
      split
      · exact State.withdrawStaged_requeues ..
      · rfl
    have all : u.Requeues u.unstageCycle.formReadiness := cycle.trans rfl
    unfold State.Requeues at all
    show u.unstageCycle.formReadiness = _
    generalize u.unstageCycle.formReadiness = v at all
    rw [all, ← e]
    rfl

theorem State.unpair_pairing (s : State) : s.unpair.pairing = .unpaired := by
  unfold State.unpair
  split
  · assumption
  · dsimp only
    have cycle : ∀ u : State, u.unstageCycle.formReadiness.pairing = u.pairing := by
      intro u
      show u.unstageCycle.pairing = u.pairing
      unfold State.unstageCycle
      split
      · exact (u.withdrawStaged_still .rock .waiting).pairing
      · rfl
    exact cycle _

theorem State.answers_writeRockPoint {s t : State} {h : Head} {n : Nat} {depth : Option Int} {window : Option Nat}
    {r : Code × Answer}
    (a : s.admits h .writeRockPoint (1 + optionalSize 4 (Presence.of depth) + optionalSize 1 (Presence.of window)) none)
    (e : takeWriteRockPoint n depth window (s.heard h .writeRockPoint) = (t, r)) :
    s.Answers (.writeRockPoint h n (.of depth) (.of window)) h .writeRockPoint t r :=
  State.answers_of_request rfl a (by rw [withRead_of, withRead_of]; exact e)

theorem takeWriteRockPoint_named {n : Nat} {r : RockPoint} (hn : rockPointCode n = some r) (depth : Option Int)
    (window : Option Nat) (s : State) :
    takeWriteRockPoint n depth window s =
      s.tested (s.rockPointTests r depth window) (fun s => (s.writePoint r depth window, done)) := by
  unfold takeWriteRockPoint
  rw [hn]

theorem State.heard_rockPointTests (s : State) (h : Head) (k : Kind) (r : RockPoint) (depth : Option Int) (window : Option Nat) :
    (s.heard h k).rockPointTests r depth window = s.rockPointTests r depth window := by
  rw [State.heard_eq]
  rfl

/-- The rock points written leave the span of the current pairing, where there is one, as it was. -/
def State.KeepsSpan (s : State) (points : RockPoints) : Prop :=
  ∀ p, s.pairing = .paired p →
    points.tip.depth + (points.get p.point).depth = s.work.rockPoints.tip.depth + (s.work.rockPoints.get p.point).depth

theorem State.writePoint_keepsSpan {s : State} {r : RockPoint} {depth : Option Int} {window : Option Nat} :
    (s.withWork (fun c => { c with rockPoints := c.rockPoints.write r depth window })).currentSpan = s.currentSpan ↔
      s.KeepsSpan (s.work.rockPoints.write r depth window) := by
  unfold State.KeepsSpan State.currentSpan
  show s.pairing.pocket.map _ = s.pairing.pocket.map _ ↔ _
  cases s.pairing with
  | unpaired => simp [Pairing.pocket]
  | paired p =>
    simp only [Pairing.pocket, Option.map_some, Option.some.injEq, Pairing.paired.injEq, forall_eq']
    rfl

/-- What a rock point written leaves, by whether the current pairing keeps its span (R10, R135). -/
theorem State.writeRockPoint_taken {s : State} {h : Head} {n : Nat} {r : RockPoint} {depth : Option Int} {window : Option Nat}
    (hn : rockPointCode n = some r)
    (pass : firstFailing (s.rockPointTests r depth window) = none)
    (a : s.admits h .writeRockPoint (1 + optionalSize 4 (Presence.of depth) + optionalSize 1 (Presence.of window)) none) :
    let written : State :=
      { s.heard h .writeRockPoint with work := { s.work with rockPoints := s.work.rockPoints.write r depth window } }
    let answers (t : State) : Prop :=
      s.Answers (.writeRockPoint h n (.of depth) (.of window)) h .writeRockPoint t (.done, .nothing)
    (s.KeepsSpan (s.work.rockPoints.write r depth window) → answers written) ∧
    (¬s.KeepsSpan (s.work.rockPoints.write r depth window) → answers written.unpair) := by
  intro written answers
  have taken : takeWriteRockPoint n depth window (s.heard h .writeRockPoint) =
      ((s.heard h .writeRockPoint).writePoint r depth window, done) :=
    (takeWriteRockPoint_named hn ..).trans (State.tested_none ((congrArg firstFailing (s.heard_rockPointTests ..)).trans pass) _)
  have same : (s.heard h .writeRockPoint).withWork (fun c => { c with rockPoints := c.rockPoints.write r depth window }) =
      written := by
    unfold State.withWork
    rw [State.heard_work]
  have span : written.currentSpan = (s.heard h .writeRockPoint).currentSpan ↔
      s.KeepsSpan (s.work.rockPoints.write r depth window) := by
    rw [← same, State.writePoint_keepsSpan]
    unfold State.KeepsSpan
    rw [State.heard_pairing, State.heard_work]
  refine ⟨fun kept => State.answers_writeRockPoint a (taken.trans ?_), fun changed => State.answers_writeRockPoint a (taken.trans ?_)⟩
  · unfold State.writePoint
    dsimp only
    rw [same, if_pos (span.mpr kept)]
    rfl
  · unfold State.writePoint
    dsimp only
    rw [same, if_neg (mt span.mp changed)]
    rfl

/-- The tests of WRITE ROCK POINT, passed. -/
theorem State.rockPointTests_pass {s : State} {r : RockPoint} {depth : Option Int} {window : Option Nat}
    (parked : s.isIn .rock .parked = true) (commissioning : depth ≠ none → s.commissioning = true)
    (given : ¬(depth = none ∧ window = none)) (depthRange : Option.all depthInRange depth = true)
    (windowRange : Option.all (between 10 250) window = true) (ordered : (s.work.rockPoints.write r depth window).ordered = true) :
    firstFailing (s.rockPointTests r depth window) = none := by
  have clear : (depth.isSome && !s.commissioning) = false := by
    cases depth with
    | none => rfl
    | some d => simp [commissioning (by simp)]
  have some_ : (depth.isNone && window.isNone) = false := by
    simpa [Option.isSome_iff_ne_none] using given
  simp [State.rockPointTests, firstFailing, parked, clear, some_, depthRange, windowRange, ordered]

theorem rockPointCode_of_le {n : Nat} (h : 3 ≤ n) : rockPointCode n = none := by
  match n, h with
  | _ + 3, _ => rfl

theorem State.writeRockPoint_refusals (s : State) (h : Head) (n : Nat) (depth : Option Int) (window : Option Nat)
    (a : s.admits h .writeRockPoint (1 + optionalSize 4 (Presence.of depth) + optionalSize 1 (Presence.of window)) none) :
    let no (r : Reason) : Prop :=
      s.Reads (.writeRockPoint h n (.of depth) (.of window)) h .writeRockPoint (.refused r, .nothing)
    (3 ≤ n → no .outOfRange) ∧
    ∀ r, rockPointCode n = some r →
      (s.isIn .rock .parked = false → no .notParked) ∧
      (s.isIn .rock .parked = true → depth ≠ none → s.commissioning = false → no .notCommissioning) ∧
      (s.isIn .rock .parked = true → (depth ≠ none → s.commissioning = true) →
        (depth = none ∧ window = none) ∨ (∃ d, depth = some d ∧ (d < -60000 ∨ 3200000 < d)) ∨
          (∃ x, window = some x ∧ (x < 10 ∨ 250 < x)) ∨
          (s.work.rockPoints.write r depth window).ordered = false → no .outOfRange) := by
  intro no
  refine ⟨fun large => ?_, fun r hn => ?_⟩
  · refine State.answers_writeRockPoint a ?_
    unfold takeWriteRockPoint
    rw [rockPointCode_of_le large]
    rfl
  have refused : ∀ x, firstFailing (s.rockPointTests r depth window) = some x → no x := by
    intro x fails
    refine State.answers_writeRockPoint a ?_
    rw [takeWriteRockPoint_named hn]
    exact State.tested_some ((congrArg firstFailing (s.heard_rockPointTests ..)).trans fails) _
  refine ⟨fun unparked => refused _ ?_, fun parked wanted commissioning => refused _ ?_, fun parked k wrong => refused _ ?_⟩
  · simp [State.rockPointTests, firstFailing, unparked]
  · simp [State.rockPointTests, firstFailing, parked, commissioning, Option.isSome_iff_ne_none.mpr wanted]
  · have clear : (depth.isSome && !s.commissioning) = false := by
      cases depth with
      | none => rfl
      | some d => simp [k (by simp)]
    simp only [State.rockPointTests, firstFailing, parked, clear]
    rcases wrong with ⟨rfl, rfl⟩ | ⟨d, rfl, bad⟩ | ⟨x, rfl, bad⟩ | unordered
    · rfl
    · simp [depthInRange_eq_false.mpr bad]
    · simp [between_eq_false.mpr bad]
    · simp [unordered]

/-! ## WRITE CLASS (R12) -/

theorem takeWriteClass_named {n : Nat} {c : Machine.Class} (hn : classCode n = some c) (e : ClassSettings) (s : State) :
    takeWriteClass n e s =
      s.tested (s.classTests c e) (fun s =>
        (((s.withWork (fun k => { k with classes := k.classes.set c e })).handAndCompare .service).handAndCompare .rock, done)) := by
  unfold takeWriteClass
  rw [hn]

theorem State.heard_classTests (s : State) (h : Head) (k : Kind) (c : Machine.Class) (e : ClassSettings) :
    (s.heard h k).classTests c e = s.classTests c e := by
  rw [State.heard_eq]
  rfl

theorem State.writeClass_taken {s : State} {h : Head} {n : Nat} {c : Machine.Class} {e : ClassSettings} (hn : classCode n = some c)
    (range : classInRange e = true) (creep : (s.work.classes.set c e).creepLeast = true)
    (parked : ∀ w ∈ classWinders c, s.isIn w .parked = true) (a : s.admits h .writeClass 7 none) :
    s.Answers (.writeClass h n e.maxSpeed e.decel e.limit) h .writeClass
      ((({ s.heard h .writeClass with work := { s.work with classes := s.work.classes.set c e } } :
        State).handAndCompare .service).handAndCompare .rock) (.done, .nothing) := by
  have all : (classWinders c).all (fun w => s.isIn w .parked) = true := by
    simpa using parked
  refine State.answers_of_request rfl a ?_
  refine (takeWriteClass_named hn e _).trans ((State.tested_none ?_ _).trans ?_)
  · rw [State.heard_classTests]
    simp [State.classTests, firstFailing, range, creep, all]
  · unfold State.withWork
    rw [State.heard_work]
    rfl

theorem classCode_of_le {n : Nat} (h : 6 ≤ n) : classCode n = none := by
  match n, h with
  | _ + 6, _ => rfl

theorem State.writeClass_refusals (s : State) (h : Head) (n speed decel limit : Nat) (a : s.admits h .writeClass 7 none) :
    let no (r : Reason) : Prop := s.Reads (.writeClass h n speed decel limit) h .writeClass (.refused r, .nothing)
    (6 ≤ n → no .outOfRange) ∧
    ∀ c, classCode n = some c →
      (classInRange ⟨speed, decel, limit⟩ = false ∨ (s.work.classes.set c ⟨speed, decel, limit⟩).creepLeast = false →
        no .outOfRange) ∧
      (classInRange ⟨speed, decel, limit⟩ = true → (s.work.classes.set c ⟨speed, decel, limit⟩).creepLeast = true →
        (∃ w ∈ classWinders c, s.isIn w .parked = false) → no .notParked) := by
  intro no
  refine ⟨fun large => ?_, fun c hn => ?_⟩
  · refine State.answers_of_request rfl a ?_
    unfold takeWriteClass
    rw [classCode_of_le large]
    rfl
  have refused : ∀ x, firstFailing (s.classTests c ⟨speed, decel, limit⟩) = some x → no x := by
    intro x fails
    refine State.answers_of_request rfl a ((takeWriteClass_named hn ..).trans ?_)
    exact State.tested_some ((congrArg firstFailing (s.heard_classTests ..)).trans fails) _
  refine ⟨fun wrong => refused _ ?_, fun range creep unparked => refused _ ?_⟩
  · rcases wrong with bad | bad <;> simp [State.classTests, firstFailing, bad]
  · have some_ : (classWinders c).all (fun w => s.isIn w .parked) = false := by
      simpa using unparked
    simp [State.classTests, firstFailing, range, creep, some_]

theorem State.compare_of_rest {s : State} {w : Winder} (h : s.inMotion w = false) : s.compare w = s := by
  unfold State.compare
  rw [h, Bool.and_false, if_neg Bool.false_ne_true]

theorem State.capOf_of_rest {s : State} {w : Winder} (h : s.inMotion w = false) : s.capOf w = ⟨0, none⟩ := by
  unfold State.capOf
  rw [h, if_neg Bool.false_ne_true]

/-- A cap handed on to a winder at rest is 0, and is compared with nothing (R47, R143). -/
theorem State.handAndCompare_of_rest {s : State} {w : Winder} (h : s.inMotion w = false) :
    s.handAndCompare w =
      { s with caps := s.caps.set w ⟨0, none⟩, winders := (s.handAndCompare w).winders, drives := (s.handAndCompare w).drives
               sent := (s.handAndCompare w).sent } := by
  unfold State.handAndCompare
  rw [State.compare_of_rest (s := s.handCap w) h]
  unfold State.handCap
  rw [State.capOf_of_rest h]
  unfold State.followCap
  split
  · rfl
  · dsimp only
    split <;> rfl

theorem State.followCap_state (s : State) (w v : Winder) : ((s.followCap w).winder v).state = (s.winder v).state := by
  unfold State.followCap
  split
  · rfl
  · dsimp only
    split
    · by_cases e : v = w
      · subst e
        exact (congrArg WinderRecord.state (PerWinder.get_set_self s.winders v _)).trans rfl
      · exact congrArg WinderRecord.state (PerWinder.get_set_ne s.winders _ e)
    · rfl

theorem State.inMotion_congr {s t : State} {w : Winder} (h : (s.winder w).state = (t.winder w).state) :
    s.inMotion w = t.inMotion w := by
  unfold State.inMotion
  rw [h]

theorem State.handAndCompare_inMotion_of_rest {s : State} {w : Winder} (h : s.inMotion w = false) (v : Winder) :
    (s.handAndCompare w).inMotion v = s.inMotion v := by
  refine State.inMotion_congr ?_
  unfold State.handAndCompare
  rw [State.compare_of_rest (s := s.handCap w) h]
  exact State.followCap_state ..

theorem State.handBoth_of_rest {s : State} (service : s.inMotion .service = false) (rock : s.inMotion .rock = false) :
    let t := (s.handAndCompare .service).handAndCompare .rock
    t = { s with caps := ⟨⟨0, none⟩, ⟨0, none⟩⟩, winders := t.winders, drives := t.drives, sent := t.sent } := by
  intro t
  have moving := (State.handAndCompare_inMotion_of_rest service .rock).trans rock
  have second : t = _ := State.handAndCompare_of_rest moving
  have service_ := State.handAndCompare_of_rest service
  change t = { s.handAndCompare .service with
    caps := (s.handAndCompare .service).caps.set .rock ⟨0, none⟩, winders := t.winders, drives := t.drives, sent := t.sent } at second
  generalize t = v at *
  generalize s.handAndCompare .service = u at *
  rw [second, service_]
  rfl

/-! ## The statement -/

/-- Settles O21. -/
theorem shaftWritesFollowTheirTests : Obligations.ShaftWritesFollowTheirTests := by
  refine ⟨fun s h => ⟨fun p => s.writeGeometry_pitch h p, ?_, fun n st depth window decks flag e =>
      s.writeStation_taken h n st depth window decks flag e, ?_, ?_⟩,
    fun s h => ⟨fun pitch span => s.writeGeometry_refusals h pitch span, fun n depth window decks flag =>
      s.writeStation_refusals h n depth window decks flag, fun n depth window => s.writeRockPoint_refusals h n depth window,
      fun n speed decel limit => s.writeClass_refusals h n speed decel limit⟩,
    readStation_eq_some⟩
  · intro pitch span pitchRange range commissioning parked a
    have console : h.link = .console := beq_iff_eq.mp (State.listed_of_admits a)
    have answered := s.writeGeometry_span h pitch span pitchRange range commissioning parked a
    refine answered.completes nofun ?_
    obtain ⟨u, hu⟩ : ∃ u : State, u =
      { s.heard h .writeGeometry with work := { s.work with pitch := pitch.getD s.work.pitch, span := span } } := ⟨_, rfl⟩
    rw [← hu]
    rw [State.heard_of_console _ console] at hu
    have others : ∀ c, c ≠ .counterweight → u.chillCounterweight.position c = s.position c :=
      fun c hc => (u.chillCounterweight_ne hc).trans (by rw [hu]; rfl)
    obtain ⟨estimate, report, set, suppressed, cold⟩ := u.chillCounterweight_self
    have frame := u.chillCounterweight_handsOn
    unfold State.HandsOn at frame
    refine ⟨(congrArg State.work frame).trans (congrArg State.work hu), ?_, ?_, ?_, ?_, ?_, ?_, others, by simp, ?_⟩
    · exact congrArg Position.state cold
    · exact (congrArg Position.band cold).trans (by rw [hu])
    · exact (congrArg Position.base cold).trans (by rw [hu])
    · exact congrArg Position.travel cold
    · exact congrArg Position.lastMarker cold
    · exact (congrArg Position.correction cold).trans (by rw [hu]; rfl)
    · generalize u.chillCounterweight = v at frame ⊢
      rw [frame, hu]
  · intro n r depth window hn parked commissioning given depthRange windowRange ordered a
    have pass := State.rockPointTests_pass (r := r) parked commissioning given depthRange windowRange ordered
    obtain ⟨same, changed⟩ := State.writeRockPoint_taken hn pass a
    have console : h.link = .console := beq_iff_eq.mp (State.listed_of_admits a)
    refine ⟨?_, same, changed⟩
    by_cases kept : s.KeepsSpan (s.work.rockPoints.write r depth window)
    · refine (same kept).completes nofun ?_
      rw [State.heard_of_console _ console]
      exact ⟨rfl, .inl rfl, fun p paired => ⟨fun _ => kept p paired, fun _ => rfl⟩, by simp, rfl, fun _ => ⟨rfl, rfl, rfl, rfl⟩⟩
    · refine (changed kept).completes nofun ?_
      obtain ⟨u, hu⟩ : ∃ u : State, u =
        { s.heard h .writeRockPoint with work := { s.work with rockPoints := s.work.rockPoints.write r depth window } } := ⟨_, rfl⟩
      rw [← hu]
      rw [State.heard_of_console _ console] at hu
      have unpaired := u.unpair_pairing
      have frame := u.unpair_eq
      have was : u.unpair.pairing ≠ s.pairing := by
        intro k
        rw [unpaired] at k
        exact kept (fun p paired => (by rw [paired] at k; cases k))
      refine ⟨(congrArg State.work frame).trans (congrArg State.work hu), .inr unpaired,
        fun p paired => ⟨fun k => absurd k was, fun k => ?_⟩, by simp, ?_, fun k => absurd k was⟩
      · exact absurd (fun q k' => (by rw [paired] at k'; cases k'; exact k)) kept
      · generalize u.unpair = v at frame ⊢
        rw [frame, hu]
  · intro n c speed decel limit hn range creep parked a
    have console : h.link = .console := beq_iff_eq.mp (State.listed_of_admits a)
    have answered := State.writeClass_taken (e := ⟨speed, decel, limit⟩) hn range creep parked a
    refine answered.completes nofun ⟨?_, by simp, answered, fun service rock => ?_⟩
    · exact ((State.handAndCompare_keeps _ _).trans (State.handAndCompare_keeps _ _)).work
    · have frame := State.handBoth_of_rest
        (s := { s.heard h .writeClass with work := { s.work with classes := s.work.classes.set c ⟨speed, decel, limit⟩ } })
        ((State.inMotion_congr (congrArg WinderRecord.state (s.heard_winder h _ _))).trans service)
        ((State.inMotion_congr (congrArg WinderRecord.state (s.heard_winder h _ _))).trans rock)
      generalize State.handAndCompare _ .rock = v at frame ⊢
      rw [frame, State.heard_of_console _ console]

end Sys2Proof.Machine

/-! PROOFS. The writes of the tracking settings and the markers, and of the winders' settings (O22, O23). -/

namespace Sys2Proof.Machine

theorem not_true_iff {b : Bool} : (!b) = true ↔ b = false := Bool.not_eq_true' b ▸ Iff.rfl

/-! ## WRITE TRACKING (R33) -/

theorem not_bothParked_iff {s : State} :
    (!s.bothParked) = true ↔ (s.winder .service).state ≠ .parked ∨ (s.winder .rock).state ≠ .parked := by
  unfold State.bothParked
  rw [Bool.not_eq_true', Bool.and_eq_false_iff, State.isIn_eq_false, State.isIn_eq_false]

theorem not_trackingOk_iff {x : Tracking} :
    (!trackingOk x) = true ↔
      x.growth < 5 ∨ 100 < x.growth ∨ x.coldBand < 200 ∨ 1500 < x.coldBand ∨ x.creepThreshold < 50 ∨
        1000 < x.creepThreshold ∨ x.ambiguity < 200 ∨ 3000 < x.ambiguity ∨ x.warn < 20 ∨ 1000 < x.warn ∨ x.trip < 100 ∨
        3000 < x.trip ∨ x.standstill < 10 ∨ 200 < x.standstill ∨ x.unpermitted < 50 ∨ 500 < x.unpermitted ∨
        x.pair < 500 ∨ 10000 < x.pair ∨ x.coldBand ≤ x.creepThreshold ∨ x.ambiguity < x.coldBand ∨ x.trip ≤ x.warn := by
  simp only [trackingOk, Bool.not_eq_true', Bool.and_eq_false_iff, between_eq_false, decide_eq_false_iff_not, not_lt, not_le,
    or_assoc]

theorem State.writeTracking_inOrder (s : State) (h : Head) (x : Tracking) (a : s.admits h .writeTracking 17 none) :
    TestsInOrder (fun r => s.Reads (.writeTracking h x) h .writeTracking (.refused r, .nothing))
      [((s.winder .service).state ≠ .parked ∨ (s.winder .rock).state ≠ .parked, .notParked),
       (x.growth < 5 ∨ 100 < x.growth ∨ x.coldBand < 200 ∨ 1500 < x.coldBand ∨ x.creepThreshold < 50 ∨
          1000 < x.creepThreshold ∨ x.ambiguity < 200 ∨ 3000 < x.ambiguity ∨ x.warn < 20 ∨ 1000 < x.warn ∨ x.trip < 100 ∨
          3000 < x.trip ∨ x.standstill < 10 ∨ 200 < x.standstill ∨ x.unpermitted < 50 ∨ 500 < x.unpermitted ∨
          x.pair < 500 ∨ 10000 < x.pair ∨ x.coldBand ≤ x.creepThreshold ∨ x.ambiguity < x.coldBand ∨ x.trip ≤ x.warn,
        .outOfRange)]
      (s.Answers (.writeTracking h x) h .writeTracking
        { s.heard h .writeTracking with work := { s.work with tracking := x } } (.done, .nothing)) := by
  refine State.inOrder_of_request rfl a (table := [(!s.bothParked, .notParked), (!trackingOk x, .outOfRange)])
    (act := fun s => (s.withWork (fun c => { c with tracking := x }), done)) ?_
    (.cons ⟨not_bothParked_iff.symm, rfl⟩ (.cons ⟨not_trackingOk_iff.symm, rfl⟩ .nil)) (fun _ taken => ?_)
  · rw [State.heard_eq]
    rfl
  · unfold State.withWork at taken
    rw [State.heard_work] at taken
    exact taken

/-! ## Markers (R24) -/

/-- What a marker id finds once an entry is put at its own (R24). -/
theorem putMarker_find (m : Marker) (l : List Marker) (j : Nat) :
    (putMarker m l).find? (fun x => x.id == j) = if j = m.id then some m else l.find? (fun x => x.id == j) := by
  induction l with
  | nil =>
    by_cases e : j = m.id
    · simp [putMarker, e]
    · simp [putMarker, e, Ne.symm e]
  | cons x rest ih =>
    unfold putMarker
    rcases lt_trichotomy x.id m.id with less | same | more
    · rw [if_pos less]
      by_cases here : x.id = j
      · have other : j ≠ m.id := by omega
        simp [here, other]
      · simp [here, ih]
    · rw [if_neg (by omega), if_pos same]
      by_cases e : j = m.id
      · simp [e]
      · have other : x.id ≠ j := by omega
        simp [e, Ne.symm e, other]
    · rw [if_neg (by omega), if_neg (by omega)]
      by_cases e : j = m.id
      · simp [e]
      · simp [e, Ne.symm e]

theorem State.heard_markerTests (s : State) (h : Head) (k : Kind) (m : Marker) : (s.heard h k).markerTests m = s.markerTests m := by
  rw [State.heard_eq]
  rfl

theorem State.heard_removeMarkerTests (s : State) (h : Head) (k : Kind) (id : Nat) :
    (s.heard h k).removeMarkerTests id = s.removeMarkerTests id := by
  rw [State.heard_eq]
  rfl

theorem conveyanceCode_of_le {n : Nat} (h : 4 ≤ n) : conveyanceCode n = none := by
  match n, h with
  | _ + 4, _ => rfl

theorem State.marker_isNone_iff {s : State} {id : Nat} : (s.marker id).isNone = true ↔ ∀ m ∈ s.work.markers, m.id ≠ id := by
  unfold State.marker
  rw [Option.isNone_iff_eq_none, List.find?_eq_none]
  simp

theorem State.writeMarker_inOrder (s : State) (h : Head) (id n : Nat) (depth : Int) (accuracy : Nat)
    (a : s.admits h .writeMarker 7 none) (c : Conveyance) (hn : conveyanceCode n = some c) :
    TestsInOrder (fun r => s.Reads (.writeMarker h id n depth accuracy) h .writeMarker (.refused r, .nothing))
      [(s.commissioning = false, .notCommissioning),
       ((s.winder (ownerOf c)).state ≠ .parked, .notParked),
       (id < 1 ∨ 255 < id ∨ depth < -60000 ∨ 3200000 < depth ∨ accuracy < 5 ∨ 50 < accuracy, .outOfRange),
       ((∀ m ∈ s.work.markers, m.id ≠ id) ∧ 48 ≤ s.work.markers.length, .tableFull)]
      (Completes (.writeMarker h id n depth accuracy) s (fun t =>
        (∀ j, t.work.markers.find? (fun m => m.id == j) =
          if j = id then some ⟨id, c, depth, accuracy⟩ else s.work.markers.find? (fun m => m.id == j)) ∧
        t = s.answering { s.heard h .writeMarker with work := { s.work with markers := t.work.markers } } h .writeMarker
          (.done, .nothing))) := by
  have range : (id < 1 ∨ 255 < id ∨ depth < -60000 ∨ 3200000 < depth ∨ accuracy < 5 ∨ 50 < accuracy) ↔
      (!between 1 255 id || !depthInRange depth || !between 5 50 accuracy) = true := by
    simp only [Bool.or_eq_true, Bool.not_eq_true', between_eq_false, depthInRange_eq_false, or_assoc]
  have full : ((∀ m ∈ s.work.markers, m.id ≠ id) ∧ 48 ≤ s.work.markers.length) ↔
      ((s.marker id).isNone && decide (48 ≤ s.work.markers.length)) = true := by
    rw [Bool.and_eq_true, State.marker_isNone_iff, decide_eq_true_eq]
  refine State.inOrder_of_request rfl a (table := s.markerTests ⟨id, c, depth, accuracy⟩)
    (act := fun s => (s.withWork (fun k => { k with markers := putMarker ⟨id, c, depth, accuracy⟩ k.markers }), done)) ?_
    (.cons ⟨not_true_iff.symm, rfl⟩ (.cons ⟨not_isIn_iff.symm, rfl⟩ (.cons ⟨range, rfl⟩ (.cons ⟨full, rfl⟩ .nil))))
    (fun _ taken => ?_)
  · unfold takeWriteMarker
    rw [hn]
    dsimp only
    rw [State.heard_markerTests]
  · unfold State.withWork at taken
    rw [State.heard_work] at taken
    refine ⟨_, taken, fun j => ?_, ?_⟩
    · exact putMarker_find ..
    · rfl

theorem State.removeMarker_inOrder (s : State) (h : Head) (id : Nat) (a : s.admits h .removeMarker 1 none) :
    let entry := s.work.markers.find? (fun m => m.id == id)
    TestsInOrder (fun r => s.Reads (.removeMarker h id) h .removeMarker (.refused r, .nothing))
      [(s.commissioning = false, .notCommissioning),
       (entry = none, .noSuchMarker),
       (∃ m, entry = some m ∧ (s.winder (ownerOf m.compartment)).state ≠ .parked, .notParked)]
      (s.Answers (.removeMarker h id) h .removeMarker
        { s.heard h .removeMarker with
          work := { s.work with markers := s.work.markers.filter (fun m => m.id != id) } } (.done, .nothing)) := by
  intro entry
  have unparked : (∃ m, entry = some m ∧ (s.winder (ownerOf m.compartment)).state ≠ .parked) ↔
      (s.marker id).any (fun m => !s.isIn (ownerOf m.compartment) .parked) = true := by
    simp only [Option.any_eq_true, not_isIn_iff]
    rfl
  refine State.inOrder_of_request rfl a (table := s.removeMarkerTests id)
    (act := fun t => (t.withWork (fun k => { k with markers := k.markers.filter (fun m => m.id != id) }), done)) ?_
    (.cons ⟨not_true_iff.symm, rfl⟩ (.cons ⟨Option.isNone_iff_eq_none.symm, rfl⟩ (.cons ⟨unparked, rfl⟩ .nil)))
    (fun _ taken => ?_)
  · rw [State.heard_removeMarkerTests]
  · unfold State.withWork at taken
    rw [State.heard_work] at taken
    exact taken

/-- Settles O22. -/
theorem trackingWritesAreTaken : Obligations.TrackingWritesAreTaken := by
  refine fun s h => ⟨s.writeTracking_inOrder h, fun id n depth accuracy a => ⟨fun large => ?_, fun c hn =>
    s.writeMarker_inOrder h id n depth accuracy a c hn⟩, s.removeMarker_inOrder h⟩
  refine State.answers_of_request rfl a ?_
  unfold takeWriteMarker
  rw [conveyanceCode_of_le large]
  rfl

/-! ## The settings of the winders (R85, R111, R116, R134) -/

theorem payloadActionCode_eq_none {n : Nat} : payloadActionCode n = none ↔ 2 ≤ n := by
  match n with
  | 0 => simp [payloadActionCode]
  | 1 => simp [payloadActionCode]
  | n + 2 => simp [payloadActionCode]

theorem not_between_iff {lo hi n : Nat} : (!between lo hi n) = true ↔ n < lo ∨ hi < n := by
  rw [Bool.not_eq_true', between_eq_false]

/-- WRITE PAYLOAD as one table of tests. -/
theorem takeWritePayload_tested (tolerance code : Nat) (s : State) :
    takeWritePayload tolerance code s =
      s.tested [(!s.isIn .rock .parked, .notParked),
          ((payloadActionCode code).isNone || !between 200 3000 tolerance, .outOfRange)]
        (fun s => match payloadActionCode code with
          | none => (s, refuse .outOfRange)
          | some a => (s.withWork (fun c => { c with payloadTolerance := tolerance, payloadAction := a }), done)) := by
  unfold takeWritePayload State.tested
  cases s.isIn .rock .parked with
  | false => rfl
  | true =>
    cases payloadActionCode code with
    | none => rfl
    | some a => cases between 200 3000 tolerance <;> rfl

/-- Settles O23. -/
theorem winderSettingsAreWritten : Obligations.WinderSettingsAreWritten := by
  intro s h
  refine ⟨fun n w hw => ⟨fun limit a => ?_, fun ms a => ?_, fun base cap a => ?_⟩, fun tolerance code a => ?_⟩
  · refine State.inOrder_of_winderRequest hw rfl a (table := [(!s.isIn w .parked, .notParked), (!between 1 6 limit, .outOfRange)])
      (act := fun s => ({ s with work := { s.work with offerLimit := s.work.offerLimit.set w limit } }, done)) ?_
      (.cons ⟨not_isIn_iff.symm, rfl⟩ (.cons ⟨not_between_iff.symm, rfl⟩ .nil)) (fun _ taken => ?_)
    · rw [State.heard_eq]
      rfl
    · rw [State.heard_work] at taken
      exact taken
  · refine State.inOrder_of_winderRequest hw rfl a (table := [(!s.isIn w .parked, .notParked), (!between 20 500 ms, .outOfRange)])
      (act := fun s => ({ s with work := { s.work with reportInterval := s.work.reportInterval.set w ms } }, done)) ?_
      (.cons ⟨not_isIn_iff.symm, rfl⟩ (.cons ⟨not_between_iff.symm, rfl⟩ .nil)) (fun _ taken => ?_)
    · rw [State.heard_eq]
      rfl
    · rw [State.heard_work] at taken
      exact taken
  · have range : (base < 500 ∨ 5000 < base ∨ 3 < cap) ↔ (!between 500 5000 base || !between 0 3 cap) = true := by
      simp only [Bool.or_eq_true, not_between_iff]
      omega
    refine State.inOrder_of_winderRequest hw rfl a
      (table := [(!s.isIn w .parked, .notParked), (!between 500 5000 base || !between 0 3 cap, .outOfRange)])
      (act := fun s => ({ s with work := { s.work with settle := s.work.settle.set w ⟨base, cap⟩ } }, done)) ?_
      (.cons ⟨not_isIn_iff.symm, rfl⟩ (.cons ⟨range, rfl⟩ .nil)) (fun _ taken => ?_)
    · rw [State.heard_eq]
      rfl
    · rw [State.heard_work] at taken
      exact taken
  · have range : (2 ≤ code ∨ tolerance < 200 ∨ 3000 < tolerance) ↔
        ((payloadActionCode code).isNone || !between 200 3000 tolerance) = true := by
      rw [Bool.or_eq_true, not_between_iff, Option.isNone_iff_eq_none, payloadActionCode_eq_none]
    refine State.inOrder_of_request rfl a
      (table := [(!s.isIn .rock .parked, .notParked),
        ((payloadActionCode code).isNone || !between 200 3000 tolerance, .outOfRange)])
      ((takeWritePayload_tested tolerance code _).trans (by rw [State.heard_isIn]))
      (.cons ⟨not_isIn_iff.symm, rfl⟩ (.cons ⟨range, rfl⟩ .nil)) (fun _ taken action named => ?_)
    rw [named] at taken
    unfold State.withWork at taken
    rw [State.heard_work] at taken
    exact taken

end Sys2Proof.Machine

/-! PROOFS. Drum scales, references and RESTART TRACKING (O24): what a run over a list of conveyances does to their records. -/

namespace Sys2Proof.Machine

/-! ## Conveyances, winders and drums -/

theorem mem_conveyancesOf {c : Conveyance} {w : Winder} : c ∈ conveyancesOf w ↔ ownerOf c = w := by
  cases c <;> cases w <;> decide

theorem conveyancesOf_nodup (w : Winder) : (conveyancesOf w).Nodup := by
  cases w <;> decide

theorem hungFrom_nodup (d : Drum) : (hungFrom d).Nodup := by
  cases d <;> decide

theorem mem_hungFrom {c : Conveyance} {d : Drum} : c ∈ hungFrom d ↔ drumOf c = d := by
  cases c <;> cases d <;> decide

theorem ownerOf_of_mem_hungFrom {c : Conveyance} {d : Drum} (h : c ∈ hungFrom d) : ownerOf c = drumWinder d := by
  rw [mem_hungFrom] at h
  subst h
  cases c <;> rfl

theorem drumCode_of_le {n : Nat} (h : 3 ≤ n) : drumCode n = none := by
  match n, h with
  | _ + 3, _ => rfl

/-! ## Frames -/

/-- Between two states only the settings, the records, the drum depths and what is handed on differ. -/
def State.Tracks (s t : State) : Prop :=
  t = { s with work := t.work, positions := t.positions, drumDepth := t.drumDepth, metresFrom := t.metresFrom, caps := t.caps
               restricted := t.restricted, winders := t.winders, drives := t.drives, sent := t.sent }

theorem State.Tracks.trans {s t u : State} (h : s.Tracks t) (k : t.Tracks u) : s.Tracks u := by
  unfold State.Tracks at *
  refine k.trans ?_
  rw [h]

theorem State.HandsOn.tracks {s t : State} (h : s.HandsOn t) : s.Tracks t := by
  unfold State.HandsOn at h
  unfold State.Tracks
  rw [h]

theorem State.HandsOn.work {s t : State} (h : s.HandsOn t) : t.work = s.work := by
  unfold State.HandsOn at h
  rw [h]

theorem State.HandsOn.drumDepth {s t : State} (h : s.HandsOn t) : t.drumDepth = s.drumDepth := by
  unfold State.HandsOn at h
  rw [h]

theorem State.HandsOn.metresFrom {s t : State} (h : s.HandsOn t) : t.metresFrom = s.metresFrom := by
  unfold State.HandsOn at h
  rw [h]

theorem State.HandsOn.zones {s t : State} (h : s.HandsOn t) : t.zones = s.zones := by
  unfold State.HandsOn at h
  rw [h]

/-! ## Runs over a list of conveyances -/

/-- One change made to the record of each conveyance of a list. -/
def State.withEach (s : State) (l : List Conveyance) (f : Position → Position) : State :=
  l.foldl (fun s c => s.withPosition c f) s

theorem State.withEach_cons (s : State) (c : Conveyance) (l : List Conveyance) (f : Position → Position) :
    s.withEach (c :: l) f = (s.withPosition c f).withEach l f := rfl

theorem State.withEach_handsOn (s : State) (l : List Conveyance) (f : Position → Position) : s.HandsOn (s.withEach l f) := by
  induction l generalizing s with
  | nil => exact .refl s
  | cons c l ih => exact State.HandsOn.trans (t := s.withPosition c f) rfl (ih _)

theorem State.withEach_of_not_mem (s : State) {l : List Conveyance} (f : Position → Position) {c : Conveyance} (h : c ∉ l) :
    (s.withEach l f).position c = s.position c := by
  induction l generalizing s with
  | nil => rfl
  | cons d l ih =>
    rw [List.mem_cons, not_or] at h
    rw [State.withEach_cons, ih _ h.2, State.withPosition_position_ne _ _ _ h.1]

theorem State.withEach_of_mem (s : State) {l : List Conveyance} (nodup : l.Nodup) (f : Position → Position) {c : Conveyance}
    (h : c ∈ l) : (s.withEach l f).position c = f (s.position c) := by
  induction l generalizing s with
  | nil => cases h
  | cons d l ih =>
    obtain ⟨fresh, rest⟩ := List.nodup_cons.mp nodup
    rw [State.withEach_cons]
    by_cases e : c = d
    · subst e
      rw [State.withEach_of_not_mem _ _ fresh, State.withPosition_position_self]
    · rw [ih _ rest ((List.mem_cons.mp h).resolve_left e), State.withPosition_position_ne _ _ _ e]

/-- The record that a conveyance has once it is put into Cold (R27). -/
def State.coldRecord (s : State) (c : Conveyance) (report : Option Int) : Position :=
  { s.position c with
    estimate := s.freshEstimate c, reportEstimate := report, base := s.work.tracking.coldBand
    band := s.work.tracking.coldBand, travel := 0, lastMarker := none, state := .cold }

theorem State.depthOf_congr {s t : State} {c : Conveyance} (work : t.work.span = s.work.span)
    (correction : (t.position c).correction = (s.position c).correction) (d : Int) : t.depthOf c d = s.depthOf c d := by
  cases c <;> simp only [State.depthOf, work, correction]

theorem State.freshEstimate_congr {s t : State} {c : Conveyance} (work : t.work.span = s.work.span)
    (drum : t.drumDepth = s.drumDepth) (record : t.position c = s.position c) : t.freshEstimate c = s.freshEstimate c := by
  unfold State.freshEstimate
  rw [drum, record]
  simp only [State.depthOf_congr work (congrArg Position.correction record)]

theorem State.coldRecord_congr {s t : State} {c : Conveyance} (work : t.work = s.work) (drum : t.drumDepth = s.drumDepth)
    (record : t.position c = s.position c) (report : Option Int) : t.coldRecord c report = s.coldRecord c report := by
  unfold State.coldRecord
  rw [State.freshEstimate_congr (congrArg Settings.span work) drum record, record, work]

theorem State.chill_handsOn (s : State) (l : List Conveyance) : s.HandsOn (s.chill l) := by
  induction l generalizing s with
  | nil => exact .refl s
  | cons c l ih => exact (s.makeCold_handsOn c).trans (ih _)

theorem State.chill_of_not_mem (s : State) {l : List Conveyance} {c : Conveyance} (h : c ∉ l) :
    (s.chill l).position c = s.position c := by
  induction l generalizing s with
  | nil => rfl
  | cons d l ih =>
    rw [List.mem_cons, not_or] at h
    exact (ih (s.makeCold d) h.2).trans (s.makeCold_ne h.1)

theorem State.chill_of_mem (s : State) {l : List Conveyance} (nodup : l.Nodup) {c : Conveyance} (h : c ∈ l) :
    ∃ report, (s.chill l).position c = s.coldRecord c report := by
  induction l generalizing s with
  | nil => cases h
  | cons d l ih =>
    obtain ⟨fresh, rest⟩ := List.nodup_cons.mp nodup
    by_cases e : c = d
    · subst e
      obtain ⟨report, cold⟩ := s.makeCold_self c
      exact ⟨report, (State.chill_of_not_mem (s.makeCold c) fresh).trans cold⟩
    · obtain ⟨report, cold⟩ := ih (s.makeCold d) rest ((List.mem_cons.mp h).resolve_left e)
      have kept := s.makeCold_handsOn d
      exact ⟨report, cold.trans (State.coldRecord_congr kept.work kept.drumDepth (s.makeCold_ne e) report)⟩

/-- Records that enter Cold with the estimates they have, as one change made to each. -/
theorem State.cool_eq (s : State) (l : List Conveyance) :
    s.cool l = s.withEach l (fun p => p.enterCold s.work.tracking.coldBand) := by
  induction l generalizing s with
  | nil => rfl
  | cons c l ih => exact ih _

/-! ## The rebuild of a winder's zone sets -/

theorem State.touched_congr {s t : State} {c : Conveyance} (zones : t.zones = s.zones) (record : t.position c = s.position c) :
    t.touched c = s.touched c := by
  unfold State.touched
  rw [zones, record]

/-- A winder's two conveyances. -/
theorem mem_conveyancesOf_cases {c : Conveyance} {w : Winder} (h : c ∈ conveyancesOf w) :
    c = firstConveyance w ∧ c ≠ secondConveyance w ∨ c = secondConveyance w ∧ c ≠ firstConveyance w := by
  rw [mem_conveyancesOf] at h
  subst h
  cases c <;> decide

theorem State.rebuildWinder_handsOn (s : State) (w : Winder) : s.HandsOn (s.rebuildWinder w) :=
  State.HandsOn.trans (t := (s.rebuildSet (firstConveyance w)).rebuildSet (secondConveyance w)) rfl (State.handOn_handsOn _ w)

theorem State.rebuildWinder_of_mem (s : State) {w : Winder} {c : Conveyance} (h : c ∈ conveyancesOf w) :
    (s.rebuildWinder w).position c = (s.position c).withSet (s.touched c) := by
  unfold State.rebuildWinder
  rw [State.handOn_position]
  rcases mem_conveyancesOf_cases h with ⟨rfl, other⟩ | ⟨rfl, other⟩
  · rw [State.rebuildSet_ne _ other, State.rebuildSet_self]
  · have record : (s.rebuildSet (firstConveyance w)).position (secondConveyance w) = s.position (secondConveyance w) :=
      State.rebuildSet_ne _ other
    rw [State.rebuildSet_self, State.touched_congr (s := s) (t := s.rebuildSet (firstConveyance w)) rfl record, record]

theorem State.rebuildWinder_of_not_mem (s : State) {w : Winder} {c : Conveyance} (h : ownerOf c ≠ w) :
    (s.rebuildWinder w).position c = s.position c := by
  have others : c ≠ firstConveyance w ∧ c ≠ secondConveyance w := by
    constructor <;> rintro rfl <;> exact h (by cases w <;> rfl)
  unfold State.rebuildWinder
  rw [State.handOn_position, State.rebuildSet_ne _ others.2, State.rebuildSet_ne _ others.1]

/-! ## RESTART TRACKING (R23) -/

theorem State.restartTracking_taken {s : State} {h : Head} {n : Nat} {w : Winder} (hw : winderCode n = some w)
    (parked : s.isIn w .parked = true) (a : s.admits h .restartTracking 1 (some n)) :
    s.Answers (.restartTracking h n) h .restartTracking (((s.heard h .restartTracking).chill (conveyancesOf w)).rebuildWinder w)
      (.done, .nothing) := by
  refine State.answers_of_winderRequest hw rfl a (State.tested_none ?_ _)
  simp [firstFailing, parked]

theorem State.restartTracking_refused {s : State} {h : Head} {n : Nat} {w : Winder} (hw : winderCode n = some w)
    (unparked : (s.winder w).state ≠ .parked) (a : s.admits h .restartTracking 1 (some n)) :
    s.Reads (.restartTracking h n) h .restartTracking (.refused .notParked, .nothing) := by
  refine State.answers_of_winderRequest hw rfl a (State.tested_some ?_ _)
  simp [firstFailing, State.isIn_eq_false.mpr unparked]

/-- What RESTART TRACKING leaves (R23, R27). -/
theorem State.restarted_record (s : State) {w : Winder} {c : Conveyance} (h : c ∈ conveyancesOf w) :
    ∃ report set, ((s.chill (conveyancesOf w)).rebuildWinder w).position c = (s.coldRecord c report).withSet set := by
  obtain ⟨report, cold⟩ := s.chill_of_mem (conveyancesOf_nodup w) h
  refine ⟨report, (s.chill (conveyancesOf w)).touched c, ?_⟩
  rw [State.rebuildWinder_of_mem _ h, cold]

theorem State.restarted_other (s : State) {w : Winder} {c : Conveyance} (h : ownerOf c ≠ w) :
    ((s.chill (conveyancesOf w)).rebuildWinder w).position c = s.position c := by
  rw [State.rebuildWinder_of_not_mem _ h, State.chill_of_not_mem _ (mt mem_conveyancesOf.mp h)]

theorem State.restarted_handsOn (s : State) (w : Winder) : s.HandsOn ((s.chill (conveyancesOf w)).rebuildWinder w) :=
  (s.chill_handsOn _).trans (State.rebuildWinder_handsOn _ w)

/-! ## A drum's depth set outside a report (R27, R28) -/

theorem State.setDrumDepth_eq (s : State) (d : Drum) (depth : Int) :
    s.setDrumDepth d depth =
      ({ s with drumDepth := s.drumDepth.set d (some depth), metresFrom := s.metresFrom.set d none } : State).withEach (hungFrom d)
        (fun p => { p with motionRef := some depth }) := rfl

theorem State.setDrumDepth_tracks (s : State) (d : Drum) (depth : Int) : s.Tracks (s.setDrumDepth d depth) := by
  rw [State.setDrumDepth_eq]
  exact State.Tracks.trans (t := { s with drumDepth := s.drumDepth.set d (some depth), metresFrom := s.metresFrom.set d none })
    rfl (State.withEach_handsOn _ _ _).tracks

theorem State.setDrumDepth_drums (s : State) (d : Drum) (depth : Int) :
    (s.setDrumDepth d depth).drumDepth = s.drumDepth.set d (some depth) ∧
    (s.setDrumDepth d depth).metresFrom = s.metresFrom.set d none ∧ (s.setDrumDepth d depth).work = s.work ∧
    (s.setDrumDepth d depth).zones = s.zones := by
  rw [State.setDrumDepth_eq]
  have kept := State.withEach_handsOn
    { s with drumDepth := s.drumDepth.set d (some depth), metresFrom := s.metresFrom.set d none } (hungFrom d)
    (fun p => { p with motionRef := some depth })
  exact ⟨kept.drumDepth, kept.metresFrom, kept.work, kept.zones⟩

theorem State.setDrumDepth_of_mem (s : State) {d : Drum} (depth : Int) {c : Conveyance} (h : c ∈ hungFrom d) :
    (s.setDrumDepth d depth).position c = { s.position c with motionRef := some depth } :=
  State.withEach_of_mem _ (hungFrom_nodup d) _ h

theorem State.setDrumDepth_of_not_mem (s : State) {d : Drum} (depth : Int) {c : Conveyance} (h : c ∉ hungFrom d) :
    (s.setDrumDepth d depth).position c = s.position c :=
  State.withEach_of_not_mem _ _ h

theorem drumOf_of_mem {c : Conveyance} {d : Drum} (h : c ∈ hungFrom d) : drumOf c = d := mem_hungFrom.mp h

/-- The estimate of a conveyance hung from a drum whose depth has just been set. -/
theorem State.freshEstimate_setDrumDepth (s : State) {d : Drum} (depth : Int) {c : Conveyance} (h : c ∈ hungFrom d) :
    (s.setDrumDepth d depth).freshEstimate c =
      if depthInRange (s.depthOf c depth) = true then some (s.depthOf c depth) else (s.position c).estimate := by
  obtain ⟨drums, _, work, _⟩ := s.setDrumDepth_drums d depth
  have record := s.setDrumDepth_of_mem depth h
  have set : (s.setDrumDepth d depth).drumDepth.get (drumOf c) = some depth := by
    rw [drums, drumOf_of_mem h]
    exact PerDrum.get_set_self ..
  rw [State.freshEstimate_some set, State.depthOf_congr (s := s) (congrArg Settings.span work) (congrArg Position.correction record :),
    record]

/-! ## WRITE DRUM SCALE (R27) -/

theorem State.recomputeDrum_none {s : State} {d : Drum} (h : s.reports.get (drumWinder d) = none) : s.recomputeDrum d = s := by
  unfold State.recomputeDrum
  rw [h]

theorem State.recomputeDrum_some {s : State} {d : Drum} {r : Report} (h : s.reports.get (drumWinder d) = some r) :
    s.recomputeDrum d = s.setDrumDepth d (s.uncorrected d (r.reading d).count) := by
  unfold State.recomputeDrum
  rw [h]

/-- The state between the drum's new depth and the rebuild: the conveyances hung from it put into Cold anew, the winder's others
with the estimates they have. -/
def State.rescaled (t : State) (d : Drum) : State :=
  (((t.chill (hungFrom d)).cool ((conveyancesOf (drumWinder d)).filter (fun c => !(hungFrom d).contains c)))).rebuildWinder
    (drumWinder d)

theorem State.rescale_eq (s : State) (d : Drum) (scale : Nat) :
    s.rescale d scale = ((s.withWork (fun c => { c with scales := c.scales.set d scale })).recomputeDrum d).rescaled d := rfl

theorem State.rescaled_handsOn (t : State) (d : Drum) : t.HandsOn (t.rescaled d) := by
  unfold State.rescaled
  rw [State.cool_eq]
  exact ((t.chill_handsOn _).trans (State.withEach_handsOn _ _ _)).trans (State.rebuildWinder_handsOn _ _)

theorem State.rescaled_other (t : State) {d : Drum} {c : Conveyance} (h : ownerOf c ≠ drumWinder d) :
    (t.rescaled d).position c = t.position c := by
  have hung : c ∉ hungFrom d := fun k => h (ownerOf_of_mem_hungFrom k)
  have winder : c ∉ (conveyancesOf (drumWinder d)).filter (fun c => !(hungFrom d).contains c) :=
    fun k => h (mem_conveyancesOf.mp (List.mem_filter.mp k).1)
  unfold State.rescaled
  rw [State.rebuildWinder_of_not_mem _ h, State.cool_eq, State.withEach_of_not_mem _ _ winder, State.chill_of_not_mem _ hung]

theorem State.rescaled_hung (t : State) {d : Drum} {c : Conveyance} (h : c ∈ hungFrom d) :
    ∃ report set, (t.rescaled d).position c = (t.coldRecord c report).withSet set := by
  obtain ⟨report, cold⟩ := t.chill_of_mem (hungFrom_nodup d) h
  have other : c ∉ (conveyancesOf (drumWinder d)).filter (fun c => !(hungFrom d).contains c) := by
    simp [h]
  unfold State.rescaled
  rw [State.rebuildWinder_of_mem _ (mem_conveyancesOf.mpr (ownerOf_of_mem_hungFrom h)), State.cool_eq,
    State.withEach_of_not_mem _ _ other, cold]
  exact ⟨report, _, rfl⟩

theorem State.rescaled_unhung (t : State) {d : Drum} {c : Conveyance} (h : c ∈ conveyancesOf (drumWinder d)) (unhung : c ∉ hungFrom d) :
    ∃ set, (t.rescaled d).position c = ((t.position c).enterCold t.work.tracking.coldBand).withSet set := by
  have other : c ∈ (conveyancesOf (drumWinder d)).filter (fun c => !(hungFrom d).contains c) := by
    simp [h, unhung]
  unfold State.rescaled
  rw [State.rebuildWinder_of_mem _ h, State.cool_eq, State.withEach_of_mem _ ((conveyancesOf_nodup _).filter _) _ other,
    State.chill_of_not_mem _ unhung, (t.chill_handsOn _).work]
  exact ⟨_, rfl⟩

theorem takeWriteDrumScale_named {n : Nat} {d : Drum} (hn : drumCode n = some d) (scale : Nat) (s : State) :
    takeWriteDrumScale n scale s = s.tested (s.scaleTests d scale) (fun s => (s.rescale d scale, done)) := by
  unfold takeWriteDrumScale
  rw [hn]

theorem State.heard_scaleTests (s : State) (h : Head) (k : Kind) (d : Drum) (scale : Nat) :
    (s.heard h k).scaleTests d scale = s.scaleTests d scale := by
  rw [State.heard_eq]
  rfl

theorem State.writeDrumScale_inOrder {s : State} {h : Head} {n scale : Nat} {d : Drum} {taken : Prop} (hn : drumCode n = some d)
    (a : s.admits h .writeDrumScale 5 none)
    (passed : s.Answers (.writeDrumScale h n scale) h .writeDrumScale ((s.heard h .writeDrumScale).rescale d scale)
      (.done, .nothing) → taken) :
    TestsInOrder (fun r => s.Reads (.writeDrumScale h n scale) h .writeDrumScale (.refused r, .nothing))
      [(s.commissioning = false, .notCommissioning),
       ((s.winder (drumWinder d)).state ≠ .parked, .notParked),
       ((s.monitor (drumWinder d)).running = true, .monitorRunning),
       (scale < 1000 ∨ 100000 < scale, .outOfRange)] taken :=
  State.inOrder_of_request rfl a (table := s.scaleTests d scale)
    ((takeWriteDrumScale_named hn scale _).trans (by rw [State.heard_scaleTests]))
    (.cons ⟨not_true_iff.symm, rfl⟩ (.cons ⟨not_isIn_iff.symm, rfl⟩ (.cons ⟨Iff.rfl, rfl⟩
      (.cons ⟨not_between_iff.symm, rfl⟩ .nil)))) (fun _ => passed)

/-! ## SET REFERENCE (R28) -/

/-- The state in which SET REFERENCE puts the records into Cold: the reference written, the corrections 0, the drum's depth set. -/
def State.referred (s : State) (d : Drum) (depth : Int) (r : Report) : State :=
  ((s.withWork (fun c => { c with references := c.references.set d ⟨depth, (r.reading d).count⟩ })).withEach (hungFrom d)
    (fun p => { p with correction := 0 })).setDrumDepth d depth

theorem State.refer_eq (s : State) (d : Drum) (depth : Int) (r : Report) :
    s.refer d depth r = ((s.referred d depth r).chill (hungFrom d)).rebuildWinder (drumWinder d) := rfl

theorem State.referred_tracks (s : State) (d : Drum) (depth : Int) (r : Report) : s.Tracks (s.referred d depth r) :=
  State.Tracks.trans (t := s.withWork (fun c => { c with references := c.references.set d ⟨depth, (r.reading d).count⟩ })) rfl
    ((State.withEach_handsOn _ _ _).tracks.trans (State.setDrumDepth_tracks ..))

theorem State.referred_drums (s : State) (d : Drum) (depth : Int) (r : Report) :
    (s.referred d depth r).drumDepth = s.drumDepth.set d (some depth) ∧
    (s.referred d depth r).metresFrom = s.metresFrom.set d none ∧
    (s.referred d depth r).work = { s.work with references := s.work.references.set d ⟨depth, (r.reading d).count⟩ } ∧
    (s.referred d depth r).zones = s.zones := by
  obtain ⟨drums, metres, work, zones⟩ := State.setDrumDepth_drums
    ((s.withWork (fun c => { c with references := c.references.set d ⟨depth, (r.reading d).count⟩ })).withEach (hungFrom d)
      (fun p => { p with correction := 0 })) d depth
  have kept := State.withEach_handsOn
    (s.withWork (fun c => { c with references := c.references.set d ⟨depth, (r.reading d).count⟩ })) (hungFrom d)
    (fun p => { p with correction := 0 })
  exact ⟨drums.trans (congrArg (fun p => p.set d (some depth)) kept.drumDepth),
    metres.trans (congrArg (fun p => p.set d none) kept.metresFrom), work.trans kept.work, zones.trans kept.zones⟩

theorem State.referred_hung (s : State) {d : Drum} (depth : Int) (r : Report) {c : Conveyance} (h : c ∈ hungFrom d) :
    (s.referred d depth r).position c = { s.position c with correction := 0, motionRef := some depth } := by
  unfold State.referred
  rw [State.setDrumDepth_of_mem _ _ h, State.withEach_of_mem _ (hungFrom_nodup d) _ h]
  rfl

theorem State.referred_unhung (s : State) {d : Drum} (depth : Int) (r : Report) {c : Conveyance} (h : c ∉ hungFrom d) :
    (s.referred d depth r).position c = s.position c := by
  unfold State.referred
  rw [State.setDrumDepth_of_not_mem _ _ h, State.withEach_of_not_mem _ _ h]
  rfl

/-- The depth of a conveyance without correction whose drum has just been set to a depth (R17, R18, R28). -/
def referredDepth (span : Nat) (c : Conveyance) (depth : Int) : Int := if c = .counterweight then span - depth else depth

theorem State.freshEstimate_referred (s : State) {d : Drum} (depth : Int) (r : Report) {c : Conveyance} (h : c ∈ hungFrom d) :
    (s.referred d depth r).freshEstimate c =
      if depthInRange (referredDepth s.work.span c depth) = true then some (referredDepth s.work.span c depth)
      else (s.position c).estimate := by
  unfold State.referred
  rw [State.freshEstimate_setDrumDepth _ _ h]
  have kept := State.withEach_handsOn
    (s.withWork (fun c => { c with references := c.references.set d ⟨depth, (r.reading d).count⟩ })) (hungFrom d)
    (fun p => { p with correction := 0 })
  have record := State.withEach_of_mem
    (s.withWork (fun c => { c with references := c.references.set d ⟨depth, (r.reading d).count⟩ })) (hungFrom_nodup d)
    (fun p => { p with correction := 0 }) h
  generalize (s.withWork (fun c => { c with references := c.references.set d ⟨depth, (r.reading d).count⟩ })).withEach
    (hungFrom d) (fun p => { p with correction := 0 }) = u at kept record
  have span : u.work.span = s.work.span := (congrArg Settings.span kept.work).trans rfl
  have depths : u.depthOf c depth = referredDepth s.work.span c depth := by
    cases c <;> simp [State.depthOf, referredDepth, span, record]
  rw [depths, record]
  rfl

theorem takeSetReference_named {n : Nat} {d : Drum} (hn : drumCode n = some d) (depth : Int) (s : State) :
    takeSetReference n depth s = s.tested (s.referenceTests d depth) (fun s => (s.referLatest d depth, done)) := by
  unfold takeSetReference
  rw [hn]

theorem State.heard_referenceTests (s : State) (h : Head) (k : Kind) (d : Drum) (depth : Int) :
    (s.heard h k).referenceTests d depth = s.referenceTests d depth := by
  rw [State.heard_eq]
  rfl

theorem State.not_latestAtRest_iff {s : State} {w : Winder} :
    (!s.latestAtRest w) = true ↔ s.reports.get w = none ∨ ∃ c ∈ conveyancesOf w, (s.position c).rest = false := by
  simp [State.latestAtRest]

theorem State.setReference_inOrder {s : State} {h : Head} {n : Nat} {depth : Int} {d : Drum} {taken : Prop}
    (hn : drumCode n = some d) (a : s.admits h .setReference 5 none)
    (passed : s.Answers (.setReference h n depth) h .setReference ((s.heard h .setReference).referLatest d depth)
      (.done, .nothing) → taken) :
    TestsInOrder (fun r => s.Reads (.setReference h n depth) h .setReference (.refused r, .nothing))
      [(s.commissioning = false, .notCommissioning),
       ((s.winder (drumWinder d)).state ≠ .parked, .notParked),
       (s.reports.get (drumWinder d) = none ∨ (∃ c ∈ conveyancesOf (drumWinder d), (s.position c).rest = false), .notAtRest),
       (depth < -60000 ∨ 3200000 < depth, .outOfRange)] taken :=
  State.inOrder_of_request rfl a (table := s.referenceTests d depth)
    ((takeSetReference_named hn depth _).trans (by rw [State.heard_referenceTests]))
    (.cons ⟨not_true_iff.symm, rfl⟩ (.cons ⟨not_isIn_iff.symm, rfl⟩ (.cons ⟨State.not_latestAtRest_iff.symm, rfl⟩
      (.cons ⟨depthInRange_eq_false.symm.trans not_true_iff.symm, rfl⟩ .nil)))) (fun _ => passed)

/-! ## The statement -/

/-- What a request of the tracker, heard on the console, changes beside the records is what its reply's frame is. -/
theorem State.Tracks.frame {s v : State} {h : Head} {k : Kind} (console : h.link = .console) (kept : (s.heard h k).Tracks v)
    (m : Sent) :
    { v with sent := v.sent ++ [m] } =
      ({ s with
          ports := v.ports, frameErrors := v.frameErrors, snapshot := none, sent := v.sent ++ [m], work := v.work
          positions := v.positions, drumDepth := v.drumDepth, metresFrom := v.metresFrom, caps := v.caps
          restricted := v.restricted, winders := v.winders, drives := v.drives } : State) := by
  unfold State.Tracks at kept
  rw [State.heard_of_console _ console] at kept
  generalize v = x at *
  rw [kept]

theorem State.writeDrumScale_none {u : State} {d : Drum} (scale : Nat) (none_ : u.reports.get (drumWinder d) = none) :
    u.rescale d scale = (u.withWork (fun c => { c with scales := c.scales.set d scale })).rescaled d := by
  rw [State.rescale_eq, State.recomputeDrum_none (s := u.withWork _) none_]

theorem State.writeDrumScale_some {u : State} {d : Drum} (scale : Nat) {r : Report} (some_ : u.reports.get (drumWinder d) = some r) :
    u.rescale d scale =
      ((u.withWork (fun c => { c with scales := c.scales.set d scale })).setDrumDepth d
        ((u.work.references.get d).depth + roundDiv (((r.reading d).count - (u.work.references.get d).count) * 1000) scale)).rescaled
        d := by
  rw [State.rescale_eq, State.recomputeDrum_some (s := u.withWork _) some_]
  unfold State.uncorrected State.withWork
  rw [PerDrum.get_set_self]

/-- A record that has entered Cold from another, as O24 puts it. -/
def ColdFrom (s : State) (before after : Position) : Prop :=
  after.state = .cold ∧ after.band = s.work.tracking.coldBand ∧ after.base = s.work.tracking.coldBand ∧
  after.travel = 0 ∧ after.lastMarker = none ∧ after.speed = before.speed ∧ after.rest = before.rest

theorem coldFrom_coldRecord {s y : State} {c : Conveyance} (work : y.work.tracking = s.work.tracking)
    (speed : (y.position c).speed = (s.position c).speed) (rest : (y.position c).rest = (s.position c).rest)
    (report : Option Int) (set : List Nat) : ColdFrom s (s.position c) ((y.coldRecord c report).withSet set) :=
  ⟨rfl, congrArg Tracking.coldBand work, congrArg Tracking.coldBand work, rfl, rfl, speed, rest⟩

theorem State.restarted_from_heard (s : State) (h : Head) {w : Winder} {c : Conveyance} (m : c ∈ conveyancesOf w) :
    ∃ report set, (((s.heard h .restartTracking).chill (conveyancesOf w)).rebuildWinder w).position c =
      (s.coldRecord c report).withSet set := by
  obtain ⟨report, set, record⟩ := (s.heard h .restartTracking).restarted_record m
  refine ⟨report, set, record.trans (congrArg (Position.withSet · set) ?_)⟩
  exact State.coldRecord_congr (s.heard_work ..) (s.heard_drumDepth ..) (s.heard_position ..) report

/-- The scales written, and where there is a report the drum's depth with them. -/
def State.scaled (s : State) (d : Drum) (scale : Nat) : State :=
  let t := s.withWork (fun c => { c with scales := c.scales.set d scale })
  match s.reports.get (drumWinder d) with
  | none => t
  | some r => t.setDrumDepth d
      ((s.work.references.get d).depth + roundDiv (((r.reading d).count - (s.work.references.get d).count) * 1000) scale)

theorem State.rescale_eq_scaled (s : State) (d : Drum) (scale : Nat) : s.rescale d scale = (s.scaled d scale).rescaled d := by
  unfold State.scaled
  cases e : s.reports.get (drumWinder d) with
  | none => exact State.writeDrumScale_none scale e
  | some r => exact State.writeDrumScale_some scale e

theorem State.scaled_work (s : State) (d : Drum) (scale : Nat) :
    (s.scaled d scale).work = { s.work with scales := s.work.scales.set d scale } := by
  unfold State.scaled
  dsimp only
  split
  · rfl
  · exact (State.setDrumDepth_drums ..).2.2.1

theorem State.scaled_tracks (s : State) (d : Drum) (scale : Nat) : s.Tracks (s.scaled d scale) := by
  unfold State.scaled
  dsimp only
  split
  · rfl
  · exact State.Tracks.trans (t := s.withWork (fun c => { c with scales := c.scales.set d scale })) rfl
      (State.setDrumDepth_tracks ..)

theorem State.scaled_unhung (s : State) {d : Drum} (scale : Nat) {c : Conveyance} (h : c ∉ hungFrom d) :
    (s.scaled d scale).position c = s.position c := by
  unfold State.scaled
  dsimp only
  split
  · rfl
  · exact State.setDrumDepth_of_not_mem _ _ h

theorem State.scaled_hung (s : State) {d : Drum} (scale : Nat) {c : Conveyance} (h : c ∈ hungFrom d) :
    ∃ ref, (s.scaled d scale).position c = { s.position c with motionRef := ref } := by
  unfold State.scaled
  dsimp only
  split
  · exact ⟨(s.position c).motionRef, rfl⟩
  · exact ⟨_, State.setDrumDepth_of_mem _ _ h⟩

/-- What WRITE DRUM SCALE leaves of the records of the drum's winder. -/
theorem State.rescale_cold (s u : State) (heard : u.position = s.position) (work : u.work = s.work) {d : Drum} (scale : Nat)
    {c : Conveyance} (m : c ∈ conveyancesOf (drumWinder d)) :
    ColdFrom s (s.position c) ((u.rescale d scale).position c) ∧
    ((u.rescale d scale).position c).correction = (s.position c).correction ∧
    (c ∉ hungFrom d → ((u.rescale d scale).position c).estimate = (s.position c).estimate ∧
      ((u.rescale d scale).position c).motionRef = (s.position c).motionRef) := by
  have tracking : (u.scaled d scale).work.tracking = s.work.tracking := by
    rw [State.scaled_work, work]
  rw [State.rescale_eq_scaled]
  by_cases hung : c ∈ hungFrom d
  · obtain ⟨ref, record⟩ := u.scaled_hung scale hung
    obtain ⟨report, set, cold⟩ := (u.scaled d scale).rescaled_hung hung
    rw [heard] at record
    rw [cold]
    exact ⟨coldFrom_coldRecord tracking ((congrArg Position.speed record).trans rfl) ((congrArg Position.rest record).trans rfl) report
      set, (congrArg Position.correction record).trans rfl, fun k => absurd hung k⟩
  · have record := (u.scaled_unhung scale hung).trans (congrFun heard c)
    obtain ⟨set, cold⟩ := (u.scaled d scale).rescaled_unhung m hung
    rw [cold, record]
    exact ⟨⟨rfl, congrArg Tracking.coldBand tracking, congrArg Tracking.coldBand tracking, rfl, rfl, rfl, rfl⟩, rfl,
      fun _ => ⟨rfl, rfl⟩⟩

theorem State.rescale_handsOn (u : State) (d : Drum) (scale : Nat) : (u.scaled d scale).HandsOn (u.rescale d scale) := by
  rw [State.rescale_eq_scaled]
  exact State.rescaled_handsOn _ d

theorem State.rescale_hung (u : State) {d : Drum} (scale : Nat) {c : Conveyance} (hung : c ∈ hungFrom d) :
    ((u.rescale d scale).position c).motionRef = ((u.scaled d scale).position c).motionRef ∧
    ((u.rescale d scale).position c).estimate = (u.scaled d scale).freshEstimate c := by
  obtain ⟨report, set, cold⟩ := (u.scaled d scale).rescaled_hung hung
  rw [State.rescale_eq_scaled, cold]
  exact ⟨rfl, rfl⟩

theorem State.rescale_other (u : State) {d : Drum} (scale : Nat) {c : Conveyance} (h : ownerOf c ≠ drumWinder d) :
    (u.rescale d scale).position c = u.position c := by
  rw [State.rescale_eq_scaled, State.rescaled_other _ h, State.scaled_unhung _ _ (fun k => h (ownerOf_of_mem_hungFrom k))]

theorem State.scaled_of_none {u : State} {d : Drum} (scale : Nat) (h : u.reports.get (drumWinder d) = none) :
    u.scaled d scale = u.withWork (fun c => { c with scales := c.scales.set d scale }) := by
  unfold State.scaled
  rw [h]

theorem State.scaled_of_some {u : State} {d : Drum} (scale : Nat) {r : Report} (h : u.reports.get (drumWinder d) = some r) :
    u.scaled d scale =
      (u.withWork (fun c => { c with scales := c.scales.set d scale })).setDrumDepth d
        ((u.work.references.get d).depth + roundDiv (((r.reading d).count - (u.work.references.get d).count) * 1000) scale) := by
  unfold State.scaled
  rw [h]

/-- What SET REFERENCE leaves of a record of a conveyance hung from the drum. -/
theorem State.refer_hung (u : State) {d : Drum} (depth : Int) (r : Report) {c : Conveyance} (h : c ∈ hungFrom d) :
    ∃ report set, (u.refer d depth r).position c = ((u.referred d depth r).coldRecord c report).withSet set := by
  obtain ⟨report, cold⟩ := (u.referred d depth r).chill_of_mem (hungFrom_nodup d) h
  refine ⟨report, ((u.referred d depth r).chill (hungFrom d)).touched c, ?_⟩
  rw [State.refer_eq, State.rebuildWinder_of_mem _ (mem_conveyancesOf.mpr (ownerOf_of_mem_hungFrom h)), cold]

theorem State.refer_unhung (u : State) {d : Drum} (depth : Int) (r : Report) {c : Conveyance}
    (m : c ∈ conveyancesOf (drumWinder d)) (h : c ∉ hungFrom d) :
    (u.refer d depth r).position c = (u.position c).withSet (u.touched c) := by
  have record : ((u.referred d depth r).chill (hungFrom d)).position c = u.position c :=
    (State.chill_of_not_mem _ h).trans (u.referred_unhung depth r h)
  have zones : ((u.referred d depth r).chill (hungFrom d)).zones = u.zones :=
    (State.chill_handsOn _ _).zones.trans (u.referred_drums d depth r).2.2.2
  rw [State.refer_eq, State.rebuildWinder_of_mem _ m, State.touched_congr zones record, record]

theorem State.refer_other (u : State) {d : Drum} (depth : Int) (r : Report) {c : Conveyance} (h : ownerOf c ≠ drumWinder d) :
    (u.refer d depth r).position c = u.position c := by
  have hung : c ∉ hungFrom d := fun k => h (ownerOf_of_mem_hungFrom k)
  rw [State.refer_eq, State.rebuildWinder_of_not_mem _ h, State.chill_of_not_mem _ hung, State.referred_unhung _ _ _ hung]

theorem State.refer_handsOn (u : State) (d : Drum) (depth : Int) (r : Report) :
    (u.referred d depth r).HandsOn (u.refer d depth r) :=
  (State.chill_handsOn _ _).trans (State.rebuildWinder_handsOn _ _)

theorem State.referLatest_some {u : State} {d : Drum} (depth : Int) {r : Report} (h : u.reports.get (drumWinder d) = some r) :
    u.referLatest d depth = u.refer d depth r := by
  unfold State.referLatest
  rw [h]

/-- Settles O24. -/
theorem drumsAndRestartMakeRecordsCold : Obligations.DrumsAndRestartMakeRecordsCold := by
  unfold Obligations.DrumsAndRestartMakeRecordsCold
  intro cold frame s h n
  refine ⟨fun w hw parked a => ?_, fun w hw unparked a => State.restartTracking_refused hw unparked a,
    fun scale a => ⟨fun large => ?_, fun d hn => State.writeDrumScale_inOrder hn a (fun taken => ?_)⟩,
    fun depth a => ⟨fun large => ?_, fun d hn => State.setReference_inOrder hn a (fun taken r latest => ?_)⟩⟩
  · have console : h.link = .console := beq_iff_eq.mp (State.listed_of_admits a)
    have kept := (s.heard h .restartTracking).restarted_handsOn w
    refine (State.restartTracking_taken hw parked a).completes nofun
      ⟨fun c m => ?_, fun c other => ?_, kept.work.trans (s.heard_work ..), kept.drumDepth.trans (s.heard_drumDepth ..),
        kept.metresFrom.trans (s.heard_metresFrom ..), kept.tracks.frame console _, by simp⟩
    · obtain ⟨report, set, record⟩ := s.restarted_from_heard h m
      have estimate := congrArg Position.estimate record
      have fresh : ColdFrom s (s.position c)
          ((((s.heard h .restartTracking).chill (conveyancesOf w)).rebuildWinder w).position c) := by
        rw [record]
        exact coldFrom_coldRecord rfl rfl rfl report set
      exact ⟨fresh, (congrArg Position.correction record :),
        fun none_ => estimate.trans (State.freshEstimate_none none_), fun x some_ => estimate.trans (State.freshEstimate_some some_)⟩
    · exact ((s.heard h .restartTracking).restarted_other other).trans (s.heard_position ..)
  · refine State.answers_of_request rfl a ?_
    unfold takeWriteDrumScale
    rw [drumCode_of_le large]
    rfl
  · have console : h.link = .console := beq_iff_eq.mp (State.listed_of_admits a)
    have position : (s.heard h .writeDrumScale).position = s.position := funext (fun c => s.heard_position ..)
    have work := s.heard_work h .writeDrumScale
    have reports := congrArg (fun p => p.get (drumWinder d)) (s.heard_reports h .writeDrumScale)
    have drums := s.heard_drumDepth h .writeDrumScale
    have metres := s.heard_metresFrom h .writeDrumScale
    have kept := (s.heard h .writeDrumScale).rescale_handsOn d scale
    have tracks := ((s.heard h .writeDrumScale).scaled_tracks d scale).trans kept.tracks
    refine taken.completes nofun
      ⟨?_, fun c m => State.rescale_cold s _ position work scale m, fun c other => ?_, fun none_ => ⟨?_, ?_, fun unset c hung => ?_⟩,
        fun r some_ => ⟨?_, ?_, fun c hung => ⟨?_, ?_⟩⟩, tracks.frame console _, by simp⟩
    · exact kept.work.trans ((State.scaled_work ..).trans (by rw [work]))
    · exact ((s.heard h .writeDrumScale).rescale_other scale other).trans (congrFun position c)
    · exact kept.drumDepth.trans ((congrArg State.drumDepth (State.scaled_of_none scale (reports.trans none_))).trans drums)
    · exact kept.metresFrom.trans ((congrArg State.metresFrom (State.scaled_of_none scale (reports.trans none_))).trans metres)
    · refine ((s.heard h .writeDrumScale).rescale_hung scale hung).2.trans ?_
      rw [State.scaled_of_none scale (reports.trans none_)]
      refine (State.freshEstimate_none ?_).trans (congrArg Position.estimate (congrFun position c))
      rw [drumOf_of_mem hung]
      exact (congrArg (fun p => p.get d) drums).trans unset
    · refine kept.drumDepth.trans ((congrArg State.drumDepth (State.scaled_of_some scale (reports.trans some_))).trans ?_)
      rw [(State.setDrumDepth_drums ..).1, work]
      show (s.heard h .writeDrumScale).drumDepth.set d _ = _
      rw [drums]
    · refine kept.metresFrom.trans ((congrArg State.metresFrom (State.scaled_of_some scale (reports.trans some_))).trans ?_)
      rw [(State.setDrumDepth_drums ..).2.1]
      exact congrArg (fun p => p.set d none) metres
    · refine ((s.heard h .writeDrumScale).rescale_hung scale hung).1.trans ?_
      rw [State.scaled_of_some scale (reports.trans some_), State.setDrumDepth_of_mem _ _ hung, work]
    · refine ((s.heard h .writeDrumScale).rescale_hung scale hung).2.trans ?_
      rw [State.scaled_of_some scale (reports.trans some_), State.freshEstimate_setDrumDepth _ _ hung, work]
      have record := congrFun position c
      have depths := State.depthOf_congr (s := s)
        (t := (s.heard h .writeDrumScale).withWork (fun c => { c with scales := c.scales.set d scale })) (c := c)
        (show (s.heard h .writeDrumScale).work.span = _ by rw [work]) (congrArg Position.correction record :)
      rw [depths]
      exact if_congr Iff.rfl rfl (congrArg Position.estimate record)
  · refine State.answers_of_request rfl a ?_
    unfold takeSetReference
    rw [drumCode_of_le large]
    rfl
  · have console : h.link = .console := beq_iff_eq.mp (State.listed_of_admits a)
    have position : ∀ c, (s.heard h .setReference).position c = s.position c := fun c => s.heard_position ..
    have work := s.heard_work h .setReference
    have reports := congrArg (fun p => p.get (drumWinder d)) (s.heard_reports h .setReference)
    rw [State.referLatest_some depth (reports.trans latest)] at taken
    have kept := (s.heard h .setReference).refer_handsOn d depth r
    obtain ⟨drums, metres, settings, _⟩ := (s.heard h .setReference).referred_drums d depth r
    have tracks := ((s.heard h .setReference).referred_tracks d depth r).trans kept.tracks
    refine taken.completes nofun ⟨?_, fun c hung => ?_, fun c m unhung => ?_, fun c other => ?_, ?_, ?_, tracks.frame console _, by simp⟩
    · exact kept.work.trans (settings.trans (by rw [work]))
    · obtain ⟨report, set, record⟩ := (s.heard h .setReference).refer_hung depth r hung
      have before := (s.heard h .setReference).referred_hung depth r hung
      rw [position] at before
      have tracking : ((s.heard h .setReference).referred d depth r).work.tracking = s.work.tracking := by
        rw [settings, work]
      refine ⟨record ▸ coldFrom_coldRecord tracking (congrArg Position.speed before :) (congrArg Position.rest before :) report set,
        ?_, ?_, ?_⟩
      · exact (congrArg Position.correction record).trans (congrArg Position.correction before)
      · exact (congrArg Position.motionRef record).trans (congrArg Position.motionRef before)
      · refine (congrArg Position.estimate record).trans (((s.heard h .setReference).freshEstimate_referred depth r hung).trans ?_)
        rw [work, position]
        rfl
    · have record := (s.heard h .setReference).refer_unhung depth r m unhung
      rw [position, State.touched_congr (s.heard_zones ..) (position c)] at record
      refine record.trans ?_
      change _ = { s.position c with
        zoneSet := s.touched c, suppressed := (((s.heard h .setReference).refer d depth r).position c).suppressed }
      rw [record]
      rfl
    · exact ((s.heard h .setReference).refer_other depth r other).trans (position c)
    · exact kept.drumDepth.trans (drums.trans (congrArg (fun p => p.set d (some depth)) (s.heard_drumDepth ..)))
    · exact kept.metresFrom.trans (metres.trans (congrArg (fun p => p.set d none) (s.heard_metresFrom ..)))

end Sys2Proof.Machine

/-! PROOFS. What the work that follows the records at a report or a marker pass leaves of them: the readings of every record, all
of the other winder's records, the silent condition, and the frames already sent. -/

namespace Sys2Proof.Machine

/-- What a record says of its conveyance, apart from the motion check, the zone set and the suppression list. -/
def Position.readings (p : Position) : Position := { p with motionRef := none, armed := false, zoneSet := [], suppressed := [] }

/-- Between two states the readings of every record stand, and of the conveyances of other winders than `w` the whole record; the
silent condition, the latest reports and the drum depths stand, and frames are only added. -/
structure State.Steady (w : Winder) (s t : State) : Prop where
  other : ∀ c, ownerOf c ≠ w → t.position c = s.position c
  readings : ∀ c, (t.position c).readings = (s.position c).readings
  silent : ∀ v, (t.winder v).silent = (s.winder v).silent
  sent : s.sent <+: t.sent
  reports : t.reports = s.reports
  drumDepth : t.drumDepth = s.drumDepth

section Steady

variable {w : Winder}

theorem State.Steady.refl (s : State) : State.Steady w s s := 
  ⟨fun _ _ => rfl, fun _ => rfl, fun _ => rfl, List.prefix_rfl, rfl, rfl⟩

theorem State.Steady.trans {s t u : State} (h : State.Steady w s t) (k : State.Steady w t u) : State.Steady w s u :=
  ⟨fun c x => (k.other c x).trans (h.other c x), fun c => (k.readings c).trans (h.readings c),
    fun v => (k.silent v).trans (h.silent v), h.sent.trans k.sent, k.reports.trans h.reports, k.drumDepth.trans h.drumDepth⟩

theorem State.Steady.ite {s t u : State} {p : Prop} [Decidable p] (h : State.Steady w s t) (k : State.Steady w s u) :
    State.Steady w s (if p then t else u) := by
  split <;> assumption

/-- An operation that touches neither records nor winders. -/
theorem State.Steady.of_apart {s t : State} (positions : t.positions = s.positions) (winders : t.winders = s.winders)
    (reports : t.reports = s.reports) (drumDepth : t.drumDepth = s.drumDepth) (sent : s.sent <+: t.sent) :
    State.Steady w s t :=
  ⟨fun c _ => congrArg (fun p => p.get c) positions, fun c => congrArg (fun p => (p.get c).readings) positions,
    fun v => congrArg (fun p => (p.get v).silent) winders, sent, reports, drumDepth⟩

theorem State.Steady.of_quiet {s t : State} (positions : t.positions = s.positions) (winders : t.winders = s.winders)
    (reports : t.reports = s.reports) (drumDepth : t.drumDepth = s.drumDepth) (sent : t.sent = s.sent) :
    State.Steady w s t :=
  .of_apart positions winders reports drumDepth (sent ▸ List.prefix_rfl)

theorem State.Steady.of_still {s t : State} (h : s.Still t) (sent : s.sent <+: t.sent) : State.Steady w s t :=
  .of_apart h.positions h.winders h.reports h.drumDepth sent

theorem State.withPipe_steady (s : State) (v : Winder) (f : Pipe → Pipe) : State.Steady w s (s.withPipe v f) := .of_quiet rfl rfl rfl rfl rfl
theorem State.withQueue_steady (s : State) (v : Winder) (f : List Call → List Call) : State.Steady w s (s.withQueue v f) :=
  .of_quiet rfl rfl rfl rfl rfl
theorem State.withMonitor_steady (s : State) (v : Winder) (f : Monitor → Monitor) : State.Steady w s (s.withMonitor v f) :=
  .of_quiet rfl rfl rfl rfl rfl
theorem State.handCap_steady (s : State) (v : Winder) : State.Steady w s (s.handCap v) := .of_quiet rfl rfl rfl rfl rfl
theorem State.recordEnded_steady (s : State) (v : Winder) (id : Nat) (r : EndReason) : State.Steady w s (s.recordEnded v id r) :=
  .of_quiet rfl rfl rfl rfl rfl
theorem State.formReadiness_steady (s : State) : State.Steady w s s.formReadiness := .of_quiet rfl rfl rfl rfl rfl
theorem State.sendOrder_steady (s : State) (v : Winder) (o : Order) : State.Steady w s (s.sendOrder v o) :=
  .of_apart rfl rfl rfl rfl (List.prefix_append ..)
theorem State.sendGrant_steady (s : State) (v : Winder) (t : Trip) (l : Leg) : State.Steady w s (s.sendGrant v t l) :=
  .of_apart rfl rfl rfl rfl (List.prefix_append ..)
theorem State.endFreeOffer_steady (s : State) (o : TripOutcome) : State.Steady w s (s.endFreeOffer o) := .of_quiet rfl rfl rfl rfl rfl
theorem State.record_steady (s : State) (e : FaultEntry) : State.Steady w s (s.record e) :=
  .of_still (s.record_still e) (by unfold State.record; dsimp only; split <;> exact List.prefix_rfl)

/-- A change of a winder's record that leaves its silent condition. -/
theorem State.withWinder_steady (s : State) (v : Winder) (f : WinderRecord → WinderRecord)
    (h : (f (s.winder v)).silent = (s.winder v).silent) : State.Steady w s (s.withWinder v f) := by
  refine ⟨fun _ _ => rfl, fun _ => rfl, fun x => ?_, List.prefix_rfl, rfl, rfl⟩
  by_cases e : x = v
  · subst e
    rw [State.withWinder_winder_self]
    exact h
  · rw [State.withWinder_winder_ne _ _ _ e]

/-- A change of a record of the winder's own conveyances that leaves its readings. -/
theorem State.withPosition_steady (s : State) {c : Conveyance} (owned : ownerOf c = w) (f : Position → Position)
    (h : (f (s.position c)).readings = (s.position c).readings) : State.Steady w s (s.withPosition c f) := by
  refine ⟨fun d x => ?_, fun d => ?_, fun _ => rfl, List.prefix_rfl, rfl, rfl⟩
  · exact State.withPosition_position_ne _ _ _ (fun e => x (e ▸ owned))
  · by_cases e : d = c
    · subst e
      rw [State.withPosition_position_self]
      exact h
    · rw [State.withPosition_position_ne _ _ _ e]

theorem ownerOf_firstConveyance (w : Winder) : ownerOf (firstConveyance w) = w := by cases w <;> rfl
theorem ownerOf_secondConveyance (w : Winder) : ownerOf (secondConveyance w) = w := by cases w <;> rfl

/-! ## Trips and states -/

theorem State.endRePair_steady (s : State) (t : Trip) : State.Steady w s (s.endRePair t) := .ite (.of_quiet rfl rfl rfl rfl rfl) (.refl s)
theorem State.endTripRecord_sent (s : State) (v : Winder) (t : Trip) (o : TripOutcome) : (s.endTripRecord v t o).sent = s.sent := by
  unfold State.endTripRecord State.endSource
  dsimp only
  split <;> rfl
theorem State.endTripRecord_steady (s : State) (v : Winder) (t : Trip) (o : TripOutcome) :
    State.Steady w s (s.endTripRecord v t o) :=
  .of_still (s.endTripRecord_still v t o) (by rw [State.endTripRecord_sent])
theorem State.endActive_steady (s : State) (v : Winder) (o : TripOutcome) : State.Steady w s (s.endActive v o) := by
  unfold State.endActive
  split
  · exact .refl s
  · exact ((s.withPipe_steady v _).trans (State.endRePair_steady _ _)).trans (State.endTripRecord_steady ..)
theorem State.withdrawStaged_steady (s : State) (v : Winder) (c : CallState) : State.Steady w s (s.withdrawStaged v c) :=
  .of_still (s.withdrawStaged_still v c) (by rw [State.withdrawStaged_sent])
theorem State.discardStaged_steady (s : State) (v : Winder) (o : TripOutcome) : State.Steady w s (s.discardStaged v o) := by
  unfold State.discardStaged
  split
  · exact .refl s
  · exact (s.withPipe_steady v _).trans (State.endTripRecord_steady ..)

theorem State.armMotion_steady (s : State) {c : Conveyance} (owned : ownerOf c = w) : State.Steady w s (s.armMotion c) :=
  s.withPosition_steady owned _ rfl
theorem State.disarmMotion_steady (s : State) {c : Conveyance} (owned : ownerOf c = w) : State.Steady w s (s.disarmMotion c) :=
  s.withPosition_steady owned _ rfl
theorem State.armAtRunning_steady (s : State) {c : Conveyance} (owned : ownerOf c = w) :
    State.Steady w s (s.armAtRunning w c) :=
  .ite (s.disarmMotion_steady owned) (s.armMotion_steady owned)
theorem State.disarmWinder_steady (s : State) : State.Steady w s (s.disarmWinder w) :=
  (s.disarmMotion_steady (ownerOf_firstConveyance w)).trans (State.disarmMotion_steady _ (ownerOf_secondConveyance w))
theorem State.armWinder_steady (s : State) : State.Steady w s (s.armWinder w) :=
  (s.armMotion_steady (ownerOf_firstConveyance w)).trans (State.armMotion_steady _ (ownerOf_secondConveyance w))
theorem State.emptySuppression_steady (s : State) : State.Steady w s (s.emptySuppression w) :=
  (s.withPosition_steady (ownerOf_firstConveyance w) _ rfl).trans
    (State.withPosition_steady _ (ownerOf_secondConveyance w) _ rfl)
theorem State.motionAtEntry_steady (s : State) (st : WinderState) : State.Steady w s (s.motionAtEntry w st) := by
  unfold State.motionAtEntry
  split
  · exact s.armWinder_steady
  · exact s.armWinder_steady
  · exact s.armWinder_steady
  · exact s.armWinder_steady
  · exact s.armWinder_steady
  · exact (s.armAtRunning_steady (ownerOf_firstConveyance w)).trans (State.armAtRunning_steady _ (ownerOf_secondConveyance w))
  · exact s.disarmWinder_steady
  · exact .refl s
  · exact .refl s
theorem State.changeState_steady (s : State) (st : WinderState) : State.Steady w s (s.changeState w st) :=
  .ite (.refl s) ((((s.withWinder_steady w (fun r => r.entered st s.now) rfl).trans (State.motionAtEntry_steady _ st)).trans
    (State.handCap_steady _ w)).trans ((State.withMonitor_steady _ w _).trans (State.withPipe_steady _ w _)))
theorem State.park_steady (s : State) : State.Steady w s (s.park w) :=
  .ite ((s.changeState_steady _).trans (State.withWinder_steady _ w _ rfl)) (s.changeState_steady _)
theorem State.endAndPark_steady (s : State) (o : TripOutcome) : State.Steady w s (s.endAndPark w o) :=
  (s.endActive_steady w o).trans (State.park_steady _)

/-! ## Faults -/

theorem State.tripWinder_steady (s : State) : State.Steady w s (s.tripWinder w) :=
  (((((s.changeState_steady _).trans (State.endActive_steady _ w _)).trans (State.withdrawStaged_steady _ w _)).trans
    (State.withWinder_steady _ w _ rfl)).trans (State.emptySuppression_steady _)).trans (State.sendOrder_steady _ w _)
theorem State.lockWinder_steady (s : State) : State.Steady w s (s.lockWinder w) :=
  ((s.changeState_steady _).trans (State.emptySuppression_steady _)).trans (State.sendOrder_steady _ w _)
theorem State.handTrip_steady (s : State) {f : FaultReport} (h : f.winder = w) : State.Steady w s (s.handTrip f) := by
  subst h
  unfold State.handTrip
  split
  · exact .refl s
  · exact .ite s.lockWinder_steady (.refl s)
  all_goals exact s.tripWinder_steady
theorem State.deliver_steady (s : State) {f : FaultReport} (h : f.winder = w) : State.Steady w s (s.deliver f) := by
  unfold State.deliver
  dsimp only
  split
  · exact (s.record_steady _).trans (State.handTrip_steady _ h)
  all_goals exact s.record_steady _
/-- A Note or a Stop fault is only recorded. -/
theorem State.deliver_untripped (s : State) {f : FaultReport} (h : f.severity ≠ .trip) : s.deliver f = s.record (s.entryOf f) := by
  unfold State.deliver
  dsimp only
  split
  · next k => exact absurd k h
  all_goals rfl
theorem State.deliver_steady_of_untripped (s : State) {f : FaultReport} (h : f.severity ≠ .trip) : State.Steady w s (s.deliver f) := by
  rw [s.deliver_untripped h]
  exact s.record_steady _
theorem State.deliverAll_steady (s : State) {l : List FaultReport} (h : ∀ f ∈ l, f.winder = w) : State.Steady w s (s.deliverAll l) := by
  induction l generalizing s with
  | nil => exact .refl s
  | cons f l ih =>
    exact (s.deliver_steady (h f List.mem_cons_self)).trans (ih _ (fun g k => h g (List.mem_cons_of_mem _ k)))

/-! ## Zone sets, caps and comparisons -/

theorem State.rebuildSet_steady (s : State) {c : Conveyance} (owned : ownerOf c = w) : State.Steady w s (s.rebuildSet c) :=
  s.withPosition_steady owned _ rfl
theorem State.followCap_steady (s : State) (v : Winder) : State.Steady w s (s.followCap v) := by
  unfold State.followCap
  split
  · exact .refl s
  · exact .ite ((s.withWinder_steady v (fun r => { r with slowCap := some (s.caps.get v).speed }) rfl).trans
      (State.sendOrder_steady _ v _)) (.refl s)
theorem State.handTouch_steady (s : State) (v : Winder) : State.Steady w s (s.handTouch v) :=
  .ite (.of_quiet rfl rfl rfl rfl rfl) (State.Steady.trans (t := { s with restricted := s.restricted.set v (s.restrictedTouch v) })
    (.of_quiet rfl rfl rfl rfl rfl) (State.withWinder_steady _ v _ rfl))
theorem State.handOn_steady (s : State) (v : Winder) : State.Steady w s (s.handOn v) :=
  ((s.handCap_steady v).trans (State.followCap_steady _ v)).trans (State.handTouch_steady _ v)
theorem State.overRaised_steady (s : State) (v : Winder) : State.Steady w s (s.overRaised v) :=
  .ite ((s.withWinder_steady v (fun r => { r with slowCap := some (s.caps.get v).speed }) rfl).trans
    (State.sendOrder_steady _ v _)) (.refl s)
theorem State.overCleared_steady (s : State) (v : Winder) : State.Steady w s (s.overCleared v) :=
  .ite ((s.withWinder_steady v (fun r => { r with slowCap := none }) rfl).trans (State.sendOrder_steady _ v _))
    (s.withWinder_steady v _ rfl)
theorem State.setOver_steady (s : State) (v : Winder) : State.Steady w s (s.setOver v) :=
  .ite (s.withMonitor_steady v _) ((s.withMonitor_steady v _).trans (State.overRaised_steady _ v))
theorem State.clearOver_steady (s : State) (v : Winder) : State.Steady w s (s.clearOver v) :=
  .ite ((s.withMonitor_steady v _).trans (State.overCleared_steady _ v)) (s.withMonitor_steady v _)
theorem State.compareOver_steady (s : State) (v : Winder) : State.Steady w s (s.compareOver v) := by
  unfold State.compareOver
  dsimp only
  split
  · exact ((s.withMonitor_steady v _).trans (State.deliver_steady_of_untripped _
      (show Severity.note ≠ .trip by decide))).trans (State.setOver_steady _ v)
  · split
    · exact (s.withMonitor_steady v _).trans (State.clearOver_steady _ v)
    · exact s.withMonitor_steady v _
  all_goals exact s.withMonitor_steady v _
theorem State.compareCritical_steady (s : State) : State.Steady w s (s.compareCritical w) :=
  .ite ((s.withMonitor_steady w _).trans (State.deliver_steady _ rfl)) (.refl s)
theorem State.compareUnder_steady (s : State) (v : Winder) : State.Steady w s (s.compareUnder v) := by
  unfold State.compareUnder
  split
  · dsimp only
    split
    · exact s.withMonitor_steady v _
    · exact s.withMonitor_steady v _
    all_goals exact .refl s
  all_goals exact .refl s
theorem State.compare_steady (s : State) : State.Steady w s (s.compare w) :=
  .ite ((((s.withMonitor_steady w _).trans (State.compareOver_steady _ w)).trans (State.compareCritical_steady _)).trans
    (State.compareUnder_steady _ w)) (.refl s)
theorem State.handAndCompare_steady (s : State) : State.Steady w s (s.handAndCompare w) :=
  ((s.handCap_steady w).trans (State.compare_steady _)).trans (State.followCap_steady _ w)

/-! ## Offers and the end of an event -/

theorem State.failOffer_steady (s : State) (o : TripOutcome) : State.Steady w s (s.failOffer w o) :=
  .ite (s.discardStaged_steady w o) (.ite (s.endFreeOffer_steady o) ((s.endActive_steady w o).trans (State.park_steady _)))
theorem State.stopOffer_steady (s : State) : State.Steady w s (s.stopOffer w) :=
  .ite (s.withdrawStaged_steady w _) (s.failOffer_steady _)
theorem State.setContents_steady (s : State) (k : Skip) (c : Contents) : State.Steady w s (s.setContents k c) :=
  .of_quiet rfl rfl rfl rfl rfl
theorem State.refusePayload_steady (s : State) (k : Skip) (t : Trip) : State.Steady w s (s.refusePayload k t) :=
  ((s.discardStaged_steady _ _).trans (State.setContents_steady _ k _)).trans
    (State.deliver_steady_of_untripped _ (by simp [payloadReport]))
theorem State.grantCycle_steady (s : State) (t : Trip) (l : Leg) : State.Steady w s (s.grantCycle t l) := by
  unfold State.grantCycle
  split
  · exact s.sendGrant_steady _ t l
  · split
    · exact s.refusePayload_steady _ t
    · exact (s.deliver_steady_of_untripped (by simp [payloadReport])).trans (State.sendGrant_steady _ _ t l)
    · exact s.sendGrant_steady _ t l
theorem State.offerLeg_steady (s : State) : State.Steady w s (s.offerLeg w) := by
  unfold State.offerLeg
  split
  · exact .refl s
  · split
    · exact .refl s
    · exact .ite (s.withPipe_steady w _) (.ite s.stopOffer_steady (.ite (s.grantCycle_steady _ _) (s.sendGrant_steady w _ _)))
theorem State.tryOffer_steady (s : State) : State.Steady w s (s.tryOffer w) := .ite s.offerLeg_steady (.refl s)
theorem State.planFrom_steady (s : State) (v : Winder) (n : Nat) : State.Steady w s (s.planFrom v n) := by
  induction n generalizing s with
  | zero => exact .refl s
  | succ n ih =>
    unfold State.planFrom
    split
    · exact .refl s
    · split
      · exact (s.withQueue_steady v _).trans (ih _)
      · exact ((s.withQueue_steady v _).trans (State.recordEnded_steady ..)).trans (ih _)
      · exact (s.withQueue_steady v _).trans (State.withPipe_steady _ v _)
theorem State.readyStaged_steady (s : State) (v : Winder) : State.Steady w s (s.readyStaged v) := by
  cases v
  · exact .refl s
  · exact s.formReadiness_steady
theorem State.plan_steady (s : State) (v : Winder) : State.Steady w s (s.plan v) :=
  .ite ((s.planFrom_steady v _).trans (State.readyStaged_steady _ v)) (.refl s)
theorem State.settleFrom_steady (s : State) (n : Nat) : State.Steady w s (s.settleFrom w n) := by
  induction n generalizing s with
  | zero => exact .refl s
  | succ n ih =>
    have one : State.Steady w s ((s.plan w).tryOffer w) := (s.plan_steady w).trans (State.tryOffer_steady _)
    exact .ite (one.trans (ih _)) one
theorem State.settle_steady (s : State) : State.Steady w s (s.settle w) := s.settleFrom_steady _

/-! ## The pairing and the clutch -/

theorem State.unstageCycle_steady (s : State) : State.Steady w s s.unstageCycle := .ite (s.withdrawStaged_steady _ _) (.refl s)
theorem State.unpair_steady (s : State) : State.Steady w s s.unpair := by
  unfold State.unpair
  have unpaired : State.Steady w s { s with pairing := .unpaired, pairBeyond := false } := .of_quiet rfl rfl rfl rfl rfl
  exact .ite (.refl s) (((unpaired.trans (State.withQueue_steady _ _ _)).trans (State.unstageCycle_steady _)).trans
    (State.formReadiness_steady _))
theorem State.pairWith_steady (s : State) (p : Pocket) : State.Steady w s (s.pairWith p) := .of_quiet rfl rfl rfl rfl rfl
theorem State.clutchFault_steady (s : State) : State.Steady .rock s s.clutchFault := s.deliver_steady rfl
theorem State.unrequestedChange_steady (s : State) : State.Steady .rock s s.unrequestedChange :=
  .ite (s.unpair_steady.trans (State.clutchFault_steady _)) s.unpair_steady
theorem State.clutchOutside_steady (s : State) (c : Clutch) : State.Steady .rock s (s.clutchOutside c) := by
  unfold State.clutchOutside
  exact (State.Steady.ite s.unrequestedChange_steady (.refl s)).trans
    (.ite (State.discardStaged_steady _ _ _) (.refl _))
theorem State.openingConfirmed_steady (s : State) (r : RePair) : State.Steady .rock s (s.openingConfirmed r) := by
  unfold State.openingConfirmed
  have idle : State.Steady .rock s { s with clutchTimer := none } := .of_quiet rfl rfl rfl rfl rfl
  have free : State.Steady .rock s { s with clutchTimer := none, repair := some { r with phase := .freeMove } } :=
    .of_quiet rfl rfl rfl rfl rfl
  exact .ite (idle.trans (State.endAndPark_steady _ _)) (free.trans (State.offerLeg_steady _))
theorem State.freeConfirmed_steady (s : State) (r : RePair) : State.Steady .rock s (s.freeConfirmed r) :=
  .ite (s.endAndPark_steady _) (.refl s)
theorem State.closingConfirmed_steady (s : State) (r : RePair) : State.Steady .rock s (s.closingConfirmed r) := by
  unfold State.closingConfirmed
  have idle : State.Steady .rock s { s with clutchTimer := none } := .of_quiet rfl rfl rfl rfl rfl
  exact (idle.trans (State.pairWith_steady _ _)).trans (State.endAndPark_steady _ _)
theorem State.clutchWithin_steady (s : State) (r : RePair) (c : Clutch) : State.Steady .rock s (s.clutchWithin r c) := by
  unfold State.clutchWithin
  split
  · exact s.openingConfirmed_steady r
  · exact .refl s
  · exact .refl s
  · exact s.freeConfirmed_steady r
  · exact s.clutchFault_steady
  · exact s.clutchFault_steady
  · exact s.closingConfirmed_steady r
  · exact .refl s
  · exact .refl s
theorem State.takeClutch_steady (s : State) (c : Clutch) : State.Steady .rock s (s.takeClutch c) := by
  unfold State.takeClutch
  have reported : State.Steady .rock s { s with clutch := some c } := .of_quiet rfl rfl rfl rfl rfl
  dsimp only
  split
  · exact reported.trans (State.clutchOutside_steady _ c)
  · exact reported.trans (State.clutchWithin_steady _ _ c)

end Steady

end Sys2Proof.Machine

/-! PROOFS. Position reports (O25, O26): depths, records and metres at a report, and each check that follows. -/

namespace Sys2Proof.Machine

/-! ## Depths, records and metres (O25) -/

/-- Of two whole numbers as near, the quotient rounded is the one further from 0 (R17). -/
theorem roundDiv_tie (n : Int) {d : Nat} (hd : 0 < d) (tie : 2 * |roundDiv n d * d - n| = d) : |n| ≤ |roundDiv n d * d| := by
  have pos : (0 : Int) < d := by exact_mod_cast hd
  have key : ∀ m : Int, 0 ≤ m → 2 * |(2 * m + d) / (2 * d) * d - m| = d → m ≤ (2 * m + d) / (2 * d) * d := by
    intro m _ tie
    have split := Int.emod_add_mul_ediv (2 * m + d) (2 * d)
    have small := Int.emod_lt_of_pos (2 * m + d) (show (0 : Int) < 2 * d by omega)
    have prod : 2 * ((2 * m + d) / (2 * d) * (d : Int)) = 2 * d * ((2 * m + d) / (2 * d)) := by ring
    generalize (2 * m + d) / (2 * d) * (d : Int) = x at *
    rcases abs_cases (x - m) with ⟨e, _⟩ | ⟨e, _⟩ <;> omega
  unfold roundDiv at tie ⊢
  by_cases sign : 0 ≤ n
  · rw [if_pos sign] at tie ⊢
    have near := key n sign tie
    rw [abs_of_nonneg sign]
    exact near.trans (le_abs_self _)
  · rw [if_neg sign] at tie ⊢
    have flipped : |-((2 * -n + d) / (2 * d)) * (d : Int) - n| = |(2 * -n + d) / (2 * d) * (d : Int) - -n| := by
      rw [← abs_neg]
      congr 1
      ring
    have near := key (-n) (by omega) (by rw [← flipped]; exact tie)
    rw [abs_of_neg (by omega), neg_mul, abs_neg]
    exact near.trans (le_abs_self _)

theorem ceilDiv_bounds (n : Nat) : n ≤ 10000 * ceilDiv n 10000 ∧ 10000 * ceilDiv n 10000 < n + 10000 := by
  unfold ceilDiv
  omega

theorem Position.takeReport_estimate (p : Position) (x : Tracking) (depth speed : Int) :
    (p.takeReport x depth speed).estimate = if depthInRange depth = true then some depth else p.estimate := rfl

theorem Position.takeReport_travel_of_absent {p : Position} {x : Tracking} {depth speed : Int} (h : p.estimate = none) :
    (p.takeReport x depth speed).travel = p.travel := by
  unfold Position.takeReport
  dsimp only
  rw [h]

theorem Position.takeReport_travel_of_range {p : Position} {x : Tracking} {depth speed old : Int} (h : p.estimate = some old)
    (range : depthInRange depth = true) :
    (p.takeReport x depth speed).travel = min 10000000 (p.travel + (depth - old).natAbs) := by
  unfold Position.takeReport
  dsimp only
  rw [h, if_pos range]

/-- A depth out of range adds no travel (R1, R18). -/
theorem Position.takeReport_travel_of_not_range {p : Position} {x : Tracking} {depth speed : Int} (range : depthInRange depth = false)
    (bounded : p.travel ≤ 10000000) : (p.takeReport x depth speed).travel = p.travel := by
  cases h : p.estimate with
  | none => exact Position.takeReport_travel_of_absent h
  | some old =>
    unfold Position.takeReport
    dsimp only
    rw [h, if_neg (by simp [range])]
    simp [bounded]

theorem Position.takeReport_band (p : Position) (x : Tracking) (depth speed : Int) :
    (p.takeReport x depth speed).band = p.base + ceilDiv (x.growth * (p.takeReport x depth speed).travel) 10000 := rfl

theorem State.addMetres_kept (s : State) (mm : Nat) (c : Conveyance) :
    s.addMetres mm c = { s with metres := (s.addMetres mm c).metres, remainders := (s.addMetres mm c).remainders } := rfl

/-- What a drum's depth taken at a report adds to the metres travelled (R162). -/
def State.drumMoved (s : State) (r : Report) (d : Drum) : Nat :=
  match s.metresFrom.get d with
  | none => 0
  | some old => (s.uncorrected d (r.reading d).count - old).natAbs

/-- A drum taken at a report in one equation (R17, R162). -/
theorem State.takeDrum_eq (s : State) (r : Report) (d : Drum) :
    s.takeDrum r d =
      { s with
        drumDepth := s.drumDepth.set d (some (s.uncorrected d (r.reading d).count))
        metresFrom := s.metresFrom.set d (some (s.uncorrected d (r.reading d).count))
        metres := ((hungFrom d).foldl (fun t c => t.addMetres (s.drumMoved r d) c) s).metres
        remainders := ((hungFrom d).foldl (fun t c => t.addMetres (s.drumMoved r d) c) s).remainders } := by
  cases d <;> rfl

theorem State.takeDrum_metres (s : State) (r : Report) {d : Drum} {c : Conveyance} (h : c ∈ hungFrom d) :
    (s.takeDrum r d).metres.get c =
      min 4294967295 (s.metres.get c + (s.remainders.get c + s.drumMoved r d) / 1000) ∧
    (s.takeDrum r d).remainders.get c = (s.remainders.get c + s.drumMoved r d) % 1000 := by
  rw [mem_hungFrom] at h
  subst h
  cases c <;> exact ⟨Nat.min_comm .., rfl⟩

theorem State.addMetres_ne (s : State) (mm : Nat) {c d : Conveyance} (h : c ≠ d) :
    (s.addMetres mm d).metres.get c = s.metres.get c ∧ (s.addMetres mm d).remainders.get c = s.remainders.get c :=
  ⟨PerConveyance.get_set_ne _ _ h, PerConveyance.get_set_ne _ _ h⟩

theorem State.addAllMetres_ne (s : State) (mm : Nat) {c : Conveyance} {l : List Conveyance} (h : c ∉ l) :
    (l.foldl (fun s c => s.addMetres mm c) s).metres.get c = s.metres.get c ∧
      (l.foldl (fun s c => s.addMetres mm c) s).remainders.get c = s.remainders.get c := by
  induction l generalizing s with
  | nil => exact ⟨rfl, rfl⟩
  | cons e l ih =>
    rw [List.mem_cons, not_or] at h
    obtain ⟨metres, remainders⟩ := s.addMetres_ne mm h.1
    obtain ⟨rest, left⟩ := ih (s.addMetres mm e) h.2
    exact ⟨rest.trans metres, left.trans remainders⟩

theorem State.takeDrum_metres_ne (s : State) (r : Report) {d : Drum} {c : Conveyance} (h : c ∉ hungFrom d) :
    (s.takeDrum r d).metres.get c = s.metres.get c ∧ (s.takeDrum r d).remainders.get c = s.remainders.get c := by
  have metres : (s.takeDrum r d).metres = ((hungFrom d).foldl (fun t c => t.addMetres (s.drumMoved r d) c) s).metres :=
    (congrArg State.metres (s.takeDrum_eq r d)).trans rfl
  have remainders : (s.takeDrum r d).remainders = ((hungFrom d).foldl (fun t c => t.addMetres (s.drumMoved r d) c) s).remainders :=
    (congrArg State.remainders (s.takeDrum_eq r d)).trans rfl
  rw [metres, remainders]
  exact s.addAllMetres_ne (s.drumMoved r d) h

/-- Settles O25. -/
theorem recordsFollowTheDrums : Obligations.RecordsFollowTheDrums := by
  refine ⟨⟨fun s d count pos => ?_, fun s u => ⟨rfl, rfl, rfl, rfl⟩⟩, fun p x depth speed => ?_, fun s r d => ?_⟩
  · intro q scale x
    have quotient : q = roundDiv x (s.work.scales.get d) := by
      show s.uncorrected d count - (s.work.references.get d).depth = _
      exact add_sub_cancel_left ..
    rw [quotient]
    exact ⟨roundDiv_near x pos, roundDiv_tie x pos⟩
  · intro q
    have widened : q.band - p.base = ceilDiv (x.growth * q.travel) 10000 := Nat.add_sub_cancel_left ..
    obtain ⟨enough, least⟩ := ceilDiv_bounds (x.growth * q.travel)
    have rest : q.rest = true ↔ speed.natAbs ≤ x.standstill := decide_eq_true_iff
    refine ⟨fun range => ?_, fun range => ⟨?_, fun bounded => Position.takeReport_travel_of_not_range range bounded⟩,
      fun absent => Position.takeReport_travel_of_absent absent, fun old held range => Position.takeReport_travel_of_range held range,
      Nat.le_add_right .., widened ▸ enough, widened ▸ least, rfl, rest, fun on => ?_, fun off => ⟨fun up => ?_, fun down => ?_⟩, rfl, rfl, rfl, rfl⟩
    · exact (p.takeReport_estimate ..).trans (if_pos range)
    · exact (p.takeReport_estimate ..).trans (if_neg (by simp [range]))
    · show directionOf q.rest speed = _
      rw [on]
      rfl
    · show directionOf q.rest speed = _
      rw [off]
      exact if_pos up
    · show directionOf q.rest speed = _
      rw [off]
      exact if_neg (not_lt.mpr down.le)
  · intro depth mm u
    refine ⟨?_, ?_, fun c hung => s.takeDrum_metres r hung, fun c unhung => s.takeDrum_metres_ne r unhung, ?_⟩
    · exact congrArg State.drumDepth (s.takeDrum_eq r d)
    · exact congrArg State.metresFrom (s.takeDrum_eq r d)
    · have taken : u = _ := s.takeDrum_eq r d
      clear_value u
      rw [taken]

/-! ## The records at a report -/

/-- The drums of a winder taken, and its records after them. -/
def State.drumsTaken (s : State) (w : Winder) (r : Report) : State := (drumsOf w).foldl (fun s d => s.takeDrum r d) s

def State.recordsTaken (s : State) (w : Winder) (r : Report) : State :=
  ((s.drumsTaken w r).takeRecord r (firstConveyance w)).takeRecord r (secondConveyance w)

theorem State.drumsTaken_eq (s : State) (w : Winder) (r : Report) :
    s.drumsTaken w r =
      { s with
        drumDepth := (s.drumsTaken w r).drumDepth, metresFrom := (s.drumsTaken w r).metresFrom
        metres := (s.drumsTaken w r).metres, remainders := (s.drumsTaken w r).remainders } := by
  unfold State.drumsTaken
  cases w with
  | service =>
    show s.takeDrum r .service = _
    rw [State.takeDrum_eq]
    rfl
  | rock =>
    show (s.takeDrum r .drum0).takeDrum r .drum1 = _
    rw [State.takeDrum_eq, State.takeDrum_eq]
    rfl

/-- Each drum of the winder stands at the depth that the report gives it (R17). -/
theorem State.drumsTaken_depth (s : State) {w : Winder} (r : Report) {d : Drum} (h : d ∈ drumsOf w) :
    (s.drumsTaken w r).drumDepth.get d = some (s.uncorrected d (r.reading d).count) := by
  unfold State.drumsTaken
  cases w with
  | service =>
    obtain rfl := List.mem_singleton.mp h
    exact congrArg (fun p => State.drumDepth p |>.get .service) (s.takeDrum_eq r .service)
  | rock =>
    have both : ((s.takeDrum r .drum0).takeDrum r .drum1).drumDepth =
        (s.drumDepth.set .drum0 (some (s.uncorrected .drum0 (r.reading .drum0).count))).set .drum1
          (some (s.uncorrected .drum1 (r.reading .drum1).count)) := by
      rw [State.takeDrum_eq, State.takeDrum_eq]
      rfl
    have here := congrArg (fun p => p.get d) both
    rcases List.mem_cons.mp h with rfl | h
    · exact here
    · obtain rfl := List.mem_singleton.mp h
      exact here

/-- A record that a report has brought up to date (R17 to R22). -/
def State.reported (s : State) (r : Report) (c : Conveyance) : Position :=
  let depth := s.depthOf c (s.uncorrected (drumOf c) (r.reading (drumOf c)).count)
  let q := (s.position c).takeReport s.work.tracking depth
    (if c = .counterweight then -(r.reading (drumOf c)).speed else (r.reading (drumOf c)).speed)
  { q with
    state := if (s.position c).state ≠ .lost ∧ (s.work.tracking.ambiguity < q.band ∨ depthInRange depth = false) then .lost
      else (s.position c).state }

theorem conveyanceSpeed_eq (c : Conveyance) (v : Int) : conveyanceSpeed c v = if c = .counterweight then -v else v := by
  cases c <;> rfl

theorem Position.becomesLost_iff {p : Position} {x : Tracking} {depth : Int} :
    p.becomesLost x depth = true ↔ p.state ≠ .lost ∧ (x.ambiguity < p.band ∨ depthInRange depth = false) := by
  simp [Position.becomesLost]

theorem State.takeRecord_self (s : State) (r : Report) (c : Conveyance) : (s.takeRecord r c).position c = s.reported r c := by
  unfold State.takeRecord
  dsimp only
  rw [State.withPosition_position_self, conveyanceSpeed_eq]
  unfold State.reported State.reportDepth
  dsimp only
  generalize e : (s.position c).takeReport _ _ _ = q
  have state : q.state = (s.position c).state := by
    rw [← e]
    rfl
  by_cases lost : q.becomesLost s.work.tracking (s.depthOf c (s.uncorrected (drumOf c) (r.reading (drumOf c)).count)) = true
  · rw [if_pos lost, if_pos (state ▸ Position.becomesLost_iff.mp lost)]
  · rw [if_neg lost, if_neg (state ▸ mt Position.becomesLost_iff.mpr lost), ← state]

theorem State.takeRecord_ne (s : State) (r : Report) {c d : Conveyance} (h : d ≠ c) :
    (s.takeRecord r c).position d = s.position d :=
  State.withPosition_position_ne _ _ _ h

theorem State.reported_congr {s t : State} {c : Conveyance} (work : t.work = s.work) (record : t.position c = s.position c)
    (r : Report) : t.reported r c = s.reported r c := by
  have depth : ∀ x, t.depthOf c x = s.depthOf c x :=
    fun x => State.depthOf_congr (congrArg Settings.span work) (congrArg Position.correction record) x
  have drum : ∀ d n, t.uncorrected d n = s.uncorrected d n := fun d n => by
    unfold State.uncorrected
    rw [work]
  unfold State.reported
  simp only [depth, drum, work, record]

theorem State.drumsTaken_position (s : State) (w : Winder) (r : Report) (c : Conveyance) :
    (s.drumsTaken w r).position c = s.position c := by
  rw [State.drumsTaken_eq]
  rfl

theorem State.recordsTaken_position (s : State) {w : Winder} (r : Report) {c : Conveyance} (h : c ∈ conveyancesOf w) :
    (s.recordsTaken w r).position c = s.reported r c := by
  have drums : (s.drumsTaken w r).work = s.work := by rw [State.drumsTaken_eq]
  have same := State.reported_congr drums (s.drumsTaken_position w r c) r
  unfold State.recordsTaken
  rcases mem_conveyancesOf_cases h with ⟨rfl, other⟩ | ⟨rfl, other⟩
  · rw [State.takeRecord_ne _ _ other, State.takeRecord_self, same]
  · rw [State.takeRecord_self, State.reported_congr (s := s.drumsTaken w r)
      (t := (s.drumsTaken w r).takeRecord r (firstConveyance w)) rfl (State.takeRecord_ne _ _ other), same]

theorem State.recordsTaken_other (s : State) {w : Winder} (r : Report) {c : Conveyance} (h : ownerOf c ≠ w) :
    (s.recordsTaken w r).position c = s.position c := by
  have others : c ≠ firstConveyance w ∧ c ≠ secondConveyance w := by
    constructor <;> rintro rfl <;> exact h (by cases w <;> rfl)
  unfold State.recordsTaken
  rw [State.takeRecord_ne _ _ others.2, State.takeRecord_ne _ _ others.1, State.drumsTaken_position]

theorem State.recordsTaken_eq (s : State) (w : Winder) (r : Report) :
    s.recordsTaken w r = { s.drumsTaken w r with positions := (s.recordsTaken w r).positions } := rfl

theorem State.updateRecords_eq (s : State) (w : Winder) (r : Report) :
    s.updateRecords w r =
      ((s.recordsTaken w r).raiseLost s w (firstConveyance w)).raiseLost s w (secondConveyance w) := rfl

/-! ## POSITION LOST (R21) -/

/-- A conveyance's record has become Lost. -/
def State.BecameLost (before after : State) (c : Conveyance) : Prop :=
  (before.position c).state ≠ .lost ∧ (after.position c).state = .lost

theorem State.raiseLost_of {s before : State} {w : Winder} {c : Conveyance} (h : before.BecameLost s c) :
    s.raiseLost before w c = s.deliver ⟨.positionLost, .trip, w, some c, none, none, none⟩ := by
  unfold State.raiseLost
  rw [if_pos]
  simpa [State.BecameLost, and_comm] using h

theorem State.raiseLost_of_not {s before : State} {w : Winder} {c : Conveyance} (h : ¬before.BecameLost s c) :
    s.raiseLost before w c = s := by
  unfold State.raiseLost
  rw [if_neg]
  simpa [State.BecameLost, and_comm] using h

theorem State.becameLost_congr {before s t : State} {c : Conveyance} (h : (t.position c).readings = (s.position c).readings) :
    before.BecameLost t c ↔ before.BecameLost s c := by
  have state : (t.position c).state = (s.position c).state :=
    (congrArg Position.state h :)
  unfold State.BecameLost
  rw [state]

theorem State.raiseLost_steady (s before : State) (w : Winder) (c : Conveyance) : State.Steady w s (s.raiseLost before w c) :=
  .ite (s.deliver_steady rfl) (.refl s)

/-! ## The pair check (R31, R32) -/

theorem State.pairCheck_of_not_closed (s : State) {c : Option Clutch} (h : c ≠ some .closed) : s.pairCheck c = s := if_neg h

theorem State.pairCheck_closed (s : State) :
    s.pairCheck (some .closed) =
      match s.pairing.pocket.bind s.pairDifference with
      | none => { s with startupCheck := false }
      | some d =>
        if s.startupCheck then ({ s with startupCheck := false } : State).startUpPairCheck d
        else ({ s with startupCheck := false } : State).ordinaryPairCheck d := rfl

theorem State.pairDifference_some {s : State} {p : Pocket} {a b : Int} (first_ : (s.position .skip0).estimate = some a)
    (second_ : (s.position .skip1).estimate = some b) :
    s.pairDifference p = some (a + b - (s.work.rockPoints.tip.depth + (s.work.rockPoints.get p.point).depth)) := by
  unfold State.pairDifference
  rw [first_, second_]
  rfl

theorem State.pairDifference_none {s : State} (p : Pocket)
    (h : (s.position .skip0).estimate = none ∨ (s.position .skip1).estimate = none) : s.pairDifference p = none := by
  unfold State.pairDifference
  rcases h with h | h
  · rw [h]
  · rw [h]
    cases (s.position .skip0).estimate <;> rfl

theorem State.pairCheck_steady (s : State) (c : Option Clutch) : State.Steady .rock s (s.pairCheck c) := by
  unfold State.pairCheck
  have checked : State.Steady .rock s { s with startupCheck := false } := .of_quiet rfl rfl rfl rfl rfl
  refine .ite ?_ (.refl s)
  dsimp only
  split
  · exact checked
  · refine .ite (checked.trans ?_) (checked.trans ?_)
    · exact .ite ((State.deliver_steady_of_untripped _ (show Severity.note ≠ .trip by decide)).trans (State.unpair_steady _)) (.refl _)
    · have beyond : ∀ (t : State) (b : Bool), State.Steady .rock t { t with pairBeyond := b } :=
        fun t b => .of_quiet rfl rfl rfl rfl rfl
      exact .ite (.ite (.refl _) ((beyond _ true).trans (State.deliver_steady _ rfl))) (beyond _ false)

/-- The pair check of a report whose clutch is Closed, as R31 and R32 give it. -/
theorem State.pairCheck_eq (s : State) :
    let checked : State := { s with startupCheck := false }
    (s.pairing = .unpaired ∨ (s.position .skip0).estimate = none ∨ (s.position .skip1).estimate = none →
      s.pairCheck (some .closed) = checked) ∧
    (∀ p a b, s.pairing = .paired p → (s.position .skip0).estimate = some a → (s.position .skip1).estimate = some b →
      let d := a + b - (s.work.rockPoints.tip.depth + (s.work.rockPoints.get p.point).depth)
      let report (v : Severity) : FaultReport := ⟨.pairDisagreement, v, .rock, none, none, none, some d⟩
      (d.natAbs ≤ s.work.tracking.pair →
        s.pairCheck (some .closed) = { checked with pairBeyond := if s.startupCheck = true then s.pairBeyond else false }) ∧
      (s.work.tracking.pair < d.natAbs → s.startupCheck = true →
        s.pairCheck (some .closed) = (checked.deliver (report .note)).unpair) ∧
      (s.work.tracking.pair < d.natAbs → s.startupCheck = false → s.pairBeyond = true → s.pairCheck (some .closed) = checked) ∧
      (s.work.tracking.pair < d.natAbs → s.startupCheck = false → s.pairBeyond = false →
        s.pairCheck (some .closed) = ({ checked with pairBeyond := true } : State).deliver (report .trip))) := by
  intro checked
  refine ⟨fun h => ?_, fun p a b paired skip0 skip1 => ?_⟩
  · have none_ : s.pairing.pocket.bind s.pairDifference = none := by
      rcases h with h | h
      · rw [h]
        rfl
      · cases s.pairing with
        | unpaired => rfl
        | paired p => exact State.pairDifference_none p h
    rw [State.pairCheck_closed, none_]
  · intro d report
    have some_ : s.pairing.pocket.bind s.pairDifference = some d := by
      rw [paired]
      exact State.pairDifference_some skip0 skip1
    rw [State.pairCheck_closed, some_]
    refine ⟨fun within => ?_, fun beyond start => ?_, fun beyond start was => ?_, fun beyond start was => ?_⟩
    · have inside : ¬checked.work.tracking.pair < d.natAbs := not_lt.mpr within
      dsimp only
      cases start : s.startupCheck
      · exact if_neg inside
      · exact if_neg inside
    · dsimp only
      rw [if_pos start]
      exact if_pos beyond
    · dsimp only
      rw [if_neg (by simp [start])]
      exact (if_pos beyond).trans (if_pos was)
    · dsimp only
      rw [if_neg (by simp [start])]
      exact (if_pos beyond).trans (if_neg (by simp [was]))

end Sys2Proof.Machine

/-! PROOFS. Position reports taken (O26): the motion check, the order of the checks, and the report's own command. -/

namespace Sys2Proof.Machine

/-! ## The motion check (R29, R30) -/

/-- A conveyance's check keeps disarmed over a transition that keeps it from being armed. -/
def State.StaysDisarmed (s t : State) : Prop := ∀ c, (s.position c).armed = false → (t.position c).armed = false

theorem State.StaysDisarmed.trans {s t u : State} (h : s.StaysDisarmed t) (k : t.StaysDisarmed u) : s.StaysDisarmed u :=
  fun c off => k c (h c off)

theorem State.StaysDisarmed.of_positions {s t : State} (h : t.positions = s.positions) : s.StaysDisarmed t := fun c off => by
  unfold State.position
  rw [h]
  exact off

theorem State.withPosition_staysDisarmed (s : State) (c : Conveyance) (f : Position → Position)
    (h : ∀ p, p.armed = false → (f p).armed = false) : s.StaysDisarmed (s.withPosition c f) := fun d off => by
  by_cases same : d = c
  · subst same
    rw [State.withPosition_position_self]
    exact h _ off
  · rw [State.withPosition_position_ne _ _ _ same]
    exact off

theorem State.disarmWinder_staysDisarmed (s : State) (w : Winder) : s.StaysDisarmed (s.disarmWinder w) :=
  (s.withPosition_staysDisarmed _ (fun p => { p with armed := false }) fun _ _ => rfl).trans
    (State.withPosition_staysDisarmed _ _ (fun p => { p with armed := false }) fun _ _ => rfl)

theorem State.emptySuppression_staysDisarmed (s : State) (w : Winder) : s.StaysDisarmed (s.emptySuppression w) :=
  (s.withPosition_staysDisarmed _ (fun p => { p with suppressed := [] }) fun _ h => h).trans
    (State.withPosition_staysDisarmed _ _ (fun p => { p with suppressed := [] }) fun _ h => h)

/-- The entries to TRIPPED and to LOCKOUT arm no check (R30). -/
theorem State.changeState_staysDisarmed (s : State) (w : Winder) {st : WinderState} (h : st.demandsBrake = true) :
    s.StaysDisarmed (s.changeState w st) := by
  have entry : ∀ t : State, t.StaysDisarmed (t.motionAtEntry w st) := by
    intro t
    cases st
    case tripped => exact t.disarmWinder_staysDisarmed w
    case lockout => exact .of_positions rfl
    all_goals exact absurd h (by decide)
  unfold State.changeState
  split
  · exact .of_positions rfl
  · dsimp only
    exact (State.StaysDisarmed.of_positions rfl : s.StaysDisarmed (s.withWinder w fun r => r.entered st s.now)).trans
      ((entry _).trans (.of_positions rfl))

theorem State.endActive_positions (s : State) (w : Winder) (o : TripOutcome) : (s.endActive w o).positions = s.positions := by
  have ended (t : State) (x : Trip) : (t.endRePair x).positions = t.positions := by
    unfold State.endRePair
    split <;> rfl
  unfold State.endActive
  split
  · rfl
  · exact (State.endTripRecord_still _ _ _ _).positions.trans (ended _ _)

theorem State.tripWinder_staysDisarmed (s : State) (w : Winder) : s.StaysDisarmed (s.tripWinder w) := by
  have ended (t : State) : t.StaysDisarmed ((t.endActive w .aborted).withdrawStaged w .waiting) :=
    .of_positions ((State.withdrawStaged_still _ _ _).positions.trans (State.endActive_positions _ _ _))
  have recorded (t : State) (f : WinderRecord → WinderRecord) : t.StaysDisarmed (t.withWinder w f) := .of_positions rfl
  have sent (t : State) : t.StaysDisarmed (t.sendOrder w .brake) := .of_positions rfl
  exact (s.changeState_staysDisarmed w (st := .tripped) rfl).trans
    ((ended _).trans ((recorded _ _).trans ((State.emptySuppression_staysDisarmed _ w).trans (sent _))))

theorem State.lockWinder_staysDisarmed (s : State) (w : Winder) : s.StaysDisarmed (s.lockWinder w) := by
  have sent (t : State) : t.StaysDisarmed (t.sendOrder w .brake) := .of_positions rfl
  exact (s.changeState_staysDisarmed w (st := .lockout) rfl).trans ((State.emptySuppression_staysDisarmed _ w).trans (sent _))

theorem State.handTrip_staysDisarmed (s : State) (f : FaultReport) : s.StaysDisarmed (s.handTrip f) := by
  have trip := s.tripWinder_staysDisarmed f.winder
  have lock := s.lockWinder_staysDisarmed f.winder
  unfold State.handTrip
  split
  · exact .of_positions rfl
  · split
    · exact lock
    · exact .of_positions rfl
  all_goals exact trip

theorem State.deliver_staysDisarmed (s : State) (f : FaultReport) : s.StaysDisarmed (s.deliver f) := by
  have recorded : s.StaysDisarmed (s.record (s.entryOf f)) := .of_positions (by rw [State.record_eq])
  unfold State.deliver
  dsimp only
  split
  · exact recorded.trans (State.handTrip_staysDisarmed _ f)
  all_goals exact recorded

/-- Whether a report taken in a state gives a conveyance its motion reference (R29, R30). -/
def State.takesReference (s : State) (st : WinderState) (w : Winder) (p : Position) : Bool :=
  if p.armed then p.motionRef.isNone
  else (st == .tripped || st == .lockout) && (conveyancesOf w).all (fun c => (s.position c).rest)

/-- A conveyance's record after its reference and, for a winder whose check then raised its fault, disarmed (R29, R30). -/
def State.rereferred (s : State) (st : WinderState) (w : Winder) (armed : Bool) (c : Conveyance) : Position :=
  if ownerOf c ≠ w then s.position c
  else if s.takesReference st w (s.position c) then
    { s.position c with motionRef := s.drumDepth.get (drumOf c), armed := armed }
  else { s.position c with armed := (s.position c).armed && armed }

/-- The state with every record as `rereferred` gives it. -/
def State.afterReferences (s : State) (st : WinderState) (w : Winder) (armed : Bool) : State :=
  { s with
    positions := ⟨s.rereferred st w armed .cage, s.rereferred st w armed .counterweight, s.rereferred st w armed .skip0,
      s.rereferred st w armed .skip1⟩ }

/-- The references of a winder's two records, before any is tested. -/
def State.referencesTaken (s : State) (st : WinderState) (w : Winder) : State :=
  let t := (s.armAtRest st w (firstConveyance w)).armAtRest st w (secondConveyance w)
  (t.firstReference (firstConveyance w)).firstReference (secondConveyance w)

/-- A record with its motion reference taken and its check armed. -/
def State.armedRecord (s : State) (c : Conveyance) : Position :=
  { s.position c with motionRef := s.drumDepth.get (drumOf c), armed := true }

theorem State.armMotion_self (s : State) (c : Conveyance) : (s.armMotion c).position c = s.armedRecord c :=
  s.withPosition_position_self c _

theorem State.armAtRest_self (s : State) (st : WinderState) (w : Winder) (c : Conveyance) :
    (s.armAtRest st w c).position c =
      if (st.demandsBrake && s.atRest w && !(s.position c).armed) = true then s.armedRecord c else s.position c := by
  unfold State.armAtRest
  split
  · exact s.armMotion_self c
  · rfl

theorem State.armAtRest_ne (s : State) (st : WinderState) (w : Winder) {c d : Conveyance} (h : d ≠ c) :
    (s.armAtRest st w c).position d = s.position d := by
  unfold State.armAtRest
  split
  · exact s.withPosition_position_ne _ _ h
  · rfl

theorem State.firstReference_self (s : State) (c : Conveyance) :
    (s.firstReference c).position c =
      if ((s.position c).armed && (s.position c).motionRef.isNone) = true then s.armedRecord c else s.position c := by
  unfold State.firstReference
  split
  · exact s.armMotion_self c
  · rfl

theorem State.firstReference_ne (s : State) {c d : Conveyance} (h : d ≠ c) : (s.firstReference c).position d = s.position d := by
  unfold State.firstReference
  split
  · exact s.withPosition_position_ne _ _ h
  · rfl

theorem State.armAtRest_drumDepth (s : State) (st : WinderState) (w : Winder) (c : Conveyance) :
    (s.armAtRest st w c).drumDepth = s.drumDepth := by
  unfold State.armAtRest
  split <;> rfl

theorem State.firstReference_drumDepth (s : State) (c : Conveyance) : (s.firstReference c).drumDepth = s.drumDepth := by
  unfold State.firstReference
  split <;> rfl

theorem State.armAtRest_armedRecord (s : State) (st : WinderState) (w : Winder) {c d : Conveyance} (h : d ≠ c) :
    (s.armAtRest st w c).armedRecord d = s.armedRecord d := by
  unfold State.armedRecord
  rw [State.armAtRest_drumDepth, State.armAtRest_ne _ _ _ h]

theorem State.firstReference_armedRecord (s : State) {c d : Conveyance} (h : d ≠ c) :
    (s.firstReference c).armedRecord d = s.armedRecord d := by
  unfold State.armedRecord
  rw [State.firstReference_drumDepth, State.firstReference_ne _ h]

theorem State.armAtRest_atRest (s : State) (st : WinderState) (w v : Winder) (c : Conveyance) :
    (s.armAtRest st w c).atRest v = s.atRest v := by
  have rest : ∀ d, ((s.armAtRest st w c).position d).rest = (s.position d).rest := by
    intro d
    by_cases same : d = c
    · subst same
      rw [State.armAtRest_self]
      split <;> rfl
    · rw [State.armAtRest_ne _ _ _ same]
  unfold State.atRest
  simp only [rest]

theorem State.armAtRest_frame (s : State) (st : WinderState) (w : Winder) (c : Conveyance) :
    s.armAtRest st w c = { s with positions := (s.armAtRest st w c).positions } := by
  unfold State.armAtRest
  split <;> rfl

theorem State.firstReference_frame (s : State) (c : Conveyance) :
    s.firstReference c = { s with positions := (s.firstReference c).positions } := by
  unfold State.firstReference
  split <;> rfl

theorem State.referencesTaken_frame (s : State) (st : WinderState) (w : Winder) :
    s.referencesTaken st w = { s with positions := (s.referencesTaken st w).positions } := by
  unfold State.referencesTaken
  dsimp only
  rw [State.firstReference_frame, State.firstReference_frame, State.armAtRest_frame, State.armAtRest_frame]

theorem State.takesReference_eq (s : State) (st : WinderState) (w : Winder) (p : Position) :
    s.takesReference st w p = if p.armed then p.motionRef.isNone else st.demandsBrake && s.atRest w := rfl

/-- What the two steps leave of a record of the winder: the second takes again what the arming already took. -/
theorem State.rereferred_armed (s t : State) (st : WinderState) {w : Winder} {c : Conveyance} (owned : ownerOf c = w)
    (record : t.position c = if (st.demandsBrake && s.atRest w && !(s.position c).armed) = true then s.armedRecord c else s.position c)
    (depths : t.drumDepth = s.drumDepth) :
    (if ((t.position c).armed && (t.position c).motionRef.isNone) = true then t.armedRecord c else t.position c) =
      s.rereferred st w true c := by
  unfold State.rereferred
  rw [if_neg (not_not.mpr owned), State.takesReference_eq]
  have again : t.armedRecord c = s.armedRecord c := by
    unfold State.armedRecord
    rw [depths, record]
    split <;> rfl
  by_cases armed : (s.position c).armed = true
  · have kept : t.position c = s.position c := record.trans (if_neg (by simp [armed]))
    have absent : ((s.position c).armed && (s.position c).motionRef.isNone) = (s.position c).motionRef.isNone := by
      rw [armed, Bool.true_and]
    rw [again, kept, if_pos armed, absent, Bool.and_true]
    rfl
  · by_cases takes : (st.demandsBrake && s.atRest w) = true
    · have taken : t.position c = s.armedRecord c := record.trans (if_pos (by rw [takes]; simp [armed]))
      rw [again, taken, if_neg armed, if_pos takes, ite_self]
      rfl
    · have kept : t.position c = s.position c := record.trans (if_neg (by simp [takes]))
      rw [kept, if_neg armed, if_neg takes, if_neg (by simp [armed]), Bool.and_true]

theorem State.referencesTaken_position (s : State) (st : WinderState) (w : Winder) (c : Conveyance) :
    (s.referencesTaken st w).position c = s.rereferred st w true c := by
  unfold State.referencesTaken
  dsimp only
  by_cases owned : ownerOf c = w
  · rcases mem_conveyancesOf_cases (mem_conveyancesOf.mpr owned) with ⟨here, other⟩ | ⟨here, other⟩
    · rw [State.firstReference_ne _ other, ← here, State.firstReference_self]
      refine s.rereferred_armed _ st owned ?_ ?_
      · rw [State.armAtRest_ne _ _ _ other, State.armAtRest_self]
      · rw [State.armAtRest_drumDepth, State.armAtRest_drumDepth]
    · rw [← here, State.firstReference_self, State.firstReference_armedRecord _ other, State.firstReference_ne _ other]
      refine s.rereferred_armed _ st owned ?_ ?_
      · rw [State.armAtRest_self, State.armAtRest_atRest, State.armAtRest_armedRecord _ _ _ other, State.armAtRest_ne _ _ _ other]
      · rw [State.armAtRest_drumDepth, State.armAtRest_drumDepth]
  · have others : c ≠ firstConveyance w ∧ c ≠ secondConveyance w := by
      constructor <;> rintro rfl <;> exact owned (by cases w <;> rfl)
    rw [State.firstReference_ne _ others.2, State.firstReference_ne _ others.1, State.armAtRest_ne _ _ _ others.2,
      State.armAtRest_ne _ _ _ others.1]
    exact (if_pos owned).symm

theorem State.referencesTaken_eq (s : State) (st : WinderState) (w : Winder) :
    s.referencesTaken st w = s.afterReferences st w true := by
  have each (c : Conveyance) : (s.referencesTaken st w).positions.get c = s.rereferred st w true c :=
    s.referencesTaken_position st w c
  rw [State.referencesTaken_frame]
  unfold State.afterReferences
  congr 1
  refine PerConveyance.ext_get fun c => (each c).trans ?_
  cases c <;> rfl

theorem State.afterReferences_position (s : State) (st : WinderState) (w : Winder) (armed : Bool) (c : Conveyance) :
    (s.afterReferences st w armed).position c = s.rereferred st w armed c := by
  cases c <;> rfl

/-- The fault's disarming leaves the references (R29). -/
theorem State.afterReferences_disarmed (s : State) (st : WinderState) (w : Winder) :
    (s.afterReferences st w true).disarmWinder w = s.afterReferences st w false := by
  have each (c : Conveyance) (owned : ownerOf c = w) :
      { s.rereferred st w true c with armed := false } = s.rereferred st w false c := by
    unfold State.rereferred
    rw [if_neg (not_not.mpr owned), if_neg (not_not.mpr owned)]
    split
    · rfl
    · rw [Bool.and_false]
  have others (c : Conveyance) (unowned : ownerOf c ≠ w) : s.rereferred st w true c = s.rereferred st w false c :=
    (if_pos unowned).trans (if_pos unowned).symm
  unfold State.disarmWinder State.disarmMotion State.withPosition
  unfold State.afterReferences
  cases w with
  | service =>
    rw [← each .cage rfl, ← each .counterweight rfl, ← others .skip0 (by decide), ← others .skip1 (by decide)]
    rfl
  | rock =>
    rw [← each .skip0 rfl, ← each .skip1 rfl, ← others .cage (by decide), ← others .counterweight (by decide)]
    rfl

/-- A conveyance whose check the report finds broken, as R29 has it. -/
def State.FoundMoving (s : State) (w : Winder) (c : Conveyance) : Prop :=
  ownerOf c = w ∧ c ≠ .counterweight ∧ (s.position c).armed = true ∧
    ((s.position c).rest = false ∨ ∃ a d, (s.position c).motionRef = some a ∧
      s.drumDepth.get (drumOf c) = some d ∧ s.work.tracking.unpermitted < (d - a).natAbs)

/-- UNPERMITTED MOTION of a conveyance (R29, R153). -/
def unpermittedMotion (w : Winder) (c : Conveyance) : FaultReport := ⟨.unpermittedMotion, .trip, w, some c, none, none, none⟩

theorem Position.foundMoving_iff (p : Position) (x : Tracking) (depth : Option Int) :
    p.foundMoving x depth = true ↔
      p.rest = false ∨ ∃ a d, p.motionRef = some a ∧ depth = some d ∧ x.unpermitted < (d - a).natAbs := by
  unfold Position.foundMoving
  cases p.motionRef <;> cases depth <;> simp

theorem mem_motionTested {w : Winder} {c : Conveyance} : c ∈ motionTested w ↔ ownerOf c = w ∧ c ≠ .counterweight := by
  cases w <;> cases c <;> decide

/-- A reference taken at this report is no motion (R29). -/
theorem State.rereferred_foundMoving (s : State) (st : WinderState) {w : Winder} {c : Conveyance} (owned : ownerOf c = w)
    (armed : (s.position c).armed = true) :
    (s.rereferred st w true c).armed = true ∧
      ((s.rereferred st w true c).foundMoving s.work.tracking (s.drumDepth.get (drumOf c)) =
        (s.position c).foundMoving s.work.tracking (s.drumDepth.get (drumOf c))) := by
  unfold State.rereferred
  rw [if_neg (not_not.mpr owned), State.takesReference_eq, if_pos armed]
  cases ref : (s.position c).motionRef with
  | some a => exact ⟨by simp [armed], by simp [Position.foundMoving]⟩
  | none =>
    refine ⟨rfl, ?_⟩
    unfold Position.foundMoving
    rw [ref]
    cases s.drumDepth.get (drumOf c) <;> simp

theorem State.testMotion_of_found {s t : State} {st : WinderState} {w : Winder} {c : Conveyance}
    (after : t = s.afterReferences st w true) (found : s.FoundMoving w c) :
    t.testMotion w c = (s.afterReferences st w false).deliver (unpermittedMotion w c) := by
  obtain ⟨owned, -, armed, moving⟩ := found
  obtain ⟨armedAfter, same⟩ := s.rereferred_foundMoving st owned armed
  subst after
  unfold State.testMotion
  rw [State.afterReferences_position, if_pos, State.afterReferences_disarmed]
  · rfl
  · exact Bool.and_eq_true_iff.mpr ⟨armedAfter, same.trans ((Position.foundMoving_iff ..).mpr moving)⟩

theorem State.testMotion_of_not_found {s t : State} {st : WinderState} {w : Winder} {c : Conveyance}
    (after : t = s.afterReferences st w true) (tested : c ∈ motionTested w) (armed : (s.position c).armed = true)
    (unfound : ¬s.FoundMoving w c) : t.testMotion w c = t := by
  obtain ⟨owned, travels⟩ := mem_motionTested.mp tested
  obtain ⟨-, same⟩ := s.rereferred_foundMoving st owned armed
  have still : ¬(s.position c).foundMoving s.work.tracking (s.drumDepth.get (drumOf c)) = true :=
    fun moving => unfound ⟨owned, travels, armed, (Position.foundMoving_iff ..).mp moving⟩
  unfold State.testMotion
  rw [if_neg]
  intro h
  obtain ⟨-, moving⟩ := Bool.and_eq_true_iff.mp h
  subst after
  rw [State.afterReferences_position] at moving
  exact still (same.symm.trans moving)

theorem State.testMotion_of_disarmed {s : State} (w : Winder) {c : Conveyance} (h : (s.position c).armed = false) :
    s.testMotion w c = s := by
  unfold State.testMotion
  rw [h]
  rfl

theorem State.motionCheck_eq (s : State) (st : WinderState) (w : Winder) :
    s.motionCheck st w =
      ((motionTested w).filter (fun c => (s.position c).armed)).foldl (fun t c => t.testMotion w c) (s.afterReferences st w true) := by
  rw [← State.referencesTaken_eq]
  rfl

theorem State.testMotion_all_of_none_found (s : State) (st : WinderState) {w : Winder} {l : List Conveyance}
    (h : ∀ c ∈ l, c ∈ motionTested w ∧ (s.position c).armed = true ∧ ¬s.FoundMoving w c) :
    l.foldl (fun t c => t.testMotion w c) (s.afterReferences st w true) = s.afterReferences st w true := by
  induction l with
  | nil => rfl
  | cons c l ih =>
    obtain ⟨tested, armed, unfound⟩ := h c (List.mem_cons_self ..)
    rw [List.foldl_cons, State.testMotion_of_not_found rfl tested armed unfound]
    exact ih fun d m => h d (List.mem_cons_of_mem _ m)

theorem State.testMotion_all_of_disarmed {t : State} (w : Winder) {l : List Conveyance} (h : ∀ c ∈ l, (t.position c).armed = false) :
    l.foldl (fun t c => t.testMotion w c) t = t := by
  induction l with
  | nil => rfl
  | cons c l ih =>
    rw [List.foldl_cons, State.testMotion_of_disarmed w (h c (List.mem_cons_self ..))]
    exact ih fun d m => h d (List.mem_cons_of_mem _ m)

theorem State.motionCheck_of_none_found (s : State) (st : WinderState) {w : Winder} (h : ∀ c, ¬s.FoundMoving w c) :
    s.motionCheck st w = s.afterReferences st w true := by
  rw [State.motionCheck_eq]
  refine s.testMotion_all_of_none_found st fun c member => ?_
  obtain ⟨tested, armed⟩ := List.mem_filter.mp member
  exact ⟨tested, armed, h c⟩

/-- The fault's disarming leaves nothing for the tests that follow it (R29). -/
theorem State.afterReferences_deliver_disarmed (s : State) (st : WinderState) {w : Winder} (f : FaultReport) {c : Conveyance}
    (owned : ownerOf c = w) : (((s.afterReferences st w false).deliver f).position c).armed = false := by
  refine State.deliver_staysDisarmed _ f c ?_
  rw [State.afterReferences_position]
  unfold State.rereferred
  rw [if_neg (not_not.mpr owned)]
  split
  · rfl
  · exact Bool.and_false _

/-- The conveyance found stands in the list of the tested after those that are not found. -/
theorem State.motionTested_split {s : State} {w : Winder} {c : Conveyance} (found : s.FoundMoving w c)
    (earlier : c = .skip1 → ¬s.FoundMoving w .skip0) :
    ∃ l r, (motionTested w).filter (fun c => (s.position c).armed) = l ++ c :: r ∧ ∀ d ∈ l, ¬s.FoundMoving w d := by
  obtain ⟨owned, travels, armed, -⟩ := found
  have tested := mem_motionTested.mpr ⟨owned, travels⟩
  cases w with
  | service =>
    obtain rfl := List.mem_singleton.mp tested
    exact ⟨[], [], List.filter_cons_of_pos armed, nofun⟩
  | rock =>
    rcases List.mem_cons.mp tested with rfl | tested
    · exact ⟨[], _, List.filter_cons_of_pos armed, nofun⟩
    · obtain rfl := List.mem_singleton.mp tested
      refine ⟨[Conveyance.skip0].filter (fun c => (s.position c).armed), [], ?_, fun d member => ?_⟩
      · have last : [Conveyance.skip1].filter (fun c => (s.position c).armed) = [.skip1] := List.filter_cons_of_pos armed
        exact (List.filter_append [Conveyance.skip0] [.skip1]).trans (by rw [last])
      · obtain rfl := List.mem_singleton.mp (List.mem_filter.mp member).1
        exact earlier rfl

theorem State.motionCheck_of_found {s : State} (st : WinderState) {w : Winder} {c : Conveyance} (found : s.FoundMoving w c)
    (earlier : c = .skip1 → ¬s.FoundMoving w .skip0) :
    s.motionCheck st w = (s.afterReferences st w false).deliver (unpermittedMotion w c) := by
  obtain ⟨l, r, split, unfound⟩ := State.motionTested_split found earlier
  have members : ∀ d ∈ l ++ c :: r, d ∈ motionTested w ∧ (s.position d).armed = true := fun d member => by
    rw [← split] at member
    exact List.mem_filter.mp member
  rw [State.motionCheck_eq, split, List.foldl_append, List.foldl_cons]
  rw [s.testMotion_all_of_none_found st fun d m =>
    ⟨(members d (List.mem_append_left _ m)).1, (members d (List.mem_append_left _ m)).2, unfound d m⟩]
  rw [State.testMotion_of_found rfl found]
  refine State.testMotion_all_of_disarmed w fun d m => s.afterReferences_deliver_disarmed st _ ?_
  exact (mem_motionTested.mp (members d (List.mem_append_right _ (List.mem_cons_of_mem _ m))).1).1

end Sys2Proof.Machine

/-! PROOFS. A position report taken from its frame to its end (O26). -/

namespace Sys2Proof.Machine

/-! ## The frame (R167, R173) -/

theorem State.turnedAway_positionReport {s : State} {h : Head} {w : Winder} (drive : driveWinder h.link = some w)
    (length : h.length = (if h.link = .rockDrive then 20 else 12)) :
    s.turnedAway h .positionReport (if h.link = .rockDrive then 20 else 12) none = none := by
  have listed : kindListed .positionReport h.link = true := by
    revert drive
    cases h.link <;> decide +revert
  have console : h.link ≠ .console := by
    rintro e
    rw [e] at drive
    cases drive
  unfold State.turnedAway
  rw [if_neg (by simp [listed]), if_neg (not_not.mpr length), if_neg (by simp), if_neg (by simp [console]), if_neg (by simp)]

theorem reportOn_eq {s : State} {l : Link} {w : Winder} (drive : driveWinder l = some w) (b : ReportBody) :
    reportOn s l b = (readReport w s.now b).map (fun r => (w, r)) := by
  unfold reportOn
  rw [drive]
  rfl

theorem execPositionReport_taken {s : State} {h : Head} {w : Winder} {b : ReportBody} {r : Report}
    (drive : driveWinder h.link = some w) (length : h.length = (if h.link = .rockDrive then 20 else 12))
    (read : readReport w s.now b = some r) :
    exec (.positionReport h b) s =
      .next ((s.answering (s.heard h .positionReport) h .positionReport (.done, .nothing)).takeReport w r) := by
  have admitted : s.admits h .positionReport (reportLength h.link) none :=
    State.admits_iff.mpr (State.turnedAway_positionReport drive length)
  have on (t : State) (now : t.now = s.now) : reportOn t h.link b = some (w, r) := by
    rw [reportOn_eq drive, now, read]
    rfl
  show execPositionReport h b s = _
  unfold execPositionReport
  have answer : reportAnswer h.link b (s.heard h .positionReport) = (.done, .nothing) := by
    unfold reportAnswer
    rw [on _ (State.heard_now ..)]
    rfl
  rw [driveRequest_admitted admitted, answer]
  unfold takePositionReport
  rw [on]
  exact State.heard_now ..

theorem execPositionReport_refused {s : State} {h : Head} {w : Winder} {b : ReportBody}
    (drive : driveWinder h.link = some w) (length : h.length = (if h.link = .rockDrive then 20 else 12))
    (read : readReport w s.now b = none) :
    s.Reads (.positionReport h b) h .positionReport (.refused .outOfRange, .nothing) := by
  have admitted : s.admits h .positionReport (reportLength h.link) none :=
    State.admits_iff.mpr (State.turnedAway_positionReport drive length)
  have on (t : State) (now : t.now = s.now) : reportOn t h.link b = none := by
    rw [reportOn_eq drive, now, read]
    rfl
  have answer : reportAnswer h.link b (s.heard h .positionReport) = (.refused .outOfRange, .nothing) := by
    unfold reportAnswer
    rw [on _ (State.heard_now ..)]
    rfl
  show execPositionReport h b s = _
  unfold execPositionReport
  rw [driveRequest_admitted admitted, answer]
  unfold takePositionReport
  rw [on]
  exact State.heard_now ..

/-! ## What follows the records (R15, log 13) -/

section Steady

variable {w : Winder}

theorem State.updateRecords_steady (s : State) (r : Report) : State.Steady w (s.recordsTaken w r) (s.updateRecords w r) :=
  (State.raiseLost_steady _ s w _).trans (State.raiseLost_steady _ s w _)

theorem State.afterReferences_steady (s : State) (st : WinderState) (armed : Bool) :
    State.Steady w s (s.afterReferences st w armed) := by
  refine ⟨fun c other => ?_, fun c => ?_, fun _ => rfl, List.prefix_rfl, rfl, rfl⟩
  · exact (s.afterReferences_position st w armed c).trans (if_pos other)
  · rw [State.afterReferences_position]
    unfold State.rereferred
    split
    · rfl
    · split <;> rfl

theorem State.testMotion_steady (s : State) (c : Conveyance) : State.Steady w s (s.testMotion w c) :=
  .ite (s.disarmWinder_steady.trans (State.deliver_steady _ rfl)) (.refl s)

theorem State.motionCheck_steady (s : State) (st : WinderState) : State.Steady w s (s.motionCheck st w) := by
  have tested (l : List Conveyance) (t : State) : State.Steady w t (l.foldl (fun t c => t.testMotion w c) t) := by
    induction l generalizing t with
    | nil => exact .refl t
    | cons c l ih => exact (t.testMotion_steady c).trans (ih _)
  rw [State.motionCheck_eq]
  exact (s.afterReferences_steady st true).trans (tested _ _)

theorem State.mem_entryFaults_winder {s : State} {v : Winder} {c : Conveyance} {p : Position} {b : Bool} {f : FaultReport}
    (h : f ∈ s.entryFaults v c p b) : f.winder = v := by
  unfold State.entryFaults at h
  dsimp only at h
  split at h
  · cases h
  · obtain ⟨e, -, e_⟩ := List.mem_filterMap.mp h
    split at e_
    · obtain ⟨k, -, rfl⟩ := Option.map_eq_some_iff.mp e_
      rfl
    · cases e_

theorem State.rebuildAtReport_steady (s before : State) : State.Steady w s (s.rebuildAtReport before w) := by
  unfold State.rebuildAtReport
  dsimp only
  refine ((s.rebuildSet_steady (ownerOf_firstConveyance w)).trans (State.rebuildSet_steady _ (ownerOf_secondConveyance w))).trans
    (State.deliverAll_steady _ fun f member => ?_)
  rcases List.mem_append.mp member with member | member <;> exact State.mem_entryFaults_winder member

theorem State.stopAtRest_steady (s : State) (st : WinderState) : State.Steady w s (s.stopAtRest st w) :=
  .ite (State.endAndPark_steady s _) (.refl s)

theorem State.takeDriveState_steady (s : State) (r : Report) : State.Steady w s (s.takeDriveState w r) := by
  unfold State.takeDriveState
  split
  · exact .ite (.refl s) ((s.withWinder_steady w _ rfl).trans (State.deliver_steady _ rfl))
  all_goals exact s.withWinder_steady w _ rfl

/-- Only a rock report carries a clutch state (R173). -/
def Report.ClutchOf (r : Report) (w : Winder) : Prop := r.clutch ≠ none → w = .rock

theorem Report.clutchOf_of_read {now : Time} {b : ReportBody} {r : Report} (h : readReport w now b = some r) : r.ClutchOf w := by
  intro clutch
  cases w with
  | rock => rfl
  | service =>
    refine absurd ?_ clutch
    unfold readReport readClutch at h
    split at h
    · next c _ _ e =>
      cases h
      cases e
      rfl
    · cases h

theorem State.clutchAtReport_steady (s : State) {r : Report} (h : r.ClutchOf w) : State.Steady w s (s.clutchAtReport r.clutch) := by
  cases e : r.clutch with
  | none => exact .refl s
  | some c =>
    obtain rfl := h (by rw [e]; exact Option.some_ne_none c)
    exact s.takeClutch_steady c

theorem State.pairCheckAtReport_steady (s : State) {r : Report} (h : r.ClutchOf w) : State.Steady w s (s.pairCheck r.clutch) := by
  cases e : r.clutch with
  | none => exact .refl s
  | some c =>
    obtain rfl := h (by rw [e]; exact Option.some_ne_none c)
    exact s.pairCheck_steady (some c)

theorem State.handReport_steady (s before : State) {r : Report} (h : r.ClutchOf w) : State.Steady w s (s.handReport before w r) :=
  ((((((s.rebuildAtReport_steady before).trans (State.handAndCompare_steady _)).trans (State.handTouch_steady _ w)).trans
    (State.stopAtRest_steady _ _)).trans (State.clutchAtReport_steady _ h)).trans (State.takeDriveState_steady _ r)).trans
      (State.readyStaged_steady _ w)

/-- After the records, the report's work leaves their readings (R16). -/
theorem State.takeReport_steady (s : State) {r : Report} (h : r.ClutchOf w) :
    State.Steady w ((s.storeReport w r).recordsTaken w r) (s.takeReport w r) :=
  ((((State.updateRecords_steady _ r).trans (State.motionCheck_steady _ _)).trans (State.pairCheckAtReport_steady _ h)).trans
    (State.handReport_steady _ s h)).trans (State.settle_steady _)

end Steady

theorem State.Steady.reading {w : Winder} {s t : State} (h : State.Steady w s t) (c : Conveyance) {α : Type} (f : Position → α)
    (plain : ∀ p : Position, f p.readings = f p) : f (t.position c) = f (s.position c) :=
  (plain _).symm.trans ((congrArg f (h.readings c)).trans (plain _))

theorem State.recordsTaken_kept (s : State) (w : Winder) (r : Report) :
    (s.recordsTaken w r).winders = s.winders ∧ (s.recordsTaken w r).reports = s.reports ∧ (s.recordsTaken w r).sent = s.sent ∧
      (s.recordsTaken w r).drumDepth = (s.drumsTaken w r).drumDepth := by
  rw [State.recordsTaken_eq, State.drumsTaken_eq]
  exact ⟨rfl, rfl, rfl, rfl⟩

theorem State.reported_frame {s t : State} (work : t.work = s.work) (positions : t.positions = s.positions) (r : Report) (c : Conveyance) :
    t.reported r c = s.reported r c :=
  State.reported_congr work (by unfold State.position; rw [positions]) r

/-- What a report taken leaves of its winder and of the other (R16 to R22). -/
theorem State.takeReport_records (s : State) {w : Winder} {r : Report} (h : r.ClutchOf w) :
    let t := s.takeReport w r
    t.reports = s.reports.set w (some r) ∧ (t.winder w).silent = .clear ∧
      (∀ d ∈ drumsOf w, t.drumDepth.get d = some (s.uncorrected d (r.reading d).count)) ∧
      (∀ c ∈ conveyancesOf w, (t.position c).readings = (s.reported r c).readings) ∧
      (∀ c, ownerOf c ≠ w → t.position c = s.position c) ∧ s.sent <+: t.sent := by
  intro t
  have steady : State.Steady w ((s.storeReport w r).recordsTaken w r) t := s.takeReport_steady h
  obtain ⟨winders, reports, sent, depths⟩ := (s.storeReport w r).recordsTaken_kept w r
  refine ⟨?_, ?_, fun d member => ?_, fun c member => ?_, fun c other => ?_, ?_⟩
  · exact steady.reports.trans reports
  · rw [steady.silent]
    unfold State.winder
    rw [winders]
    exact congrArg WinderRecord.silent (State.withWinder_winder_self ..)
  · rw [steady.drumDepth, depths]
    exact State.drumsTaken_depth _ r member
  · rw [steady.readings, State.recordsTaken_position _ r member]
    rfl
  · rw [steady.other c other, State.recordsTaken_other _ r other]
    rfl
  · have kept : (s.storeReport w r).sent = s.sent := rfl
    exact (sent.trans kept) ▸ steady.sent

theorem State.reported_state (s : State) (r : Report) (c : Conveyance) :
    (s.reported r c).state =
      if (s.position c).state ≠ .lost ∧ (s.work.tracking.ambiguity < (s.reported r c).band ∨
        depthInRange (s.depthOf c (s.uncorrected (drumOf c) (r.reading (drumOf c)).count)) = false)
      then .lost else (s.position c).state := rfl

theorem State.becameLost_recordsTaken (s : State) {w : Winder} (r : Report) {c : Conveyance} (h : c ∈ conveyancesOf w) :
    s.BecameLost (s.recordsTaken w r) c ↔
      (s.position c).state ≠ .lost ∧
        (s.work.tracking.ambiguity < ((s.recordsTaken w r).position c).band ∨
          depthInRange (s.depthOf c (s.uncorrected (drumOf c) (r.reading (drumOf c)).count)) = false) := by
  unfold State.BecameLost
  rw [State.recordsTaken_position _ _ h, State.reported_state]
  refine and_congr_right fun before => ?_
  split
  · next lost => exact iff_of_true rfl lost.2
  · next lost => exact iff_of_false before fun h => lost ⟨before, h⟩

/-- Settles O26: the report's work after the records is steady. -/
theorem reportsUpdateTheRecords : Obligations.ReportsUpdateTheRecords := by
  refine ⟨fun s h b w drive length => ⟨fun r read => ?_, fun read => execPositionReport_refused drive length read⟩,
    fun s before w r => ?_, fun s w r => ?_, fun s st w => ?_, fun s c => ?_⟩
  · have runs := execPositionReport_taken drive length read
    refine ⟨runs, _, runs, ?_⟩
    have answered : s.answering (s.heard h .positionReport) h .positionReport (.done, .nothing) =
        { s.heard h .positionReport with sent := [s.replyTo h .positionReport (.done, .nothing)] } := by
      rw [State.answering_eq _ _ _ (by decide), State.heard_sent]
      rfl
    obtain ⟨u, hu⟩ : ∃ u, u = s.answering (s.heard h .positionReport) h .positionReport (.done, .nothing) := ⟨_, rfl⟩
    rw [← hu]
    rw [answered, State.heard_eq] at hu
    have record (c : Conveyance) : u.reported r c = s.reported r c := State.reported_frame (by rw [hu]) (by rw [hu]) r c
    have position (c : Conveyance) : u.position c = s.position c := by
      rw [hu]
      rfl
    have depth (d : Drum) (n : Int) : u.uncorrected d n = s.uncorrected d n := by
      rw [hu]
      rfl
    obtain ⟨reports, silent, depths, records, others, sent⟩ := u.takeReport_records (Report.clutchOf_of_read read)
    refine ⟨reports.trans (by rw [hu]), silent, fun d member => (depths d member).trans (by rw [depth]), fun c member => ?_,
      fun c other => (others c other).trans (position c), ?_⟩
    · have read {α : Type} (f : Position → α) (plain : ∀ p : Position, f p.readings = f p) :
          f ((u.takeReport w r).position c) = f (s.reported r c) := by
        rw [← plain, records c member, plain, record]
      exact ⟨read Position.estimate fun _ => rfl, read Position.band fun _ => rfl, read Position.base fun _ => rfl,
        read Position.travel fun _ => rfl, read Position.speed fun _ => rfl, read Position.rest fun _ => rfl,
        read Position.direction fun _ => rfl, read Position.correction fun _ => rfl, read Position.lastMarker fun _ => rfl,
        read Position.state fun _ => rfl⟩
    · obtain ⟨l, e⟩ := sent
      rw [← e, hu]
      rfl
  · refine ⟨rfl, ?_⟩
    unfold State.handReport
    cases w <;> cases r.clutch <;> rfl
  · intro a b drums records lost report u
    have updated : u = (records.raiseLost s w a).raiseLost s w b := s.updateRecords_eq w r
    have leading (h : lost a) : records.raiseLost s w a = records.deliver (report a) := State.raiseLost_of h
    have trailing (h : lost b) (t : State) (readings : (t.position b).readings = (records.position b).readings) :
        t.raiseLost s w b = t.deliver (report b) := State.raiseLost_of ((State.becameLost_congr readings).mpr h)
    have unlost (h : ¬lost b) (t : State) (readings : (t.position b).readings = (records.position b).readings) :
        t.raiseLost s w b = t := State.raiseLost_of_not (mt (State.becameLost_congr readings).mp h)
    have delivered : ((records.deliver (report a)).position b).readings = (records.position b).readings :=
      (records.deliver_steady (w := w) rfl).readings b
    refine ⟨⟨by cases w <;> rfl, s.recordsTaken_eq w r, fun c member => s.becameLost_recordsTaken r member⟩,
      fun ha hb => ?_, fun ha hb => ?_, fun ha hb => ?_, fun ha hb => ?_⟩
    · rw [updated, State.raiseLost_of_not ha, unlost hb _ rfl]
    · rw [updated, leading ha, unlost hb _ delivered]
    · rw [updated, State.raiseLost_of_not ha, trailing hb _ rfl]
    · rw [updated, leading ha, trailing hb _ delivered]
  · exact ⟨fun unfound => s.motionCheck_of_none_found st unfound, fun c found earlier => State.motionCheck_of_found st found earlier⟩
  · exact ⟨s.pairCheck_of_not_closed, fun closed => closed ▸ s.pairCheck_eq⟩

end Sys2Proof.Machine

/-! PROOFS. Marker passes (O27). -/

namespace Sys2Proof.Machine

theorem State.takePass_unknown {s : State} {c : Conveyance} {code : Nat}
    (h : s.work.markers.find? (fun m => m.id == code && m.compartment == c) = none) :
    s.takePass c code = ({ s with lastPass := s.lastPass.set c (some s.now) } : State).raiseUnknownMarker c code := by
  unfold State.takePass
  dsimp only
  rw [h]

/-- A known marker's pass, by the record it meets. -/
theorem State.takePass_known {s : State} {c : Conveyance} {code : Nat} {m : Marker}
    (h : s.work.markers.find? (fun m => m.id == code && m.compartment == c) = some m) :
    s.takePass c code =
      match (s.position c).state, s.passEstimate c with
      | .lost, _ => { s with lastPass := s.lastPass.set c (some s.now) }
      | .cold, some e | .valid, some e => ({ s with lastPass := s.lastPass.set c (some s.now) } : State).applyPass c m (m.depth - e)
      | .cold, none | .valid, none => { s with lastPass := s.lastPass.set c (some s.now) } := by
  unfold State.takePass
  dsimp only
  rw [h]
  rfl

theorem State.takePass_applied {s : State} {c : Conveyance} {code : Nat} {m : Marker} {e : Int}
    (h : s.work.markers.find? (fun m => m.id == code && m.compartment == c) = some m) (found : (s.position c).state ≠ .lost)
    (estimate : s.passEstimate c = some e) :
    s.takePass c code = ({ s with lastPass := s.lastPass.set c (some s.now) } : State).applyPass c m (m.depth - e) := by
  rw [State.takePass_known h, estimate]
  cases state : (s.position c).state with
  | lost => exact absurd state found
  | cold => rfl
  | valid => rfl

theorem State.takePass_ignored {s : State} {c : Conveyance} {code : Nat} {m : Marker}
    (h : s.work.markers.find? (fun m => m.id == code && m.compartment == c) = some m)
    (ignored : (s.position c).state = .lost ∨ (s.position c).reportEstimate = none) :
    s.takePass c code = { s with lastPass := s.lastPass.set c (some s.now) } := by
  rw [State.takePass_known h]
  rcases ignored with state | absent
  · rw [state]
  · have unknown : s.passEstimate c = none := by
      unfold State.passEstimate
      rw [absent]
    rw [unknown]
    cases (s.position c).state <;> rfl

theorem State.passEstimate_of {s : State} {c : Conveyance} {e : Int} {r : Report} (estimate : (s.position c).reportEstimate = some e)
    (report : s.reports.get (ownerOf c) = some r) :
    s.passEstimate c = some (e + roundDiv ((s.position c).speed * (((s.now - r.at_).toNat : Nat) : Int)) 1000) := by
  unfold State.passEstimate
  rw [estimate, report]
  rfl

theorem State.raiseDisagreement_steady (s : State) (c : Conveyance) (d : Int) :
    State.Steady (ownerOf c) s (s.raiseDisagreement c d) :=
  .ite (s.deliver_steady rfl) (.ite (s.deliver_steady rfl) (.refl s))

/-- After the record is corrected, the pass's work leaves the readings (R25). -/
theorem State.applyPass_steady (s : State) (c : Conveyance) (m : Marker) (d : Int) :
    State.Steady (ownerOf c) (s.withPosition c (fun p => p.passed m d)) (s.applyPass c m d) := by
  unfold State.applyPass
  dsimp only
  exact ((((State.raiseDisagreement_steady _ c d).trans (State.rebuildSet_steady _ rfl)).trans
    ((State.deliverAll_steady _ fun f member => State.mem_entryFaults_winder member).trans (State.handOn_steady _ _))).trans
      (State.readyStaged_steady _ _)).trans (State.settle_steady _)

theorem State.deliverAll_keeps (s : State) (l : List FaultReport) : s.Keeps (s.deliverAll l) := by
  induction l generalizing s with
  | nil => exact .refl s
  | cons f l ih => exact (s.deliver_keeps f).trans (ih _)

theorem State.applyPass_keeps (s : State) (c : Conveyance) (m : Marker) (d : Int) : s.Keeps (s.applyPass c m d) := by
  have corrected : s.Keeps (s.withPosition c (fun p => p.passed m d)) := by constructor <;> rfl
  have raised (t : State) : t.Keeps (t.raiseDisagreement c d) := .ite (t.deliver_keeps _) (.ite (t.deliver_keeps _) (.refl t))
  unfold State.applyPass
  dsimp only
  exact ((((corrected.trans (raised _)).trans (State.rebuildSet_keeps _ c)).trans
    ((State.deliverAll_keeps _ _).trans (State.handOn_keeps _ _))).trans (State.readyStaged_keeps _ _)).trans (State.settle_keeps _ _)

/-- Settles O27: after the record is corrected, the pass's work is steady. -/
theorem markerPassesCorrectTheRecord : Obligations.MarkerPassesCorrectTheRecord := by
  refine ⟨fun s c code => ⟨fun m e r known found estimate report => ?_, fun unknown => ?_, fun m known ignored => ?_⟩,
    fun s c d => ?_⟩
  · intro d
    have runs : exec (.markerPass c code) s =
        .next (({ s.begin with lastPass := s.lastPass.set c (some s.now) } : State).applyPass c m d) :=
      congrArg Host.Outcome.next (State.takePass_applied (s := s.begin) known found (State.passEstimate_of estimate report))
    refine ⟨⟨_, runs, ?_⟩, runs⟩
    obtain ⟨u, hu⟩ : ∃ u : State, u = { s.begin with lastPass := s.lastPass.set c (some s.now) } := ⟨_, rfl⟩
    have position (x : Conveyance) : u.position x = s.position x := by
      rw [hu]
      rfl
    rw [← hu]
    have steady := u.applyPass_steady c m d
    have self : (u.withPosition c (fun p => p.passed m d)).position c = (s.position c).passed m d := by
      rw [State.withPosition_position_self, position]
    have read {α : Type} (f : Position → α) (plain : ∀ p : Position, f p.readings = f p) :
        f ((u.applyPass c m d).position c) = f ((s.position c).passed m d) := by
      rw [steady.reading c f plain, self]
    refine ⟨read Position.estimate fun _ => rfl, read Position.base fun _ => rfl, read Position.band fun _ => rfl,
      read Position.travel fun _ => rfl, read Position.lastMarker fun _ => rfl, read Position.correction fun _ => rfl,
      read Position.state fun _ => rfl, read Position.speed fun _ => rfl, read Position.rest fun _ => rfl,
      (State.applyPass_keeps u c m d).lastPass.trans (by rw [hu]), fun x other => ?_⟩
    have kept : (u.withPosition c (fun p => p.passed m d)).position x = s.position x := by
      rw [State.withPosition_position_ne _ _ _ other, position]
    exact ⟨(steady.reading x Position.correction fun _ => rfl).trans (by rw [kept]),
      (steady.reading x Position.estimate fun _ => rfl).trans (by rw [kept])⟩
  · exact congrArg Host.Outcome.next (State.takePass_unknown (s := s.begin) unknown)
  · exact congrArg Host.Outcome.next (State.takePass_ignored (s := s.begin) known ignored)
  · intro x report
    unfold State.raiseDisagreement
    dsimp only
    refine ⟨fun trip => if_pos trip, fun warn within => ?_, fun quiet within => ?_⟩
    · rw [if_neg (not_lt.mpr within)]
      exact if_pos warn
    · rw [if_neg (not_lt.mpr within)]
      exact if_neg (not_lt.mpr quiet)

end Sys2Proof.Machine

/-! PROOFS. The approach limit and the rebuild after an edit of the zone table (O30, and the rules for O31 and O32). -/

namespace Sys2Proof.Machine

theorem State.toGo_of {s : State} {l : Leg} {m : LegMotion} {e : Int}
    (motion : l.motions.find? (fun m => m.conveyance == l.leading) = some m) (estimate : (s.position l.leading).estimate = some e) :
    s.toGo l = (if l.direction = .descending then m.target - e else e - m.target).toNat := by
  unfold State.toGo Leg.target
  rw [estimate, motion]
  rfl

theorem State.toGo_of_absent {s : State} {l : Leg} (estimate : (s.position l.leading).estimate = none) : s.toGo l = 0 := by
  unfold State.toGo
  rw [estimate]

/-- Settles O30. -/
theorem approachLimitIsTheWholeRoot : Obligations.ApproachLimitIsTheWholeRoot := by
  refine ⟨fun s l small => ?_, fun c pos => ?_, fun s l m motion => ⟨fun e estimate => ⟨fun down => ?_, fun up => ?_⟩,
    State.toGo_of_absent⟩⟩
  · obtain ⟨floor, ceiling⟩ := wholeSqrt_spec small
    exact ⟨_, floor, ceiling, rfl⟩
  · have least (d : Nat) := ceilDiv_le_iff (c.maxSpeed * c.maxSpeed) d (Nat.mul_pos Nat.two_pos pos)
    exact ⟨(least _).mp le_rfl, fun d reaches => (least d).mpr reaches⟩
  · rw [State.toGo_of motion estimate, if_pos down]
    exact Int.toNat_eq_max _
  · rw [State.toGo_of motion estimate, if_neg (by simp [up])]
    exact Int.toNat_eq_max _

/-! ## What the cap and the restricted touch condition look at (R47, R53) -/

theorem State.capOf_congr {s t : State} {w : Winder} (positions : t.positions = s.positions) (zones : t.zones = s.zones)
    (work : t.work = s.work) (state : (t.winder w).state = (s.winder w).state) (mode : (t.winder w).mode = (s.winder w).mode)
    (active : (t.pipe w).active = (s.pipe w).active) : t.capOf w = s.capOf w := by
  have position (c : Conveyance) : t.position c = s.position c := by
    unfold State.position
    rw [positions]
  have isIn (st : WinderState) : t.isIn w st = s.isIn w st := by
    unfold State.isIn
    rw [state]
  have leg : t.activeLeg w = s.activeLeg w := by
    unfold State.activeLeg
    rw [active]
  have class_ (c : Class) : t.classOf c = s.classOf c := by
    unfold State.classOf
    rw [work]
  have slow : t.slowTerms w = s.slowTerms w := by
    unfold State.slowTerms
    simp only [zones, position]
  have passing : t.passingTerms w = s.passingTerms w := by
    unfold State.passingTerms
    simp only [zones, position]
  have wide : t.wideBand w = s.wideBand w := by
    unfold State.wideBand
    simp only [work, position]
  have approach (l : Leg) : t.approachLimit l = s.approachLimit l := by
    unfold State.approachLimit State.toGo
    simp only [class_, position]
  have motion : t.inMotion w = s.inMotion w := by
    unfold State.inMotion
    rw [state]
  have terms (l : Leg) : t.capTerms w l = s.capTerms w l := by
    unfold State.capTerms
    rw [slow, passing, wide, isIn, approach, mode, class_, class_, class_]
  unfold State.capOf
  simp only [motion, leg, terms]

theorem State.restrictedTouch_congr {s t : State} (w : Winder) (positions : t.positions = s.positions) (zones : t.zones = s.zones) :
    t.restrictedTouch w = s.restrictedTouch w := by
  unfold State.restrictedTouch State.isRestrictedZone State.zoneKind State.position
  rw [positions, zones]

/-! ## Handing on (R38, R49, R53, R113) -/

theorem State.handTouch_self (s : State) (w : Winder) :
    (s.handTouch w).winder w = { s.winder w with recovery := (s.winder w).recovery && s.restrictedTouch w } := by
  unfold State.handTouch
  dsimp only
  cases touch : s.restrictedTouch w
  · rw [if_neg Bool.false_ne_true, State.withWinder_winder_self, Bool.and_false]
    rfl
  · rw [if_pos rfl, Bool.and_true]
    rfl

theorem State.handTouch_kept (s : State) (w : Winder) :
    (s.handTouch w).caps = s.caps ∧ (s.handTouch w).drives = s.drives ∧ (s.handTouch w).sent = s.sent ∧
      (s.handTouch w).restricted = s.restricted.set w (s.restrictedTouch w) ∧
      ∀ v, ((s.handTouch w).winder v).slowCap = (s.winder v).slowCap ∧ (v ≠ w → (s.handTouch w).winder v = s.winder v) := by
  unfold State.handTouch
  dsimp only
  split
  · exact ⟨rfl, rfl, rfl, rfl, fun v => ⟨rfl, fun _ => rfl⟩⟩
  · refine ⟨rfl, rfl, rfl, rfl, fun v => ⟨?_, fun other => State.withWinder_winder_ne _ _ _ other⟩⟩
    cases v <;> cases w <;> rfl

theorem State.followCap_kept (s : State) (w : Winder) :
    (s.followCap w).caps = s.caps ∧ (s.followCap w).restricted = s.restricted ∧
      (s.followCap w).winder w = { s.winder w with slowCap := ((s.followCap w).winder w).slowCap } ∧
      (∀ v, v ≠ w → (s.followCap w).winder v = s.winder v) := by
  unfold State.followCap
  split
  · exact ⟨rfl, rfl, rfl, fun _ _ => rfl⟩
  · dsimp only
    split
    · refine ⟨rfl, rfl, ?_, fun v other => ?_⟩
      · cases w <;> rfl
      · exact s.withWinder_winder_ne w (fun r => { r with slowCap := some (s.caps.get w).speed }) other
    · exact ⟨rfl, rfl, rfl, fun _ _ => rfl⟩

theorem State.followCap_of_none {s : State} {w : Winder} (h : (s.winder w).slowCap = none) : s.followCap w = s := by
  unfold State.followCap
  rw [h]

/-- What handing the cap and the restricted touch of a winder on does (R38, R49, R53). -/
structure State.HandedOn (w : Winder) (s t : State) : Prop where
  caps : t.caps = s.caps.set w (s.capOf w)
  restricted : t.restricted = s.restricted.set w (s.restrictedTouch w)
  self : t.winder w =
    { s.winder w with
      recovery := (s.winder w).recovery && s.restrictedTouch w
      slowCap := (t.winder w).slowCap }
  other : ∀ v, v ≠ w → t.winder v = s.winder v
  quiet : (s.winder w).slowCap = none → t.drives = s.drives ∧ t.sent = s.sent ∧ (t.winder w).slowCap = none

theorem State.handOn_handedOn (s : State) (w : Winder) : State.HandedOn w s (s.handOn w) := by
  obtain ⟨u, hu⟩ : ∃ u, u = (s.handCap w).followCap w := ⟨_, rfl⟩
  have touch : u.restrictedTouch w = s.restrictedTouch w := by
    have handed := (s.handCap w).followCap_handsOn w
    refine State.restrictedTouch_congr w ?_ ?_
    · rw [hu, State.followCap_positions]
      rfl
    · rw [hu, handed]
      rfl
  obtain ⟨caps, restricted, winder, others⟩ := (s.handCap w).followCap_kept w
  rw [← hu] at caps restricted winder others
  obtain ⟨caps', drives', sent', restricted', slow'⟩ := u.handTouch_kept w
  have final : s.handOn w = u.handTouch w := by
    rw [hu]
    rfl
  rw [final]
  refine ⟨caps'.trans caps, restricted'.trans (by rw [restricted, touch]; rfl), ?_, fun v other => ?_, fun unsent => ?_⟩
  · rw [(slow' w).1, State.handTouch_self, touch, winder]
    rfl
  · exact ((slow' v).2 other).trans (others v other)
  · have same : u = s.handCap w := hu.trans (State.followCap_of_none unsent)
    rw [drives', sent', (slow' w).1, same]
    exact ⟨rfl, rfl, unsent⟩

/-! ## The rebuild after an edit of the table (R38) -/

theorem State.rebuildMasked_self (s : State) (mask : PerConveyance Bool) (c : Conveyance) :
    (s.rebuildMasked mask c).position c = if mask.get c = true then (s.position c).withSet (s.touched c) else s.position c := by
  unfold State.rebuildMasked
  split
  · exact s.rebuildSet_self c
  · rfl

theorem State.rebuildMasked_ne (s : State) (mask : PerConveyance Bool) {c d : Conveyance} (h : d ≠ c) :
    (s.rebuildMasked mask c).position d = s.position d := by
  unfold State.rebuildMasked
  split
  · exact s.rebuildSet_ne h
  · rfl

theorem State.rebuildMasked_frame (s : State) (mask : PerConveyance Bool) (c : Conveyance) :
    s.rebuildMasked mask c = { s with positions := (s.rebuildMasked mask c).positions } := by
  unfold State.rebuildMasked
  split <;> rfl

theorem State.rebuildMasked_touched (s : State) (mask : PerConveyance Bool) {c d : Conveyance} (h : d ≠ c) :
    (s.rebuildMasked mask c).touched d = s.touched d :=
  State.touched_congr (by rw [State.rebuildMasked_frame]) (s.rebuildMasked_ne mask h)

/-- The sets of every conveyance in a mask rebuilt. -/
def State.rebuildAll (s : State) (mask : PerConveyance Bool) : State :=
  (((s.rebuildMasked mask .cage).rebuildMasked mask .counterweight).rebuildMasked mask .skip0).rebuildMasked mask .skip1

theorem State.rebuildAll_frame (s : State) (mask : PerConveyance Bool) :
    s.rebuildAll mask = { s with positions := (s.rebuildAll mask).positions } := by
  unfold State.rebuildAll
  rw [State.rebuildMasked_frame, State.rebuildMasked_frame, State.rebuildMasked_frame, State.rebuildMasked_frame]

theorem State.rebuildAll_position (s : State) (mask : PerConveyance Bool) (c : Conveyance) :
    (s.rebuildAll mask).position c = if mask.get c = true then (s.position c).withSet (s.touched c) else s.position c := by
  unfold State.rebuildAll
  cases c
  case cage =>
    rw [State.rebuildMasked_ne _ _ (by decide), State.rebuildMasked_ne _ _ (by decide), State.rebuildMasked_ne _ _ (by decide),
      State.rebuildMasked_self]
  case counterweight =>
    rw [State.rebuildMasked_ne _ _ (by decide), State.rebuildMasked_ne _ _ (by decide), State.rebuildMasked_self,
      State.rebuildMasked_ne _ _ (by decide), State.rebuildMasked_touched _ _ (by decide)]
  case skip0 =>
    rw [State.rebuildMasked_ne _ _ (by decide), State.rebuildMasked_self,
      State.rebuildMasked_ne _ _ (by decide), State.rebuildMasked_touched _ _ (by decide),
      State.rebuildMasked_ne _ _ (by decide), State.rebuildMasked_touched _ _ (by decide)]
  case skip1 =>
    rw [State.rebuildMasked_self,
      State.rebuildMasked_ne _ _ (by decide), State.rebuildMasked_touched _ _ (by decide),
      State.rebuildMasked_ne _ _ (by decide), State.rebuildMasked_touched _ _ (by decide),
      State.rebuildMasked_ne _ _ (by decide), State.rebuildMasked_touched _ _ (by decide)]

theorem State.rebuildForEdit_eq (s : State) (mask : PerConveyance Bool) :
    s.rebuildForEdit mask = ((s.rebuildAll mask).handOn .service).handOn .rock := rfl

/-- What the rebuild after an edit of the table leaves (R38, R49, R53). -/
structure State.Rebuilt (mask : PerConveyance Bool) (s t : State) : Prop where
  position : ∀ c, t.position c = if mask.get c = true then (s.position c).withSet (s.touched c) else s.position c
  touched : ∀ c, t.touched c = s.touched c
  caps : ∀ w, t.caps.get w = t.capOf w
  restricted : ∀ w, t.restricted.get w = t.restrictedTouch w
  winder : ∀ w, t.winder w =
    { s.winder w with
      recovery := (s.winder w).recovery && t.restrictedTouch w
      slowCap := (t.winder w).slowCap }
  quiet : (∀ w, (s.winder w).slowCap = none) → t.drives = s.drives ∧ t.sent = s.sent ∧ ∀ w, (t.winder w).slowCap = none
  handsOn : s.HandsOn t

theorem State.capOf_handOn (s : State) (v w : Winder) : (s.handOn v).capOf w = s.capOf w := by
  have handed := s.handOn_handsOn v
  obtain ⟨-, -, self, other, -⟩ := s.handOn_handedOn v
  have winder : ((s.handOn v).winder w).state = (s.winder w).state ∧ ((s.handOn v).winder w).mode = (s.winder w).mode := by
    by_cases same : w = v
    · subst same
      rw [self]
      exact ⟨rfl, rfl⟩
    · rw [other w same]
      exact ⟨rfl, rfl⟩
  exact State.capOf_congr (s.handOn_positions v) (by rw [handed]) (by rw [handed]) winder.1 winder.2 (by rw [handed]; rfl)

theorem State.restrictedTouch_handOn (s : State) (v w : Winder) : (s.handOn v).restrictedTouch w = s.restrictedTouch w :=
  State.restrictedTouch_congr w (s.handOn_positions v) (by rw [s.handOn_handsOn v])

theorem State.touched_withSet {s t : State} {c : Conveyance} (zones : t.zones = s.zones) (n : List Nat)
    (record : t.position c = (s.position c).withSet n) : t.touched c = s.touched c := by
  unfold State.touched
  rw [zones, record]
  rfl

theorem State.rebuildForEdit_rebuilt (s : State) (mask : PerConveyance Bool) : State.Rebuilt mask s (s.rebuildForEdit mask) := by
  obtain ⟨u, hu⟩ : ∃ u, u = s.rebuildAll mask := ⟨_, rfl⟩
  have frame := s.rebuildAll_frame mask
  rw [← hu] at frame
  have sets : s.HandsOn u := by
    rw [frame]
    rfl
  have service := u.handOn_handedOn .service
  have rock := (u.handOn .service).handOn_handedOn .rock
  have same : s.rebuildForEdit mask = (u.handOn .service).handOn .rock := by rw [State.rebuildForEdit_eq, hu]
  have handsOn : s.HandsOn ((u.handOn .service).handOn .rock) :=
    (State.HandsOn.trans (t := u) sets (u.handOn_handsOn .service)).trans ((u.handOn .service).handOn_handsOn .rock)
  have position (c : Conveyance) : ((u.handOn .service).handOn .rock).position c =
      if mask.get c = true then (s.position c).withSet (s.touched c) else s.position c := by
    rw [State.handOn_position, State.handOn_position, hu, State.rebuildAll_position]
  have touch (w : Winder) : ((u.handOn .service).handOn .rock).restrictedTouch w = u.restrictedTouch w := by
    rw [State.restrictedTouch_handOn, State.restrictedTouch_handOn]
  have winder (w : Winder) : u.winder w = s.winder w := by
    rw [frame]
    rfl
  rw [same]
  refine ⟨position, fun c => ?_, fun w => ?_, fun w => ?_, fun w => ?_, fun unsent => ?_, handsOn⟩
  · have zones : ((u.handOn .service).handOn .rock).zones = s.zones := by rw [handsOn]
    have record := position c
    split at record
    · exact State.touched_withSet zones _ record
    · exact State.touched_congr zones record
  · rw [State.capOf_handOn, State.capOf_handOn, rock.caps, service.caps, State.capOf_handOn]
    cases w <;> rfl
  · rw [touch, rock.restricted, service.restricted, State.restrictedTouch_handOn]
    cases w <;> rfl
  · rw [touch]
    cases w with
    | service =>
      rw [rock.other .service (by decide), service.self, winder]
    | rock =>
      rw [rock.self, service.other .rock (by decide), winder, State.restrictedTouch_handOn]
  · obtain ⟨drives, sent, slow⟩ := service.quiet (by rw [winder]; exact unsent _)
    obtain ⟨drives', sent', slow'⟩ := rock.quiet (by rw [service.other .rock (by decide), winder]; exact unsent _)
    refine ⟨drives'.trans (drives.trans (by rw [frame])), sent'.trans (sent.trans (by rw [frame])), fun w => ?_⟩
    cases w with
    | service => rw [rock.other .service (by decide)]; exact slow
    | rock => exact slow'

end Sys2Proof.Machine

/-! PROOFS. WRITE ZONE and REMOVE ZONE (O31): the entry read, its place, and the sets rebuilt. -/

namespace Sys2Proof.Machine

/-! ## Tests in two lists -/

/-- Tests made in order may be cut into two lists. -/
theorem TestsInOrder.append {no : Reason → Prop} {l r : List (Prop × Reason)} {taken : Prop}
    (h : TestsInOrder no l (TestsInOrder no r taken)) : TestsInOrder no (l ++ r) taken := by
  induction l with
  | nil => exact h
  | cons e l ih => exact ⟨h.1, fun passed => ih (h.2 passed)⟩

/-! ## Tables that need not be in order -/

/-- Placing an entry needs no order of the table: it stands before the first number that is not less. -/
theorem tableGet_tablePut_any {α : Type} (t : List (Nat × α)) (n m : Nat) (a : α) :
    tableGet (tablePut t n a) m = if m = n then some a else tableGet t m := by
  induction t with
  | nil =>
    simp only [tablePut, tableGet_cons, tableGet_nil]
    by_cases h : m = n
    · simp [h]
    · simp [h, Ne.symm h]
  | cons e t ih =>
    unfold tablePut
    split
    · next less =>
      rw [tableGet_cons, tableGet_cons, ih]
      by_cases same : m = n
      · simp [same, less.ne]
      · simp [same]
    · split
      · next eq =>
        rw [tableGet_cons, tableGet_cons]
        by_cases same : m = n
        · simp [same]
        · simp [same, Ne.symm same, eq]
      · rw [tableGet_cons]
        by_cases same : m = n
        · simp [same]
        · simp [same, Ne.symm same]

/-! ## The entry of a WRITE ZONE (R36, R39) -/

theorem zoneKindCode_of_lt {kind : Nat} (h : kind < 5) :
    ∃ k, zoneKindCode kind = some k ∧ (k.isCapped = true ↔ kind = 0 ∨ kind = 1) ∧ (k = .passing ↔ kind = 1) := by
  interval_cases kind <;> exact ⟨_, rfl, by decide, by decide⟩

theorem zoneKindCode_of_le {kind : Nat} (h : 5 ≤ kind) : zoneKindCode kind = none := by
  obtain ⟨k, rfl⟩ := Nat.exists_eq_add_of_le' h
  rfl

theorem maskCode_of_lt {mask : Nat} (h : mask < 16) :
    ∃ m, maskCode mask = some m ∧ (∀ c, m.get c = mask.testBit c.ctorIdx) ∧ (maskNonEmpty m = false ↔ mask = 0) := by
  refine ⟨_, if_pos h, fun c => by cases c <;> rfl, ?_⟩
  interval_cases mask <;> decide

theorem maskCode_of_le {mask : Nat} (h : 16 ≤ mask) : maskCode mask = none := if_neg (not_lt.mpr h)

theorem entryCap_eq_none {k : ZoneKind} {cap : Option Nat} :
    entryCap k cap = none ↔ k.isCapped = true ∧ (cap = none ∨ ∃ v, cap = some v ∧ (v < 100 ∨ 18000 < v)) := by
  unfold entryCap
  cases k.isCapped
  · simp
  · cases cap with
    | none => simp
    | some v =>
      rw [if_pos rfl]
      simp [Option.filter, between_eq_false]

theorem entryCap_eq_some {k : ZoneKind} {cap x : Option Nat} (h : entryCap k cap = some x) :
    (k.isCapped = true → x = cap) ∧ (k.isCapped = false → x = none) := by
  unfold entryCap at h
  cases capped : k.isCapped
  · rw [capped] at h
    exact ⟨nofun, fun _ => (Option.some.inj h).symm⟩
  · rw [capped, if_pos rfl] at h
    refine ⟨fun _ => ?_, nofun⟩
    obtain ⟨v, inRange, rfl⟩ := Option.map_eq_some_iff.mp h
    exact (Option.filter_eq_some_iff.mp inRange).1.symm

theorem boundsOk_eq_false {upper lower : Int} :
    boundsOk upper lower = false ↔
      upper < -60000 ∨ 3200000 < upper ∨ lower < -60000 ∨ 3200000 < lower ∨ lower ≤ upper := by
  unfold boundsOk
  rw [Bool.and_eq_false_iff, Bool.and_eq_false_iff, depthInRange_eq_false, depthInRange_eq_false, decide_eq_false_iff_not, not_lt]
  tauto

/-- An entry is read where its kind and its mask are, by the rest of its fields. -/
theorem readZone_of {kind mask : Nat} {k : ZoneKind} {m : PerConveyance Bool} (hk : zoneKindCode kind = some k)
    (hm : maskCode mask = some m) (upper lower : Int) (cap : Option Nat) (label : List Nat) :
    readZone kind mask upper lower cap label =
      (entryCap k cap).bind (fun c =>
        if boundsOk upper lower && maskNonEmpty m && labelOk label && (k != .passing || maskHoldsPair m) then
          some ⟨k, m, upper, lower, c, label⟩
        else none) := by
  unfold readZone
  rw [hk, hm]

theorem readZone_some {kind mask : Nat} {upper lower : Int} {cap : Option Nat} {label : List Nat} {z : Zone}
    (h : readZone kind mask upper lower cap label = some z) :
    zoneKindCode kind = some z.kind ∧ maskCode mask = some z.mask ∧ z.upper = upper ∧ z.lower = lower ∧
      entryCap z.kind cap = some z.cap ∧ z.label = label := by
  cases hk : zoneKindCode kind with
  | none =>
    unfold readZone at h
    rw [hk] at h
    cases h
  | some k =>
    cases hm : maskCode mask with
    | none =>
      unfold readZone at h
      rw [hk, hm] at h
      cases h
    | some m =>
      rw [readZone_of hk hm] at h
      obtain ⟨c, hc, h⟩ := Option.bind_eq_some_iff.mp h
      split at h
      · cases h
        exact ⟨rfl, rfl, rfl, rfl, hc, rfl⟩
      · cases h

/-- An entry is not read where a field is out of range, or the mask of a PASSING zone holds no winder's pair (R39). -/
theorem readZone_eq_none {kind mask : Nat} {upper lower : Int} {cap : Option Nat} {label : List Nat} :
    readZone kind mask upper lower cap label = none ↔
      (5 ≤ kind ∨ 16 ≤ mask ∨ labelOk label = false ∨ upper < -60000 ∨ 3200000 < upper ∨ lower < -60000 ∨ 3200000 < lower ∨
        lower ≤ upper ∨ mask = 0 ∨
        ((kind = 0 ∨ kind = 1) ∧ (cap = none ∨ ∃ v, cap = some v ∧ (v < 100 ∨ 18000 < v)))) ∨
      (kind = 1 ∧ ¬(mask.testBit (Conveyance.ctorIdx .cage) = true ∧ mask.testBit (Conveyance.ctorIdx .counterweight) = true) ∧
        ¬(mask.testBit (Conveyance.ctorIdx .skip0) = true ∧ mask.testBit (Conveyance.ctorIdx .skip1) = true)) := by
  by_cases kindOut : 5 ≤ kind
  · refine iff_of_true ?_ (.inl (.inl kindOut))
    unfold readZone
    rw [zoneKindCode_of_le kindOut]
  by_cases maskOut : 16 ≤ mask
  · refine iff_of_true ?_ (.inl (.inr (.inl maskOut)))
    unfold readZone
    rw [maskCode_of_le maskOut]
    cases zoneKindCode kind <;> rfl
  obtain ⟨k, hk, capped, passing⟩ := zoneKindCode_of_lt (not_le.mp kindOut)
  obtain ⟨m, hm, bits, empty⟩ := maskCode_of_lt (not_le.mp maskOut)
  have pair : maskHoldsPair m = false ↔
      ¬(mask.testBit (Conveyance.ctorIdx .cage) = true ∧ mask.testBit (Conveyance.ctorIdx .counterweight) = true) ∧
        ¬(mask.testBit (Conveyance.ctorIdx .skip0) = true ∧ mask.testBit (Conveyance.ctorIdx .skip1) = true) := by
    rw [← bits, ← bits, ← bits, ← bits, ← not_or, ← Bool.and_eq_true, ← Bool.and_eq_true, ← Bool.or_eq_true, Bool.not_eq_true]
    rfl
  have bind : readZone kind mask upper lower cap label = none ↔
      labelOk label = false ∨ boundsOk upper lower = false ∨ maskNonEmpty m = false ∨ entryCap k cap = none ∨
        (k = .passing ∧ maskHoldsPair m = false) := by
    rw [readZone_of hk hm]
    cases entryCap k cap with
    | none => simp
    | some c => 
      simp only [Option.bind_some, ite_eq_right_iff, reduceCtorEq, imp_false, Bool.not_eq_true, Bool.and_eq_false_iff,
        Bool.or_eq_false_iff, bne_eq_false_iff_eq, false_or, or_assoc]
      rw [← or_assoc (a := boundsOk upper lower = false), or_left_comm, or_assoc]
  rw [bind, entryCap_eq_none, boundsOk_eq_false, capped, passing, empty, pair]
  simp only [kindOut, maskOut, false_or, or_assoc]

/-! ## What an edit of the table leaves of the state -/

/-- A table edited while both winders are PARKED: what it hands on, and that nothing else changes (R38). -/
def State.EditFrame (s t : State) : Prop :=
  t = { s with ports := t.ports, frameErrors := t.frameErrors, snapshot := none, sent := t.sent, zones := t.zones,
               positions := t.positions, caps := ⟨⟨0, none⟩, ⟨0, none⟩⟩, restricted := t.restricted,
               winders := t.winders, drives := t.drives } ∧
  (∀ w, t.restricted.get w = t.restrictedTouch w ∧
    t.winder w =
      { s.winder w with
        recovery := (s.winder w).recovery && t.restrictedTouch w
        slowCap := (t.winder w).slowCap }) ∧
  ((∀ w, (s.winder w).slowCap = none) → t.drives = s.drives ∧ t.sent.length = 1 ∧ ∀ w, (t.winder w).slowCap = none)

/-- The zone set of a conveyance whose set an edit rebuilds where it is masked. -/
def State.EditedSet (s t : State) (c : Conveyance) (masked : Prop) : Prop :=
  (masked → (t.position c).zoneSet = t.touched c) ∧ (¬masked → (t.position c).zoneSet = (s.position c).zoneSet) ∧
  t.position c = { s.position c with zoneSet := (t.position c).zoneSet, suppressed := (t.position c).suppressed }

/-- A console request's edit of the table, answered, keeps its frame. -/
theorem State.editFrame_of {s u : State} {h : Head} {k : Kind} (reset : k ≠ .winderReset) (console : h.link = .console)
    (parked : ∀ w, (s.winder w).state = .parked)
    (edited : u = { s.heard h k with zones := u.zones, positions := u.positions })
    (mask : PerConveyance Bool) (r : Code × Answer) : s.EditFrame (s.answering (u.rebuildForEdit mask) h k r) := by
  have rebuilt := u.rebuildForEdit_rebuilt mask
  have handsOn := rebuilt.handsOn
  have winder (w : Winder) : u.winder w = s.winder w := by
    rw [edited]
    exact s.heard_winder h k w
  have rest (w : Winder) : (u.rebuildForEdit mask).inMotion w = false := by
    unfold State.inMotion
    rw [rebuilt.winder, winder]
    show (s.winder w).state.isMotion = false
    rw [parked]
    rfl
  have noCap (w : Winder) : (u.rebuildForEdit mask).caps.get w = ⟨0, none⟩ :=
    (rebuilt.caps w).trans (State.capOf_of_rest (rest w))
  have sent : u.sent = [] := by rw [edited, State.heard_of_console k console]
  have drives : u.drives = s.drives := by rw [edited, State.heard_of_console k console]
  rw [State.answering_eq _ _ _ reset]
  refine ⟨?_, fun w => ⟨rebuilt.restricted w, ?_⟩, fun quiet => ?_⟩
  · have caps : (u.rebuildForEdit mask).caps = ⟨⟨0, none⟩, ⟨0, none⟩⟩ := PerWinder.ext_get fun w => by
      rw [noCap]
      cases w <;> rfl
    generalize u.rebuildForEdit mask = v at *
    unfold State.HandsOn at handsOn
    rw [edited, State.heard_of_console k console] at handsOn
    rw [handsOn, caps]
  · exact (rebuilt.winder w).trans (by rw [winder]; rfl)
  · obtain ⟨drives', sent', slow⟩ := rebuilt.quiet fun w => by rw [winder]; exact quiet w
    refine ⟨drives'.trans drives, ?_, slow⟩
    rw [sent', sent]
    rfl

theorem State.editedSet_of {s u : State} {h : Head} {k : Kind} {c : Conveyance} (reset : k ≠ .winderReset)
    (record : ∃ l, u.position c = { s.position c with suppressed := l })
    (mask : PerConveyance Bool) (r : Code × Answer) :
    s.EditedSet (s.answering (u.rebuildForEdit mask) h k r) c (mask.get c = true) := by
  obtain ⟨l, record⟩ := record
  have rebuilt := u.rebuildForEdit_rebuilt mask
  rw [State.answering_eq _ _ _ reset]
  have position := rebuilt.position c
  refine ⟨fun masked => ?_, fun unmasked => ?_, ?_⟩
  · rw [if_pos masked] at position
    exact (congrArg Position.zoneSet position).trans (rebuilt.touched c).symm
  · rw [if_neg unmasked] at position
    exact (congrArg Position.zoneSet (position.trans record) :)
  · show (u.rebuildForEdit mask).position c =
      { s.position c with
        zoneSet := ((u.rebuildForEdit mask).position c).zoneSet
        suppressed := ((u.rebuildForEdit mask).position c).suppressed }
    split at position
    · rw [position, record]
      rfl
    · rw [position, record]

/-- The conveyances whose sets placing an entry rebuilds: those of the old mask and the new (R39). -/
def State.editMask (s : State) (n : Nat) (z : Zone) : PerConveyance Bool :=
  match tableGet s.zones n with
  | some old => maskUnion old.mask z.mask
  | none => z.mask

theorem State.editMask_get (s : State) (n : Nat) (z : Zone) (c : Conveyance) :
    (s.editMask n z).get c = true ↔ z.mask.get c = true ∨ ∃ old, tableGet s.zones n = some old ∧ old.mask.get c = true := by
  unfold State.editMask
  cases tableGet s.zones n with
  | none => simp
  | some old =>
    have union : (maskUnion old.mask z.mask).get c = (old.mask.get c || z.mask.get c) := by cases c <;> rfl
    simp [union, or_comm]

theorem State.placeZone_eq (s : State) (n : Nat) (z : Zone) :
    s.placeZone n z = ({ s with zones := tablePut s.zones n z } : State).rebuildForEdit (s.editMask n z) := rfl

theorem State.freeAt_eq {s : State} {n : Nat} {z : Zone} (h : tableGet s.zones n = some z) :
    s.freeAt n = ({ s with zones := tableDrop s.zones n }.unsuppress n).rebuildForEdit z.mask := by
  unfold State.freeAt
  rw [h]
  rfl

theorem State.unsuppress_position (s : State) (n : Nat) (c : Conveyance) :
    (s.unsuppress n).position c =
      { s.position c with suppressed := (s.position c).suppressed.filter (fun m => m != n) } := by
  cases c <;> rfl

theorem State.rebuildForEdit_zones (s : State) (mask : PerConveyance Bool) : (s.rebuildForEdit mask).zones = s.zones := by
  rw [(s.rebuildForEdit_rebuilt mask).handsOn]

/-- A number off every suppression list stays off over a rebuild (R40, R52). -/
theorem State.rebuildForEdit_suppressed {s : State} (mask : PerConveyance Bool) {n : Nat} {c : Conveyance}
    (h : n ∉ (s.position c).suppressed) : n ∉ ((s.rebuildForEdit mask).position c).suppressed := by
  rw [(s.rebuildForEdit_rebuilt mask).position]
  split
  · exact fun member => h (List.mem_filter.mp member).1
  · exact h

theorem State.unsuppress_suppressed (s : State) (n : Nat) (c : Conveyance) : n ∉ ((s.unsuppress n).position c).suppressed := by
  rw [State.unsuppress_position]
  intro member
  simpa using (List.mem_filter.mp member).2

/-! ## The tests (R39, R40) -/

theorem State.zoneKind_work {s : State} {n : Nat} :
    (s.zoneKind n == some .work) = true ↔ ∃ z, tableGet s.zones n = some z ∧ z.kind = .work := by
  rw [beq_iff_eq]
  exact Option.map_eq_some_iff

theorem State.unparked_iff {s : State} : (!s.bothParked) = true ↔ ∃ w, (s.winder w).state ≠ .parked := by
  rw [not_bothParked_iff]
  constructor
  · rintro (h | h)
    · exact ⟨.service, h⟩
    · exact ⟨.rock, h⟩
  · rintro ⟨w, h⟩
    cases w
    · exact .inl h
    · exact .inr h

theorem isFixed_iff {number : Option Nat} : isFixed number = true ↔ ∃ n, number = some n ∧ n < 16 := by
  cases number <;> simp [isFixed]

theorem State.zonePlace_isNone {s : State} {number : Option Nat} :
    (s.zonePlace number).isNone = true ↔ number = none ∧ ∀ n, 16 ≤ n → n < 64 → tableGet s.zones n ≠ none := by
  cases number with
  | some n => simp [State.zonePlace]
  | none =>
    rw [Option.isNone_iff_eq_none]
    refine ⟨fun full => ⟨rfl, fun n low high => lowestFree_none full n low high⟩, fun ⟨_, full⟩ => ?_⟩
    cases e : lowestFreeOrdinary s.zones with
    | none => exact e
    | some n =>
      obtain ⟨low, high, free, -⟩ := lowestFree_some e
      exact absurd free (full n low high)

/-- What WRITE ZONE does once its first five tests pass (R39). -/
def State.writeZoneLast (number : Option Nat) (kind mask : Nat) (upper lower : Int) (cap : Option Nat) (label : List Nat)
    (s : State) : State × (Code × Answer) :=
  match s.zonePlace number, readZone kind mask upper lower cap label with
  | some n, some z => if n < 64 then (s.placeZone n z, doneWith (.zoneNumber n)) else (s, refuse .outOfRange)
  | _, _ => (s, refuse .outOfRange)

theorem State.writeZoneLast_unread {number : Option Nat} {kind mask : Nat} {upper lower : Int} {cap : Option Nat} {label : List Nat}
    {s : State} (h : (∃ n, number = some n ∧ 64 ≤ n) ∨ readZone kind mask upper lower cap label = none) :
    State.writeZoneLast number kind mask upper lower cap label s = (s, refuse .outOfRange) := by
  unfold State.writeZoneLast
  rcases h with ⟨n, rfl, beyond⟩ | unread
  · cases readZone kind mask upper lower cap label with
    | none => rfl
    | some z => exact if_neg (not_lt.mpr beyond)
  · rw [unread]
    cases s.zonePlace number <;> rfl

theorem State.writeZoneLast_placed {number : Option Nat} {kind mask n : Nat} {upper lower : Int} {cap : Option Nat} {label : List Nat}
    {s : State} {z : Zone} (place : s.zonePlace number = some n) (small : n < 64)
    (read : readZone kind mask upper lower cap label = some z) :
    State.writeZoneLast number kind mask upper lower cap label s = (s.placeZone n z, doneWith (.zoneNumber n)) := by
  unfold State.writeZoneLast
  rw [place, read]
  exact if_pos small

/-- The number of a place (R36, R39). -/
theorem State.zonePlace_some {s : State} {number : Option Nat} {n : Nat} (h : s.zonePlace number = some n) :
    number = some n ∨ number = none ∧ 16 ≤ n ∧ n < 64 ∧ tableGet s.zones n = none ∧
      ∀ m, 16 ≤ m → m < n → tableGet s.zones m ≠ none := by
  cases number with
  | some m => exact .inl h
  | none =>
    obtain ⟨low, high, free, least⟩ := lowestFree_some h
    exact .inr ⟨rfl, low, high, free, least⟩

theorem State.parked_of_unfailing {s : State} (h : (!s.bothParked) = false) (w : Winder) : (s.winder w).state = .parked := by
  by_contra unparked
  exact Bool.false_ne_true (h.symm.trans (State.unparked_iff.mpr ⟨w, unparked⟩))

theorem State.heard_bothParked (s : State) (h : Head) (k : Kind) : (s.heard h k).bothParked = s.bothParked := by
  unfold State.bothParked
  rw [State.heard_isIn, State.heard_isIn]

theorem State.heard_zoneKind (s : State) (h : Head) (k : Kind) (n : Nat) : (s.heard h k).zoneKind n = s.zoneKind n := by
  unfold State.zoneKind
  rw [State.heard_zones]

theorem State.heard_zonePlace (s : State) (h : Head) (k : Kind) (n : Option Nat) : (s.heard h k).zonePlace n = s.zonePlace n := by
  unfold State.zonePlace
  rw [State.heard_zones]

/-- WRITE ZONE's tests see the state as the request finds it. -/
theorem State.heard_writeZoneTests (s : State) (h : Head) (k : Kind) (number : Option Nat) (kind : Nat) :
    (s.heard h k).writeZoneTests number kind = s.writeZoneTests number kind := by
  unfold State.writeZoneTests
  simp only [State.heard_commissioning, State.heard_bothParked, State.heard_zoneKind, State.heard_zonePlace]

theorem State.heard_removeZoneTests (s : State) (h : Head) (k : Kind) (n : Nat) :
    (s.heard h k).removeZoneTests n = s.removeZoneTests n := by
  unfold State.removeZoneTests
  simp only [State.heard_commissioning, State.heard_bothParked, State.heard_zoneKind]

theorem State.zoneKind_isNone {s : State} {n : Nat} : (s.zoneKind n).isNone = true ↔ tableGet s.zones n = none := by
  unfold State.zoneKind
  simp

/-- Settles O31: both requests edit the table and rebuild the sets of a mask. -/
theorem zonesAreWrittenAndRemoved : Obligations.ZonesAreWrittenAndRemoved := by
  intro s h unparked isWork
  refine ⟨fun number kind mask upper lower cap label a => ?_, fun n a => ?_⟩
  · intro cmd no masked capped
    have console : h.link = .console := beq_iff_eq.mp (State.listed_of_admits a)
    have fixed : (∃ n, number = some n ∧ n < 16) ∧ s.commissioning = false ↔
        (isFixed number && !s.commissioning) = true := by
      rw [Bool.and_eq_true, isFixed_iff, not_true_iff]
    have work : (∃ n, number = some n ∧ isWork n) ↔ number.any (fun n => s.zoneKind n == some .work) = true := by
      rw [Option.any_eq_true]
      exact exists_congr fun n => and_congr_right fun _ => State.zoneKind_work.symm
    refine TestsInOrder.append (l := [_, _, _, _, _]) (State.inOrder_of_request
      (table := s.writeZoneTests number kind) (act := State.writeZoneLast number kind mask upper lower cap label) rfl a ?_
      (.cons ⟨beq_iff_eq.symm, rfl⟩ (.cons ⟨fixed, rfl⟩ (.cons ⟨State.unparked_iff.symm, rfl⟩ (.cons ⟨work, rfl⟩
        (.cons ⟨State.zonePlace_isNone.symm, rfl⟩ .nil))))) (fun pass answers => ?_))
    · rw [withRead_of, withRead_of, ← s.heard_writeZoneTests h .writeZone]
      rfl
    · have unread (bad : (∃ n, number = some n ∧ 64 ≤ n) ∨ readZone kind mask upper lower cap label = none) : no .outOfRange := by
        rw [State.writeZoneLast_unread bad] at answers
        exact answers
      refine ⟨fun range => unread ?_, fun inRange => ⟨fun pair => unread (.inr (readZone_eq_none.mpr (.inr pair))), fun paired => ?_⟩⟩
      · exact range.imp_right fun fields => readZone_eq_none.mpr (.inl fields)
      · obtain ⟨z, read⟩ : ∃ z, readZone kind mask upper lower cap label = some z := by
          refine Option.ne_none_iff_exists'.mp fun bad => ?_
          exact (readZone_eq_none.mp bad).elim (fun fields => inRange (.inr fields)) paired
        obtain ⟨n, place⟩ : ∃ n, s.zonePlace number = some n := by
          refine Option.ne_none_iff_exists'.mp fun full => ?_
          have passed := firstFailing_eq_none.mp pass ((s.zonePlace number).isNone, .tableFull) (by simp [State.writeZoneTests])
          simp [full] at passed
        have parked := State.parked_of_unfailing
          (firstFailing_eq_none.mp pass (!s.bothParked, .notParked) (by simp [State.writeZoneTests]))
        have where_ := State.zonePlace_some place
        have small : n < 64 := by
          rcases where_ with given | ⟨-, -, small, -⟩
          · exact not_le.mp fun beyond => inRange (.inl ⟨n, given, beyond⟩)
          · exact small
        obtain ⟨kindRead, maskRead, upper_, lower_, capRead, label_⟩ := readZone_some read
        have kindSmall : kind < 5 := not_le.mp fun out => by
          rw [zoneKindCode_of_le out] at kindRead
          cases kindRead
        have maskSmall : mask < 16 := not_le.mp fun out => by
          rw [maskCode_of_le out] at maskRead
          cases maskRead
        obtain ⟨k, hk, takesCap, -⟩ := zoneKindCode_of_lt kindSmall
        obtain ⟨m, hm, bits, -⟩ := maskCode_of_lt maskSmall
        obtain rfl : k = z.kind := Option.some.inj (hk.symm.trans kindRead)
        obtain rfl : m = z.mask := Option.some.inj (hm.symm.trans maskRead)
        obtain ⟨caps, uncapped⟩ := entryCap_eq_some capRead
        refine ⟨n, z, z.kind, where_, kindRead, rfl, bits, upper_, lower_, fun c => caps (takesCap.mpr c),
          fun c => uncapped (Bool.not_eq_true _ ▸ mt takesCap.mp c), label_, ?_⟩
        rw [State.writeZoneLast_placed ((s.heard_zonePlace ..).trans place) small read, State.placeZone_eq] at answers
        have zones : (s.heard h .writeZone).zones = s.zones := s.heard_zones ..
        refine ⟨_, answers, fun x => ?_, fun c => ?_, ?_, State.answering_getLast _ _ _ (by decide) _⟩
        · rw [State.answering_eq _ _ _ (by decide)]
          show tableGet (State.rebuildForEdit _ _).zones x = _
          rw [State.rebuildForEdit_zones, ← zones]
          exact tableGet_tablePut_any _ _ _ _
        · have set := State.editedSet_of (s := s) (h := h) (k := .writeZone)
            (u := { s.heard h .writeZone with zones := tablePut (s.heard h .writeZone).zones n z }) (c := c) (by decide)
            ⟨(s.position c).suppressed, s.heard_position ..⟩ ((s.heard h .writeZone).editMask n z) (doneWith (.zoneNumber n))
          have masked := (s.heard h .writeZone).editMask_get n z c
          rw [zones] at masked
          rw [masked] at set
          exact set
        · exact State.editFrame_of (by decide) console parked rfl _ _
  · intro no
    have console : h.link = .console := beq_iff_eq.mp (State.listed_of_admits a)
    have fixed : n < 16 ∧ s.commissioning = false ↔ (isFixed (some n) && !s.commissioning) = true := by
      rw [Bool.and_eq_true, not_true_iff]
      exact and_congr_left fun _ => decide_eq_true_iff.symm
    refine State.inOrder_of_request
      (table := s.removeZoneTests n) (act := fun t => (t.freeAt n, done)) rfl a ?_
      (.cons ⟨decide_eq_true_iff.symm, rfl⟩ (.cons ⟨fixed, rfl⟩ (.cons ⟨State.unparked_iff.symm, rfl⟩
        (.cons ⟨State.zoneKind_isNone.symm, rfl⟩ (.cons ⟨State.zoneKind_work.symm, rfl⟩ .nil))))) (fun pass answers z held => ?_)
    · rw [← s.heard_removeZoneTests h .removeZone]
    · have parked := State.parked_of_unfailing
        (firstFailing_eq_none.mp pass (!s.bothParked, .notParked) (by simp [State.removeZoneTests]))
      have zones : (s.heard h .removeZone).zones = s.zones := s.heard_zones ..
      dsimp only at answers
      rw [State.freeAt_eq (by rw [zones]; exact held)] at answers
      refine ⟨_, answers, fun x => ?_, fun c => ⟨?_, ?_⟩, ?_, State.answering_getLast _ _ _ (by decide) _⟩
      · rw [State.answering_eq _ _ _ (by decide)]
        show tableGet (State.rebuildForEdit _ _).zones x = _
        rw [State.rebuildForEdit_zones, ← zones]
        exact tableGet_tableDrop _ _ _
      · rw [State.answering_eq _ _ _ (by decide)]
        exact State.rebuildForEdit_suppressed _ (State.unsuppress_suppressed _ n c)
      · have kept : ({ s.heard h .removeZone with zones := tableDrop (s.heard h .removeZone).zones n } : State).position c =
            s.position c := s.heard_position ..
        exact State.editedSet_of (by decide) ⟨_, (State.unsuppress_position _ n c).trans
          (congrArg (fun p : Position => { p with suppressed := p.suppressed.filter (fun m => m != n) }) kept)⟩ _ _
      · exact State.editFrame_of (by decide) console parked rfl _ _

end Sys2Proof.Machine

/-! PROOFS. Work zones (O32): the entry proposed, the paths it may meet, and the edits that are stored at once. -/

namespace Sys2Proof.Machine

/-! ## The end of an event leaves the other winder's queue -/

/-- The queues of the other winders stand. -/
def State.QueuesApart (w : Winder) (s t : State) : Prop := ∀ v, v ≠ w → t.queues.get v = s.queues.get v

section QueuesApart

variable {w : Winder}

theorem State.QueuesApart.refl (s : State) : State.QueuesApart w s s := fun _ _ => rfl

theorem State.QueuesApart.trans {s t u : State} (h : State.QueuesApart w s t) (k : State.QueuesApart w t u) :
    State.QueuesApart w s u :=
  fun v other => (k v other).trans (h v other)

theorem State.QueuesApart.ite {s t u : State} {p : Prop} [Decidable p] (h : State.QueuesApart w s t) (k : State.QueuesApart w s u) :
    State.QueuesApart w s (if p then t else u) := by
  split <;> assumption

theorem State.QueuesApart.of_eq {s t : State} (h : t.queues = s.queues) : State.QueuesApart w s t := fun v _ => by rw [h]

theorem State.withQueue_queuesApart (s : State) (f : List Call → List Call) : State.QueuesApart w s (s.withQueue w f) :=
  fun _ other => s.withQueue_get_ne w f other

theorem State.returnCall_queuesApart (s : State) (c : Call) (st : CallState) : State.QueuesApart w s (s.returnCall w c st) := by
  unfold State.returnCall
  dsimp only
  split
  · exact s.withQueue_queuesApart _
  · next e _ =>
    exact (s.withQueue_queuesApart fun q =>
      { c with state := s.returnedState c.work st, priority := c.priority || e.priority } :: dropCall q e.id).trans (.of_eq rfl)

theorem State.withdrawStaged_queuesApart (s : State) (st : CallState) : State.QueuesApart w s (s.withdrawStaged w st) := by
  unfold State.withdrawStaged
  split
  · exact (State.QueuesApart.of_eq rfl : State.QueuesApart w s (s.withPipe w Pipe.unstage)).trans (State.returnCall_queuesApart _ _ _)
  · exact .of_eq (s.discardStaged_queues w _)

theorem State.endActive_queues (s : State) (v : Winder) (o : TripOutcome) : (s.endActive v o).queues = s.queues := by
  have ended (t : State) (x : Trip) : (t.endRePair x).queues = t.queues := by
    unfold State.endRePair
    split <;> rfl
  unfold State.endActive
  split
  · rfl
  · exact (State.endTripRecord_queues ..).trans (ended _ _)

theorem State.park_queues (s : State) (v : Winder) : (s.park v).queues = s.queues := by
  unfold State.park
  split
  · exact (s.changeState_queues v .parked).1
  · exact (s.changeState_queues v .idle).1

theorem State.failOffer_queues (s : State) (v : Winder) (o : TripOutcome) : (s.failOffer v o).queues = s.queues := by
  unfold State.failOffer
  split
  · exact s.discardStaged_queues v o
  · split
    · rfl
    · exact (State.park_queues _ v).trans (s.endActive_queues v o)

theorem State.offerLeg_queuesApart (s : State) : State.QueuesApart w s (s.offerLeg w) := by
  unfold State.offerLeg
  split
  · exact .refl s
  · split
    · exact .refl s
    · refine .ite (.of_eq rfl) (.ite ?_ (.ite (.of_eq (s.grantCycle_queues _ _)) (.of_eq rfl)))
      exact .ite (s.withdrawStaged_queuesApart _) (.of_eq (s.failOffer_queues w _))

theorem State.planFrom_queuesApart (s : State) (n : Nat) : State.QueuesApart w s (s.planFrom w n) := by
  induction n generalizing s with
  | zero => exact .refl s
  | succ n ih =>
    unfold State.planFrom
    split
    · exact .refl s
    · split
      · exact (s.withQueue_queuesApart _).trans (ih _)
      · exact ((s.withQueue_queuesApart _).trans (.of_eq rfl)).trans (ih _)
      · exact (s.withQueue_queuesApart _).trans (.of_eq rfl)

theorem State.readyStaged_queues (s : State) (v : Winder) : (s.readyStaged v).queues = s.queues := by cases v <;> rfl

theorem State.plan_queuesApart (s : State) : State.QueuesApart w s (s.plan w) :=
  .ite ((s.planFrom_queuesApart _).trans (.of_eq (State.readyStaged_queues _ w))) (.refl s)

theorem State.settleFrom_queuesApart (s : State) (n : Nat) : State.QueuesApart w s (s.settleFrom w n) := by
  induction n generalizing s with
  | zero => exact .refl s
  | succ n ih =>
    have one : State.QueuesApart w s ((s.plan w).tryOffer w) :=
      s.plan_queuesApart.trans (.ite (State.offerLeg_queuesApart _) (.refl _))
    exact .ite (one.trans (ih _)) one

theorem State.settle_queuesApart (s : State) : State.QueuesApart w s (s.settle w) := s.settleFrom_queuesApart _

end QueuesApart

/-- The end of an event leaves the queue of a winder that stages no trip. -/
theorem State.settleBoth_queue_of_quiet (s : State) {w : Winder} (h : (s.winder w).state.stages = false) :
    s.settleBoth.queues.get w = s.queues.get w := by
  unfold State.settleBoth
  cases w with
  | service =>
    rw [(State.settle_queuesApart _ : State.QueuesApart .rock _ _) .service (by decide), s.settle_quiet .service h]
  | rock =>
    have quiet : ((s.settle .service).winder .rock).state.stages = false := by
      unfold State.winder
      rw [(s.settle_still .service).winders]
      exact h
    rw [State.settle_quiet _ .rock quiet]
    exact (s.settle_queuesApart : State.QueuesApart .service _ _) .rock (by decide)

/-! ## The work zone proposed (R41) -/

theorem labelOk_iff {label : List Nat} : labelOk label = true ↔ label.length ≤ 12 ∧ ∀ x ∈ label, 32 ≤ x ∧ x ≤ 126 := by
  simp [labelOk, between]

theorem boundsOk_iff {upper lower : Int} : boundsOk upper lower = true ↔ -60000 ≤ upper ∧ upper < lower ∧ lower ≤ 3200000 := by
  have refused := boundsOk_eq_false (upper := upper) (lower := lower)
  rw [← Bool.not_eq_false, refused]
  omega

theorem maskNonEmpty_of_code {mask : Nat} {m : PerConveyance Bool} (h : maskCode mask = some m) :
    mask < 16 ∧ (∀ c, m.get c = mask.testBit c.ctorIdx) ∧ (maskNonEmpty m = true ↔ 1 ≤ mask) := by
  have small : mask < 16 := not_le.mp fun out => by
    rw [maskCode_of_le out] at h
    cases h
  obtain ⟨x, hx, bits, empty⟩ := maskCode_of_lt small
  obtain rfl : x = m := Option.some.inj (hx.symm.trans h)
  refine ⟨small, bits, ?_⟩
  rw [← Bool.not_eq_false, empty]
  omega

theorem readWorkZone_iff (mask : Nat) (upper lower : Int) (label : List Nat) (z : Zone) :
    readWorkZone mask upper lower label = some z ↔
      z.kind = .work ∧ (∀ c, z.mask.get c = mask.testBit c.ctorIdx) ∧ z.upper = upper ∧ z.lower = lower ∧ z.cap = none ∧
      z.label = label ∧ 1 ≤ mask ∧ mask ≤ 15 ∧ -60000 ≤ upper ∧ upper < lower ∧ lower ≤ 3200000 ∧ label.length ≤ 12 ∧
      ∀ x ∈ label, 32 ≤ x ∧ x ≤ 126 := by
  unfold readWorkZone
  constructor
  · intro h
    obtain ⟨m, hm, h⟩ := Option.bind_eq_some_iff.mp h
    obtain ⟨small, bits, nonEmpty⟩ := maskNonEmpty_of_code hm
    split at h
    · next ok =>
      rw [Bool.and_eq_true, Bool.and_eq_true, boundsOk_iff, nonEmpty, labelOk_iff] at ok
      obtain ⟨⟨⟨top, order, bottom⟩, nonzero⟩, length, characters⟩ := ok
      cases h
      exact ⟨rfl, bits, rfl, rfl, rfl, rfl, nonzero, Nat.lt_succ_iff.mp small, top, order, bottom, length, characters⟩
    · cases h
  · rintro ⟨kind, bits, up, low, cap, name, nonzero, small, top, order, bottom, length, characters⟩
    obtain ⟨m, hm, bits', -⟩ := maskCode_of_lt (Nat.lt_succ_iff.mpr small)
    obtain ⟨-, -, nonEmpty⟩ := maskNonEmpty_of_code hm
    obtain rfl : z.mask = m := PerConveyance.ext_get fun c => (bits c).trans (bits' c).symm
    rw [hm, Option.bind_some, if_pos, ← kind, ← up, ← low, ← cap, ← name]
    rw [Bool.and_eq_true, Bool.and_eq_true, boundsOk_iff, nonEmpty, labelOk_iff]
    exact ⟨⟨⟨top, order, bottom⟩, nonzero⟩, length, characters⟩

theorem lowestFreeOrdinary_iff (t : List (Nat × Zone)) (n : Nat) :
    (lowestFreeOrdinary t = some n ↔
      16 ≤ n ∧ n < 64 ∧ tableGet t n = none ∧ ∀ m, 16 ≤ m → m < n → tableGet t m ≠ none) ∧
    (lowestFreeOrdinary t = none ↔ ∀ m, 16 ≤ m → m < 64 → tableGet t m ≠ none) := by
  have full : lowestFreeOrdinary t = none ↔ ∀ m, 16 ≤ m → m < 64 → tableGet t m ≠ none := by
    refine ⟨fun h m low high => lowestFree_none h m low high, fun h => ?_⟩
    cases e : lowestFreeOrdinary t with
    | none => rfl
    | some k =>
      obtain ⟨low, high, free, -⟩ := lowestFree_some e
      exact absurd free (h k low high)
  refine ⟨⟨fun h => lowestFree_some h, fun ⟨low, high, free, least⟩ => ?_⟩, full⟩
  cases e : lowestFreeOrdinary t with
  | none => exact absurd free (full.mp e n low high)
  | some k =>
    obtain ⟨low', high', free', least'⟩ := lowestFree_some e
    rcases lt_trichotomy k n with less | rfl | more
    · exact absurd free' (least k low' less)
    · rfl
    · exact absurd free (least' n low more)

/-! ## Paths (R45, R46) -/

/-- The least, or the greatest, of a depth and those that follow it is one of them and bounds them all. -/
theorem foldl_extreme {op : Int → Int → Int} {r : Int → Int → Prop} [IsTrans Int r] (choice : ∀ a b, op a b = a ∨ op a b = b)
    (refl : ∀ a, r a a) (left : ∀ a b, r (op a b) a) (right : ∀ a b, r (op a b) b) (origin : Int) (targets : List Int) :
    targets.foldl op origin ∈ origin :: targets ∧ ∀ a ∈ origin :: targets, r (targets.foldl op origin) a := by
  induction targets generalizing origin with
  | nil => simpa using refl origin
  | cons b l ih =>
    obtain ⟨member, bound⟩ := ih (op origin b)
    have kept := bound _ (List.mem_cons_self ..)
    refine ⟨?_, fun a h => ?_⟩
    · rcases List.mem_cons.mp member with e | later
      · rcases choice origin b with c | c
        · exact List.mem_cons.mpr (.inl (e.trans c))
        · exact List.mem_cons_of_mem _ (List.mem_cons.mpr (.inl (e.trans c)))
      · exact List.mem_cons_of_mem _ (List.mem_cons_of_mem _ later)
    · rcases List.mem_cons.mp h with rfl | h
      · exact trans_of r kept (left ..)
      · rcases List.mem_cons.mp h with rfl | h
        · exact trans_of r kept (right ..)
        · exact bound a (List.mem_cons_of_mem _ h)

theorem foldl_min_spec (origin : Int) (targets : List Int) :
    targets.foldl min origin ∈ origin :: targets ∧ ∀ a ∈ origin :: targets, targets.foldl min origin ≤ a :=
  foldl_extreme (r := (· ≤ ·)) min_choice le_refl min_le_left min_le_right origin targets

theorem foldl_max_spec (origin : Int) (targets : List Int) :
    targets.foldl max origin ∈ origin :: targets ∧ ∀ a ∈ origin :: targets, a ≤ targets.foldl max origin :=
  foldl_extreme (r := (· ≥ ·)) max_choice le_refl le_max_left le_max_right origin targets

theorem State.path_conveyance (s : State) (c : Conveyance) (origin : Int) (targets : List Int) :
    (s.path c origin targets).conveyance = c := by
  unfold State.path
  dsimp only
  split <;> rfl

theorem State.path_of_absent {s : State} {c : Conveyance} (h : (s.position c).estimate = none) (origin : Int) (targets : List Int) :
    s.path c origin targets = ⟨c, ⟨-60000, 3200000⟩⟩ := by
  unfold State.path
  dsimp only
  rw [h]

theorem State.path_of_estimate {s : State} {c : Conveyance} (h : (s.position c).estimate ≠ none) (origin : Int) (targets : List Int) :
    s.path c origin targets =
      ⟨c, ⟨targets.foldl min origin - (s.position c).band, targets.foldl max origin + (s.position c).band⟩⟩ := by
  obtain ⟨e, he⟩ := Option.ne_none_iff_exists'.mp h
  unfold State.path
  dsimp only
  rw [he]

theorem State.mem_activePaths (s : State) (t : Trip) (p : Path) :
    p ∈ s.activePaths t ↔ ∃ c, (∃ l ∈ t.legs.drop (t.current - 1), c ∈ l.conveyances) ∧
      p = s.path c ((s.position c).estimate.getD 0) ((t.legs.drop (t.current - 1)).filterMap (fun l => l.target c)) := by
  have origin (c : Conveyance) (l : List Int) : s.path c (s.estimateOrigin c) l = s.path c ((s.position c).estimate.getD 0) l := by
    cases e : (s.position c).estimate with
    | none => rw [State.path_of_absent e, State.path_of_absent e]
    | some a =>
      unfold State.estimateOrigin
      rw [e]
      rfl
  unfold State.activePaths movedBy targetsIn
  simp only [List.mem_map, List.mem_dedup, List.mem_flatMap, origin, eq_comm]

theorem Zone.meetsPath_iff (z : Zone) (p : Path) :
    z.meetsPath p = true ↔ z.mask.get p.conveyance = true ∧ p.interval.lo ≤ z.lower ∧ z.upper ≤ p.interval.hi := by
  unfold Zone.meetsPath Interval.meets
  rw [Bool.and_eq_true, decide_eq_true_iff]
  rfl

/-- The first entry of a table in order that passes a test holds the least number that does. -/
theorem find_map_eq_some_iff {α : Type} {t : List (Nat × α)} (rising : Rising t) (p : Nat × α → Bool) (n : Nat) :
    (t.find? p).map (·.1) = some n ↔ (∃ a, (n, a) ∈ t ∧ p (n, a) = true) ∧ ∀ m, (∃ a, (m, a) ∈ t ∧ p (m, a) = true) → n ≤ m := by
  induction t with
  | nil => simp
  | cons e t ih =>
    obtain ⟨below, rest⟩ := List.pairwise_cons.mp rising
    cases test : p e with
    | true =>
      rw [List.find?_cons_of_pos test, Option.map_some, Option.some.injEq]
      constructor
      · rintro rfl
        refine ⟨⟨e.2, List.mem_cons_self .., test⟩, fun m ⟨a, member, _⟩ => ?_⟩
        rcases List.mem_cons.mp member with same | later
        · exact (congrArg Prod.fst same).ge
        · exact (below _ (List.mem_map_of_mem (f := Prod.fst) later)).le
      · rintro ⟨⟨a, member, _⟩, least⟩
        rcases List.mem_cons.mp member with same | later
        · exact (congrArg Prod.fst same).symm
        · exact absurd (least e.1 ⟨e.2, List.mem_cons_self .., test⟩) (not_le.mpr (below _ (List.mem_map_of_mem (f := Prod.fst) later)))
    | false =>
      have tail (m : Nat) : (∃ a, (m, a) ∈ e :: t ∧ p (m, a) = true) ↔ ∃ a, (m, a) ∈ t ∧ p (m, a) = true := by
        refine exists_congr fun a => and_congr_left fun holds => ?_
        rw [List.mem_cons, or_iff_right]
        rintro rfl
        exact Bool.false_ne_true (test.symm.trans holds)
      rw [List.find?_cons_of_neg (by simp [test]), ih rest]
      simp only [tail]

theorem State.pathCheck_spec {s : State} (ordered : zonesOrdered s.zones = true) (kind : ZoneKind) (paths : List Path)
    (skips : Conveyance → Nat → Bool) (n : Nat) :
    s.pathCheck kind paths skips = some n ↔
      (∃ z, (n, z) ∈ s.zones ∧ z.kind = kind ∧ ∃ p ∈ paths, z.meetsPath p = true ∧ skips p.conveyance n = false) ∧
      ∀ m, (∃ z, (m, z) ∈ s.zones ∧ z.kind = kind ∧ ∃ p ∈ paths, z.meetsPath p = true ∧ skips p.conveyance m = false) → n ≤ m := by
  have met (m : Nat) (z : Zone) : ((z.kind == kind && paths.any (fun p => z.meetsPath p && !skips p.conveyance m)) = true) ↔
      z.kind = kind ∧ ∃ p ∈ paths, z.meetsPath p = true ∧ skips p.conveyance m = false := by
    simp
  unfold State.pathCheck
  rw [find_map_eq_some_iff (rising_of_zonesOrdered ordered)]
  simp only [met]

theorem State.mem_slotPaths {s : State} {w : Winder} {p : Path} :
    p ∈ s.slotPaths w ↔
      ∃ t, ((s.pipe w).active = some t ∧ p ∈ s.activePaths t) ∨ ((s.pipe w).staged = some t ∧ p ∈ s.stagedPaths t.legs) := by
  unfold State.slotPaths
  cases (s.pipe w).active <;> cases (s.pipe w).staged <;> simp [exists_or]

theorem State.zoneOccupied_iff (s : State) (z : Zone) :
    s.zoneOccupied z = true ↔
      (∃ c, z.mask.get c = true ∧ ((s.position c).estimate = none ∨ touches c (s.position c) z = true)) ∨
      (∃ w t p, z.meetsPath p = true ∧
        (((s.pipe w).active = some t ∧ p ∈ s.activePaths t) ∨ ((s.pipe w).staged = some t ∧ p ∈ s.stagedPaths t.legs))) := by
  unfold State.zoneOccupied
  rw [Bool.or_eq_true]
  refine or_congr ?_ ?_
  · rw [List.any_eq_true]
    constructor
    · rintro ⟨c, -, touched⟩
      exact ⟨c, by simpa [State.zoneTouched] using touched⟩
    · rintro ⟨c, touched⟩
      exact ⟨c, by cases c <;> decide, by simpa [State.zoneTouched] using touched⟩
  · simp only [List.any_eq_true, List.mem_append, State.mem_slotPaths]
    constructor
    · rintro ⟨p, ⟨t, slot⟩ | ⟨t, slot⟩, met⟩
      · exact ⟨.service, t, p, met, slot⟩
      · exact ⟨.rock, t, p, met, slot⟩
    · rintro ⟨w, t, p, met, slot⟩
      cases w with
      | service => exact ⟨p, .inl ⟨t, slot⟩, met⟩
      | rock => exact ⟨p, .inr ⟨t, slot⟩, met⟩

theorem State.pathCheck_eq_none {s : State} (kind : ZoneKind) (paths : List Path) (skips : Conveyance → Nat → Bool) :
    s.pathCheck kind paths skips = none ↔
      ∀ n, ¬∃ z, (n, z) ∈ s.zones ∧ z.kind = kind ∧ ∃ p ∈ paths, z.meetsPath p = true ∧ skips p.conveyance n = false := by
  unfold State.pathCheck
  rw [Option.map_eq_none_iff, List.find?_eq_none]
  constructor
  · rintro unmet n ⟨z, member, same, p, path, met, kept⟩
    refine unmet (n, z) member ?_
    rw [Bool.and_eq_true, beq_iff_eq, List.any_eq_true]
    exact ⟨same, p, path, by simp [met, kept]⟩
  · rintro unmet ⟨n, z⟩ member test
    rw [Bool.and_eq_true, beq_iff_eq, List.any_eq_true] at test
    obtain ⟨same, p, path, met⟩ := test
    exact unmet n ⟨z, member, same, p, path, by simpa using met⟩

/-! ## The edits (R41, R43, R44) -/

/-- An edit's zone sets rebuilt, and the caps and the restricted touch handed on. -/
def State.ZoneRebuilt (s u : State) (z : Zone) : Prop :=
  (∀ c, (z.mask.get c = true → (u.position c).zoneSet = u.touched c) ∧
    (z.mask.get c = false → (u.position c).zoneSet = (s.position c).zoneSet) ∧
    u.position c = { s.position c with zoneSet := (u.position c).zoneSet, suppressed := (u.position c).suppressed }) ∧
  ∀ w, u.caps.get w = u.capOf w ∧ u.restricted.get w = u.restrictedTouch w ∧
    u.winder w =
      { s.winder w with
        recovery := (s.winder w).recovery && u.restrictedTouch w
        slowCap := (u.winder w).slowCap }

theorem State.zoneRebuilt_of {s u : State} {z : Zone} (record : ∀ c, ∃ l, u.position c = { s.position c with suppressed := l })
    (winder : ∀ w, u.winder w = s.winder w) : s.ZoneRebuilt (u.rebuildForEdit z.mask) z := by
  have rebuilt := u.rebuildForEdit_rebuilt z.mask
  refine ⟨fun c => ?_, fun w => ⟨rebuilt.caps w, rebuilt.restricted w, ?_⟩⟩
  · obtain ⟨l, kept⟩ := record c
    have position := rebuilt.position c
    refine ⟨fun masked => ?_, fun unmasked => ?_, ?_⟩
    · rw [if_pos masked] at position
      exact (congrArg Position.zoneSet position).trans (rebuilt.touched c).symm
    · rw [if_neg (by simp [unmasked])] at position
      exact (congrArg Position.zoneSet (position.trans kept) :)
    · split at position
      · rw [position, kept]
        rfl
      · rw [position, kept]
  · rw [← winder]
    exact rebuilt.winder w

/-- What follows an edit keeps what it rebuilt, where it changes none of this. -/
theorem State.ZoneRebuilt.of_same {s u v : State} {z : Zone} (h : s.ZoneRebuilt u z) (positions : v.positions = u.positions)
    (zones : v.zones = u.zones) (caps : v.caps = u.caps) (restricted : v.restricted = u.restricted)
    (winders : v.winders = u.winders) (work : v.work = u.work) (pipes : v.pipes = u.pipes) : s.ZoneRebuilt v z := by
  obtain ⟨sets, handed⟩ := h
  have position (c : Conveyance) : v.position c = u.position c := by
    unfold State.position
    rw [positions]
  have winder (w : Winder) : v.winder w = u.winder w := by
    unfold State.winder
    rw [winders]
  refine ⟨fun c => ?_, fun w => ?_⟩
  · rw [position, State.touched_congr zones (position c)]
    exact sets c
  · have pipe : (v.pipe w).active = (u.pipe w).active := by
      unfold State.pipe
      rw [pipes]
    rw [caps, restricted, winder, State.restrictedTouch_congr w positions zones,
      State.capOf_congr positions zones work (by rw [winder]) (by rw [winder]) pipe]
    exact handed w

theorem State.heard_zoneOccupied (s : State) (h : Head) (k : Kind) (z : Zone) :
    (s.heard h k).zoneOccupied z = s.zoneOccupied z := by
  rw [State.heard_eq]
  rfl

theorem State.placeZone_free {s : State} {n : Nat} (free : tableGet s.zones n = none) (z : Zone) :
    s.placeZone n z = ({ s with zones := tablePut s.zones n z } : State).rebuildForEdit z.mask := by
  rw [State.placeZone_eq]
  unfold State.editMask
  rw [free]

/-- The state that REMOVE WORK ZONE leaves before the closing run (R43). -/
def State.workZoneRemoved (s : State) (n : Nat) (z : Zone) : State :=
  (({ s with zones := tableDrop s.zones n }.unsuppress n).rebuildForEdit z.mask).releaseHeldWork.startRecordWrite

theorem State.rebuildForEdit_frame {s u : State} (edited : u = { s with zones := u.zones, positions := u.positions })
    (mask : PerConveyance Bool) :
    let v := u.rebuildForEdit mask
    v = { s with zones := v.zones, positions := v.positions, caps := v.caps, restricted := v.restricted, winders := v.winders,
                 drives := v.drives, sent := v.sent } := by
  intro v
  have handed : u.HandsOn v := (u.rebuildForEdit_rebuilt mask).handsOn
  clear_value v
  unfold State.HandsOn at handed
  rw [edited] at handed
  rw [handed]

theorem State.heard_removeWorkTests (s : State) (h : Head) (k : Kind) (n : Nat) :
    (s.heard h k).removeWorkTests n = s.removeWorkTests n := by
  unfold State.removeWorkTests
  simp only [State.heard_zoneKind]

theorem State.zoneKind_of {s : State} {n : Nat} {z : Zone} (h : tableGet s.zones n = some z) : s.zoneKind n = some z.kind := by
  unfold State.zoneKind
  rw [h]
  rfl

/-- ADD WORK ZONE taken or refused, by its fields and the table (R41). -/
theorem State.addWorkZone_answers {s : State} {h : Head} {mask : Nat} {upper lower : Int} {label : List Nat}
    (a : s.admits h .addWorkZone (9 + listSize label) none) :
    (readWorkZone mask upper lower label = none →
      s.Reads (.addWorkZone h mask upper lower label) h .addWorkZone (.refused .outOfRange, .nothing)) ∧
    (∀ z, readWorkZone mask upper lower label = some z →
      (lowestFreeOrdinary s.zones = none →
        s.Reads (.addWorkZone h mask upper lower label) h .addWorkZone (.refused .tableFull, .nothing)) ∧
      ∀ n, lowestFreeOrdinary s.zones = some n →
        (s.zoneOccupied z = true →
          s.Reads (.addWorkZone h mask upper lower label) h .addWorkZone (.refused .zoneOccupied, .nothing)) ∧
        (s.zoneOccupied z = false →
          s.Answers (.addWorkZone h mask upper lower label) h .addWorkZone
            ((s.heard h .addWorkZone).placeZone n z).startRecordWrite (.done, .zoneNumber n))) := by
  have zones : (s.heard h .addWorkZone).zones = s.zones := s.heard_zones ..
  have occupied (z : Zone) := s.heard_zoneOccupied h .addWorkZone z
  refine ⟨fun unread => State.answers_of_request rfl a ?_, fun z read => ⟨fun full => State.answers_of_request rfl a ?_,
    fun n place => ⟨fun met => State.answers_of_request rfl a ?_, fun clear => State.answers_of_request rfl a ?_⟩⟩⟩
  · unfold takeAddWorkZone
    rw [unread]
    rfl
  · unfold takeAddWorkZone
    rw [read, zones, full]
    rfl
  · unfold takeAddWorkZone
    rw [read, zones, place]
    exact if_pos ((occupied z).trans met)
  · unfold takeAddWorkZone
    rw [read, zones, place]
    exact if_neg (by simp [occupied z, clear])

/-- REMOVE WORK ZONE taken (R43). -/
theorem State.removeWorkZone_answers {s : State} {h : Head} {n : Nat} {z : Zone} (a : s.admits h .removeWorkZone 1 none)
    (small : n < 64) (held : tableGet s.zones n = some z) (work : z.kind = .work) :
    s.Answers (.removeWorkZone h n) h .removeWorkZone ((s.heard h .removeWorkZone).workZoneRemoved n z).settleBoth
      (.done, .nothing) := by
  have pass : firstFailing ((s.heard h .removeWorkZone).removeWorkTests n) = none := by
    rw [State.heard_removeWorkTests]
    unfold State.removeWorkTests
    rw [State.zoneKind_of held, work]
    simp [firstFailing, small]
  refine State.answers_of_tested (act := fun s => ((s.freeAt n).releaseHeldWork.startRecordWrite.settleBoth, done))
    rfl a rfl pass ?_
  rw [State.freeAt_eq ((congrArg (fun t => tableGet t n) (s.heard_zones ..)).trans held)]
  rfl

theorem State.removeWorkZone_refused {s : State} {h : Head} {n : Nat} {r : Reason} (a : s.admits h .removeWorkZone 1 none)
    (fails : firstFailing (s.removeWorkTests n) = some r) :
    s.Reads (.removeWorkZone h n) h .removeWorkZone (.refused r, .nothing) :=
  State.refused_of_tested rfl a rfl ((congrArg firstFailing (s.heard_removeWorkTests ..)).trans fails)

/-- The state REMOVE WORK ZONE leaves before the closing run, by its parts (R43, R44). -/
theorem State.workZoneRemoved_spec (s : State) (n : Nat) (z : Zone) :
    let u := s.workZoneRemoved n z
    (∀ m, tableGet u.zones m = if m = n then none else tableGet s.zones m) ∧
      (∀ c, n ∉ (u.position c).suppressed) ∧ s.ZoneRebuilt u z ∧
      (∀ w, u.queues.get w =
        (s.queues.get w).map (fun c => if c.state = .heldWork then { c with state := .waiting } else c)) ∧
      u.recordWrite = some ⟨⟨s.bars, workEntries u.zones, true⟩, s.now + 10#32⟩ ∧
      u = { s with
            sent := u.sent, zones := u.zones, positions := u.positions, caps := u.caps, restricted := u.restricted
            winders := u.winders, drives := u.drives, queues := u.queues, recordWrite := u.recordWrite } := by
  intro u
  obtain ⟨x, hx⟩ : ∃ x, x = { s with zones := tableDrop s.zones n }.unsuppress n := ⟨_, rfl⟩
  obtain ⟨v, hv⟩ : ∃ v, v = x.rebuildForEdit z.mask := ⟨_, rfl⟩
  have final : u = v.releaseHeldWork.startRecordWrite := by
    rw [hv, hx]
    rfl
  have edited : x = { s with zones := x.zones, positions := x.positions } := by
    rw [hx]
    rfl
  have record (c : Conveyance) : x.position c =
      { s.position c with suppressed := (s.position c).suppressed.filter (fun m => m != n) } := by
    rw [hx]
    exact State.unsuppress_position _ n c
  have rebuilt : s.ZoneRebuilt v z := by
    rw [hv]
    exact State.zoneRebuilt_of (fun c => ⟨_, record c⟩) fun w => by
      rw [edited]
      rfl
  have frame := State.rebuildForEdit_frame edited z.mask
  rw [← hv] at frame
  have zones : v.zones = tableDrop s.zones n := by
    rw [hv, State.rebuildForEdit_zones, hx]
    rfl
  have queues : v.queues = s.queues := by rw [frame]
  have bars : v.bars = s.bars := by rw [frame]
  have now : v.now = s.now := by rw [frame]
  have suppressed (c : Conveyance) : n ∉ (v.position c).suppressed := by
    rw [hv, hx]
    exact State.rebuildForEdit_suppressed _ (State.unsuppress_suppressed _ n c)
  rw [final]
  refine ⟨fun m => ?_, suppressed, rebuilt.of_same rfl rfl rfl rfl rfl rfl rfl, fun w => ?_, ?_, ?_⟩
  · show tableGet v.zones m = _
    rw [zones]
    exact tableGet_tableDrop _ _ _
  · rw [← queues]
    cases w <;> rfl
  · rw [← bars, ← now]
    rfl
  · rw [frame]
    rfl

/-- Settles O32. -/
theorem workZonesAreAddedAndRemoved : Obligations.WorkZonesAreAddedAndRemoved := by
  refine ⟨fun s h => ⟨fun mask upper lower label z n read place a => ?_, fun n z small held a => ⟨fun other => ?_, fun work => ?_⟩,
      fun n small free a => ?_, fun n beyond a => ?_, fun mask upper lower label a => ?_⟩,
    readWorkZone_iff, lowestFreeOrdinary_iff, State.zoneOccupied_iff, fun s c origin targets => ?_, State.mem_activePaths,
    Zone.meetsPath_iff, fun s kind paths skips ordered => ?_⟩
  · obtain ⟨-, taken⟩ := State.addWorkZone_answers (mask := mask) (upper := upper) (lower := lower) a
    obtain ⟨-, taken⟩ := taken z read
    obtain ⟨occupied, clear⟩ := taken n place
    obtain ⟨low, high, free, -⟩ := lowestFree_some place
    refine ⟨occupied, fun unmet => (clear unmet).completes (by decide) ?_⟩
    have zones : (s.heard h .addWorkZone).zones = s.zones := s.heard_zones ..
    rw [State.placeZone_free (by rw [zones]; exact free)]
    obtain ⟨x, hx⟩ : ∃ x : State, x = { s.heard h .addWorkZone with zones := tablePut (s.heard h .addWorkZone).zones n z } := ⟨_, rfl⟩
    rw [← hx]
    have edited : x = { s.heard h .addWorkZone with zones := x.zones, positions := x.positions } := by
      rw [hx]
    have rebuilt : (s.heard h .addWorkZone).ZoneRebuilt (x.rebuildForEdit z.mask) z :=
      State.zoneRebuilt_of (fun c => ⟨((s.heard h .addWorkZone).position c).suppressed, by rw [hx]; rfl⟩) fun w => by
        rw [edited]
        rfl
    have frame := State.rebuildForEdit_frame edited z.mask
    have put : (x.rebuildForEdit z.mask).zones = tablePut s.zones n z := by
      rw [State.rebuildForEdit_zones, hx, zones]
    have bars : (x.rebuildForEdit z.mask).bars = s.bars := by
      rw [frame]
      exact s.heard_bars ..
    have now : (x.rebuildForEdit z.mask).now = s.now := by
      rw [frame]
      exact s.heard_now ..
    generalize x.rebuildForEdit z.mask = v at *
    refine ⟨low, high, free, fun m => ?_, ?_, rebuilt.of_same rfl rfl rfl rfl rfl rfl rfl, ?_, ?_⟩
    · show tableGet v.zones m = _
      rw [put]
      exact tableGet_tablePut_any _ _ _ _
    · rw [← bars, ← now]
      rfl
    · rw [frame]
      rfl
    · exact List.getLast?_concat
  · refine State.removeWorkZone_refused a ?_
    unfold State.removeWorkTests
    rw [State.zoneKind_of held]
    simp [firstFailing, small, other]
  · have answers := State.removeWorkZone_answers a small held work
    obtain ⟨zones, suppressed, rebuilt, queues, write, frame⟩ := (s.heard h .removeWorkZone).workZoneRemoved_spec n z
    generalize (s.heard h .removeWorkZone).workZoneRemoved n z = u at *
    have kept := u.settleBoth_keeps
    have still := (u.settle_still .service).trans (State.settle_still _ .rock)
    rw [State.heard_zones] at zones
    rw [State.heard_queues] at queues
    rw [State.heard_bars, State.heard_now] at write
    refine ⟨⟨u, answers, zones, suppressed, rebuilt, queues, write, frame⟩, answers.completes (by decide) ⟨fun m => ?_, ?_, ?_,
      fun c => ?_, fun w parked => ?_, List.getLast?_concat⟩⟩
    · rw [← zones m]
      exact congrArg (fun t => tableGet t m) kept.zones
    · show u.settleBoth.recordWrite = some ⟨⟨s.bars, workEntries u.settleBoth.zones, true⟩, s.now + 10#32⟩
      rw [kept.recordWrite, kept.zones]
      exact write
    · have bars : u.bars = s.bars := by
        rw [frame]
        exact s.heard_bars ..
      exact kept.bars.trans bars
    · have position : u.settleBoth.position c = u.position c := by
        unfold State.position
        exact congrArg (fun p => p.get c) still.positions
      show n ∉ (u.settleBoth.position c).suppressed
      rw [position]
      exact suppressed c
    · have quiet : (u.winder w).state.stages = false := by
        obtain ⟨-, -, winder⟩ := rebuilt.2 w
        rw [winder]
        show ((s.heard h .removeWorkZone).winder w).state.stages = false
        rw [State.heard_winder, State.isIn_iff.mp parked]
        rfl
      exact (u.settleBoth_queue_of_quiet quiet).trans (queues w)
  · refine State.removeWorkZone_refused a ?_
    unfold State.removeWorkTests State.zoneKind
    simp [firstFailing, small, free]
  · refine State.removeWorkZone_refused a ?_
    unfold State.removeWorkTests
    simp [firstFailing, beyond]
  · obtain ⟨unread, taken⟩ := State.addWorkZone_answers (mask := mask) (upper := upper) (lower := lower) a
    exact ⟨unread, fun z read full => (taken z read).1 full⟩
  · intro p band
    refine ⟨s.path_conveyance c origin targets, fun absent => congrArg Path.interval (State.path_of_absent absent origin targets),
      fun estimate => ?_⟩
    obtain ⟨least, low⟩ := foldl_min_spec origin targets
    obtain ⟨greatest, high⟩ := foldl_max_spec origin targets
    have path : p = _ := State.path_of_estimate estimate origin targets
    rw [path]
    exact ⟨⟨_, least, rfl⟩, ⟨_, greatest, rfl⟩, fun a member =>
      ⟨Int.sub_le_sub_right (low a member) _, Int.add_le_add_right (high a member) _⟩⟩
  · exact ⟨State.pathCheck_eq_none kind paths skips, State.pathCheck_spec ordered kind paths skips⟩

end Sys2Proof.Machine

/-! PROOFS. Entry faults, suppression and the restricted touch (O33). -/

namespace Sys2Proof.Machine

theorem ZoneKind.isRestricted_iff {k : ZoneKind} : k.isRestricted = true ↔ k = .overwind ∨ k = .work ∨ k = .inspect := by
  cases k <;> decide

/-! ## Entry faults (R50, R51) -/

theorem entryFault_eq_some {kind : ZoneKind} {moving inspection : Bool} {k : FaultKind} :
    entryFault kind moving inspection = some k ↔
      (kind = .overwind ∧ k = .overwind) ∨ (kind = .work ∧ moving = true ∧ k = .workZoneEntry) ∨
        (kind = .inspect ∧ inspection = false ∧ k = .inspectZoneEntry) := by
  cases kind <;> cases moving <;> cases inspection <;> simp [entryFault, eq_comm]

/-- The fault of a rebuild for one zone of the table, where there is one (R50, R51). -/
def State.zoneFault (s : State) (w : Winder) (c : Conveyance) (before : Position) (moves : Bool) (e : Nat × Zone) : Option FaultReport :=
  if (s.position c).zoneSet.contains e.1 && !(s.position c).suppressed.contains e.1 && (!before.zoneSet.contains e.1 || moves) then
    (entryFault e.2.kind (!(s.position c).rest) ((s.winder w).mode == .inspection)).map
      (fun k => ⟨k, .trip, w, some c, none, some e.1, none⟩)
  else none

theorem State.entryFaults_eq (s : State) (w : Winder) (c : Conveyance) (before : Position) (moves : Bool) :
    s.entryFaults w c before moves =
      if (s.position c).state == .lost || before.estimate.isNone then [] else s.zones.filterMap (s.zoneFault w c before moves) := rfl

theorem State.zoneFault_eq_some {s : State} {w : Winder} {c : Conveyance} {before : Position} {moves : Bool} {e : Nat × Zone}
    {f : FaultReport} :
    s.zoneFault w c before moves e = some f ↔
      e.1 ∈ (s.position c).zoneSet ∧ e.1 ∉ (s.position c).suppressed ∧ (e.1 ∉ before.zoneSet ∨ moves = true) ∧
        ∃ k, ((e.2.kind = .overwind ∧ k = .overwind) ∨ (e.2.kind = .work ∧ (s.position c).rest = false ∧ k = .workZoneEntry) ∨
            (e.2.kind = .inspect ∧ (s.winder w).mode ≠ .inspection ∧ k = .inspectZoneEntry)) ∧
          f = ⟨k, .trip, w, some c, none, some e.1, none⟩ := by
  have kinds (k : FaultKind) : entryFault e.2.kind (!(s.position c).rest) ((s.winder w).mode == .inspection) = some k ↔
      (e.2.kind = .overwind ∧ k = .overwind) ∨ (e.2.kind = .work ∧ (s.position c).rest = false ∧ k = .workZoneEntry) ∨
        (e.2.kind = .inspect ∧ (s.winder w).mode ≠ .inspection ∧ k = .inspectZoneEntry) := by
    rw [entryFault_eq_some, not_true_iff, beq_eq_false_iff_ne]
  unfold State.zoneFault
  rw [Option.ite_none_right_eq_some, Option.map_eq_some_iff]
  simp only [kinds, Bool.and_eq_true, Bool.or_eq_true, not_true_iff, List.contains_iff_mem, and_assoc,
    ← Bool.not_eq_true (List.contains _ _), eq_comm (b := f)]

theorem State.mem_entryFaults {s : State} {w : Winder} {c : Conveyance} {before : Position} {moves : Bool} {f : FaultReport} :
    f ∈ s.entryFaults w c before moves ↔
      (s.position c).state ≠ .lost ∧ before.estimate ≠ none ∧ ∃ e ∈ s.zones, s.zoneFault w c before moves e = some f := by
  rw [State.entryFaults_eq]
  split
  · next h =>
    rw [Bool.or_eq_true, beq_iff_eq, Option.isNone_iff_eq_none] at h
    exact iff_of_false (List.not_mem_nil) fun ⟨found, estimate, _⟩ => h.elim found estimate
  · next h =>
    rw [Bool.or_eq_true, beq_iff_eq, Option.isNone_iff_eq_none, not_or] at h
    rw [List.mem_filterMap]
    exact ⟨fun member => ⟨h.1, h.2, member⟩, fun member => member.2.2⟩

theorem filterMap_sublist_map {α β : Type} {g : α → Option β} {f : α → β} (h : ∀ a b, g a = some b → b = f a) (l : List α) :
    (l.filterMap g).Sublist (l.map f) := by
  induction l with
  | nil => exact .slnil
  | cons a l ih =>
    cases e : g a with
    | none =>
      rw [List.filterMap_cons_none e]
      exact ih.cons _
    | some b =>
      rw [List.filterMap_cons_some e, h a b e]
      exact ih.cons_cons _

/-- The faults of a rebuild stand in ascending zone number (R50). -/
theorem State.entryFaults_ascending {s : State} (ordered : zonesOrdered s.zones = true) (w : Winder) (c : Conveyance)
    (before : Position) (moves : Bool) : ((s.entryFaults w c before moves).filterMap (·.zone)).Pairwise (· < ·) := by
  rw [State.entryFaults_eq]
  split
  · exact .nil
  · rw [List.filterMap_filterMap]
    refine (rising_of_zonesOrdered ordered).sublist (filterMap_sublist_map (fun e n fault => ?_) _)
    obtain ⟨f, zoned, number⟩ := Option.bind_eq_some_iff.mp fault
    obtain ⟨-, -, -, k, -, rfl⟩ := State.zoneFault_eq_some.mp zoned
    exact (Option.some.inj number).symm

theorem begins_eq (before after : Position) : begins before after = decide (before.rest = true ∧ after.rest = false) := by
  unfold begins
  cases before.rest <;> cases after.rest <;> rfl

theorem State.rebuildSet_rest (s : State) (c d : Conveyance) : ((s.rebuildSet c).position d).rest = (s.position d).rest := by
  by_cases same : d = c
  · subst same
    rw [State.rebuildSet_self]
    rfl
  · rw [State.rebuildSet_ne _ same]

/-! ## Suppression (R52) -/

/-- The numbers that a recovery leg suppresses for a conveyance, ascending as the table is (R52). -/
def State.suppression (s : State) (c : Conveyance) : List Nat :=
  (s.zones.filter (fun e => (s.position c).suppressed.contains e.1 ||
    ((s.position c).zoneSet.contains e.1 && e.2.kind.isRestricted))).map (·.1)

theorem State.suppress_self (s : State) (c : Conveyance) :
    (s.suppress c).position c = { s.position c with suppressed := s.suppression c } := s.withPosition_position_self c _

theorem State.suppress_ne (s : State) {c d : Conveyance} (h : d ≠ c) : (s.suppress c).position d = s.position d :=
  s.withPosition_position_ne _ _ h

theorem State.suppressWinder_of_mem (s : State) {w : Winder} {c : Conveyance} (h : c ∈ conveyancesOf w) :
    (s.suppressWinder w).position c = { s.position c with suppressed := s.suppression c } := by
  unfold State.suppressWinder
  rcases mem_conveyancesOf_cases h with ⟨rfl, other⟩ | ⟨rfl, other⟩
  · rw [State.suppress_ne _ other, State.suppress_self]
  · rw [State.suppress_self, State.suppress_ne _ other]
    unfold State.suppression
    rw [State.suppress_ne _ other]
    rfl

theorem State.suppressWinder_of_not_mem (s : State) {w : Winder} {c : Conveyance} (h : ownerOf c ≠ w) :
    (s.suppressWinder w).position c = s.position c := by
  have others : c ≠ firstConveyance w ∧ c ≠ secondConveyance w := by
    constructor <;> rintro rfl <;> exact h (by cases w <;> rfl)
  unfold State.suppressWinder
  rw [State.suppress_ne _ others.2, State.suppress_ne _ others.1]

theorem State.mem_suppression {s : State} {c : Conveyance} {n : Nat} :
    n ∈ s.suppression c ↔ ∃ z, (n, z) ∈ s.zones ∧
      (n ∈ (s.position c).suppressed ∨ (n ∈ (s.position c).zoneSet ∧ (z.kind = .overwind ∨ z.kind = .work ∨ z.kind = .inspect))) := by
  unfold State.suppression
  simp [ZoneKind.isRestricted_iff]

theorem State.acceptOffer_of {s : State} {w : Winder} {t : Trip} {accepted : State}
    (e : accepted = { s with pipes := s.pipes.set w (s.pipe w).accept }) (active : (accepted.pipe w).active = some t) :
    s.acceptOffer w =
      (((if t.recovery then accepted.suppressWinder w else accepted).changeState w .running).handAndCompare w) := by
  have same : s.withPipe w Pipe.accept = accepted := by
    rw [e]
    rfl
  unfold State.acceptOffer State.suppressRecovery
  rw [same, active]
  rfl

/-! ## The restricted touch (R53, R109, R110) -/

theorem State.isRestrictedZone_iff {s : State} {n : Nat} :
    s.isRestrictedZone n = true ↔
      ∃ z, tableGet s.zones n = some z ∧ (z.kind = .overwind ∨ z.kind = .work ∨ z.kind = .inspect) := by
  unfold State.isRestrictedZone State.zoneKind
  cases tableGet s.zones n <;> simp [ZoneKind.isRestricted_iff]

theorem State.handTouch_eq (s : State) (w : Winder) :
    s.handTouch w =
      { s with
        restricted := s.restricted.set w (s.restrictedTouch w)
        winders := s.winders.set w
          { s.winder w with recovery := (s.winder w).recovery && s.restrictedTouch w } } := by
  unfold State.handTouch
  dsimp only
  cases touch : s.restrictedTouch w
  · rw [if_neg Bool.false_ne_true, Bool.and_false]
    rfl
  · rw [if_pos rfl, Bool.and_true]
    exact congrArg (fun x => { s with restricted := s.restricted.set w true, winders := x }) (s.winders.set_get w).symm

/-- Settles O33. -/
theorem entryFaultsAreThoseOfTheZonesJoined : Obligations.EntryFaultsAreThoseOfTheZonesJoined := by
  refine ⟨fun s w c before moves f => ?_, fun s w c before moves ordered => s.entryFaults_ascending ordered w c before moves,
    fun s before w => ?_, fun s w => ⟨fun c member => ?_, fun c other => s.suppressWinder_of_not_mem other, rfl, fun t active => ?_⟩,
    fun s c => ?_, fun s w => ⟨?_, s.handTouch_eq w⟩, fun s c target => ?_⟩
  · rw [State.mem_entryFaults]
    simp only [State.zoneFault_eq_some, Prod.exists]
    refine and_congr_right fun _ => and_congr_right fun _ => ⟨?_, ?_⟩
    · rintro ⟨n, z, member, set, unsuppressed, joins, k, kind, fault⟩
      exact ⟨n, z, k, member, set, unsuppressed, joins, kind, fault⟩
    · rintro ⟨n, z, k, member, set, unsuppressed, joins, kind, fault⟩
      exact ⟨n, z, member, set, unsuppressed, joins, k, kind, fault⟩
  · intro a b t moves
    have moving (c : Conveyance) : begins (before.position c) (t.position c) = moves c := by
      rw [begins_eq, State.rebuildSet_rest, State.rebuildSet_rest]
    show t.deliverAll _ = _
    rw [moving, moving]
    rfl
  · have record := s.suppressWinder_of_mem member
    refine ⟨fun n => ?_, ?_⟩
    · rw [record]
      exact State.mem_suppression
    · rw [record]
  · have accepted := State.acceptOffer_of rfl active
    exact ⟨fun recovery => by rw [accepted, if_pos recovery], fun recovery => by rw [accepted, if_neg (by simp [recovery])]⟩
  · intro p
    have record : p = (s.position c).withSet (s.touched c) := s.rebuildSet_self c
    rw [record]
    exact ⟨fun n => by simp [Position.withSet], rfl⟩
  · unfold State.restrictedTouch
    simp only [List.any_eq_true, State.isRestrictedZone_iff]
  · have within (z : Zone) : (Interval.mk target target).meets z.interval = true ↔ z.upper ≤ target ∧ target ≤ z.lower := by
      unfold Interval.meets
      rw [decide_eq_true_iff]
      exact and_comm
    unfold State.targetRestricted
    simp [ZoneKind.isRestricted_iff, within, and_assoc]

end Sys2Proof.Machine

/-! PROOFS. Calls merged and admitted (O34). -/

namespace Sys2Proof.Machine

/-! ## Coded fields (R167, R174) -/

theorem cageClassCode_of_le {n : Nat} (h : 2 ≤ n) : cageClassCode n = none := by
  obtain ⟨k, rfl⟩ := Nat.exists_eq_add_of_le' h
  rfl

theorem deckCode_of_le {n : Nat} (h : 3 ≤ n) : deckCode n = none := by
  obtain ⟨k, rfl⟩ := Nat.exists_eq_add_of_le' h
  rfl

theorem flagCode_of_le {n : Nat} (h : 2 ≤ n) : flagCode n = none := by
  obtain ⟨k, rfl⟩ := Nat.exists_eq_add_of_le' h
  rfl

/-- A list with an item that no code names is not read. -/
theorem codes_of_mem {α : Type} {f : Nat → Option α} {l : List Nat} {n : Nat} (h : n ∈ l) (unnamed : f n = none) :
    codes f l = none := by
  induction l with
  | nil => cases h
  | cons m l ih =>
    unfold codes
    rcases List.mem_cons.mp h with rfl | later
    · rw [unnamed]
    · rw [ih later]
      cases f m <;> rfl

theorem deckCountOk_eq_false {l : Link} {decks : List Nat} :
    deckCountOk l decks = false ↔
      (l = .signal ∧ decks.length ≠ 1) ∨ (l ≠ .signal ∧ (decks.length < 1 ∨ 3 < decks.length)) := by
  unfold deckCountOk
  by_cases signal : l = .signal
  · rw [if_pos signal, beq_eq_false_iff_ne]
    simp [signal]
  · rw [if_neg signal, between_eq_false]
    simp [signal]

theorem countsInRange_eq_false {riders : Option (List Nat)} {payload : Option Nat} :
    countsInRange riders payload = false ↔
      (∃ l, riders = some l ∧ ∃ x ∈ l, 255 < x) ∨ (∃ m, payload = some m ∧ 65535 < m) := by
  unfold countsInRange
  rw [Bool.and_eq_false_iff]
  cases riders <;> cases payload <;> simp [between_eq_false]

/-! ## The tests of a cage call (R58) -/

/-- The tests of R58 as a table. -/
def State.cageCallTable (s : State) (st : Fin 16) (cls : Class) (decks : List Deck) (riders : Option (List Nat))
    (payload : Option Nat) : List (Bool × Reason) :=
  [(!countsOk cls decks riders payload, .outOfRange), (!decide decks.Nodup, .deckRepeated),
   (!(s.stationAt st).inService, .notInService), (!decks.all (s.stationAt st).decks.has, .deckNotServed)]

theorem State.cageCallTests_eq (s : State) (st : Fin 16) (cls : Class) (decks : List Deck) (riders : Option (List Nat))
    (payload : Option Nat) :
    s.cageCallTests st cls decks riders payload = firstFailing (s.cageCallTable st cls decks riders payload) := rfl

theorem countsOk_eq_false {c : Class} {decks : List Deck} {riders : Option (List Nat)} {payload : Option Nat}
    (cage : c = .men ∨ c = .material) :
    countsOk c decks riders payload = false ↔
      (c = .material ∧ riders ≠ none) ∨ (c = .men ∧ payload ≠ none) ∨ (∃ l, riders = some l ∧ l.length ≠ decks.length) := by
  rcases cage with rfl | rfl
  · cases riders <;> cases payload <;> simp [countsOk]
  · cases riders <;> simp [countsOk]

theorem State.cageCallTests_inOrder (s : State) (st : Fin 16) {c : Class} (ds : List Deck) (riders : Option (List Nat))
    (payload : Option Nat) (cage : c = .men ∨ c = .material) :
    TestsInOrder (fun r => s.cageCallTests st c ds riders payload = some r)
      [((c = .material ∧ riders ≠ none) ∨ (c = .men ∧ payload ≠ none) ∨ (∃ l, riders = some l ∧ l.length ≠ ds.length),
        .outOfRange),
       (¬ds.Nodup, .deckRepeated),
       ((s.work.stations[st]).inService = false, .notInService),
       ((∃ d ∈ ds, (s.work.stations[st]).decks.has d = false), .deckNotServed)]
      (s.cageCallTests st c ds riders payload = none) := by
  have counts : (!countsOk c ds riders payload) = true ↔
      (c = .material ∧ riders ≠ none) ∨ (c = .men ∧ payload ≠ none) ∨ (∃ l, riders = some l ∧ l.length ≠ ds.length) := by
    rw [not_true_iff, countsOk_eq_false cage]
  have repeated : (!decide ds.Nodup) = true ↔ ¬ds.Nodup := by simp
  have served : (!ds.all (s.stationAt st).decks.has) = true ↔ ∃ d ∈ ds, (s.work.stations[st]).decks.has d = false := by
    rw [not_true_iff, List.all_eq_false]
    simp only [Bool.not_eq_true]
    rfl
  exact TestsInOrder.of_table (table := s.cageCallTable st c ds riders payload)
    (.cons ⟨counts.symm, rfl⟩ (.cons ⟨repeated.symm, rfl⟩ (.cons ⟨not_true_iff.symm, rfl⟩ (.cons ⟨served.symm, rfl⟩ .nil))))
    (fun r fails => fails) (fun pass => pass)

theorem State.heard_cageCallTests (s : State) (h : Head) (k : Kind) (st : Fin 16) (c : Class) (ds : List Deck)
    (riders : Option (List Nat)) (payload : Option Nat) :
    (s.heard h k).cageCallTests st c ds riders payload = s.cageCallTests st c ds riders payload := by
  unfold State.cageCallTests State.stationAt
  rw [State.heard_work]

/-! ## Decks and their rider counts (R55) -/

theorem mem_orderedDecks {ds : List Deck} {d : Deck} : d ∈ orderedDecks ds ↔ d ∈ ds := by
  cases d <;> simp [orderedDecks]

theorem orderedDecks_nodup (ds : List Deck) : (orderedDecks ds).Nodup :=
  List.Nodup.sublist List.filter_sublist (show [Deck.upper, .middle, .lower].Nodup by decide)

theorem orderedDecks_eq_iff {ds ds' : List Deck} : orderedDecks ds = orderedDecks ds' ↔ ∀ d, d ∈ ds ↔ d ∈ ds' := by
  constructor
  · intro e d
    rw [← mem_orderedDecks, e, mem_orderedDecks]
  · intro same
    unfold orderedDecks
    refine List.filter_congr fun d _ => ?_
    rw [Bool.eq_iff_iff, List.contains_iff_mem, List.contains_iff_mem]
    exact same d

/-- The rider count that a list gives a deck. -/
def riderOf (ds : List Deck) (l : List Nat) (d : Deck) : Option Nat := ((ds.zip l).find? (fun p => p.1 == d)).map (·.2)

theorem riderOf_eq_some {ds : List Deck} {l : List Nat} (nodup : ds.Nodup) {d : Deck} {x : Nat} :
    riderOf ds l d = some x ↔ (d, x) ∈ ds.zip l := by
  induction ds generalizing l with
  | nil => simp [riderOf]
  | cons a ds ih =>
    cases l with
    | nil => simp [riderOf]
    | cons y l =>
      obtain ⟨fresh, rest⟩ := List.nodup_cons.mp nodup
      unfold riderOf at ih ⊢
      rw [List.zip_cons_cons, List.mem_cons]
      by_cases same : a = d
      · rw [List.find?_cons_of_pos (by simpa using same)]
        subst same
        have later : (a, x) ∉ ds.zip l := fun member => fresh (List.of_mem_zip member).1
        simp [later, eq_comm]
      · rw [List.find?_cons_of_neg (by simpa using same), ih rest]
        simp [Ne.symm same]

theorem riderOf_isSome {ds : List Deck} {l : List Nat} (length : l.length = ds.length) {d : Deck} (h : d ∈ ds) :
    (riderOf ds l d).isSome = true := by
  obtain ⟨i, hi, rfl⟩ := List.getElem_of_mem h
  unfold riderOf
  rw [Option.isSome_map, List.find?_isSome]
  exact ⟨(ds[i], l[i]), by rw [← List.getElem_zip (h := by simp [length, hi])]; exact List.getElem_mem _, by simp⟩

theorem filterMap_length_and_zip {α β : Type} {g : α → Option β} {l : List α} (h : ∀ a ∈ l, (g a).isSome = true) :
    (l.filterMap g).length = l.length ∧ ∀ a b, (a, b) ∈ l.zip (l.filterMap g) ↔ a ∈ l ∧ g a = some b := by
  induction l with
  | nil => simp
  | cons a l ih =>
    obtain ⟨b, hb⟩ := Option.isSome_iff_exists.mp (h a (List.mem_cons_self ..))
    obtain ⟨length, zip⟩ := ih fun x m => h x (List.mem_cons_of_mem _ m)
    rw [List.filterMap_cons_some hb]
    refine ⟨by simp [length], fun x y => ?_⟩
    rw [List.zip_cons_cons, List.mem_cons, List.mem_cons, zip, Prod.mk.injEq]
    constructor
    · rintro (⟨rfl, rfl⟩ | ⟨m, e⟩)
      · exact ⟨.inl rfl, hb⟩
      · exact ⟨.inr m, e⟩
    · rintro ⟨rfl | m, e⟩
      · exact .inl ⟨rfl, Option.some.inj (e.symm.trans hb)⟩
      · exact .inr ⟨m, e⟩

/-- The counts keep their decks when both are put in order (R55). -/
theorem orderedRiders_spec {ds : List Deck} {l : List Nat} (nodup : ds.Nodup) (length : l.length = ds.length) :
    (orderedRiders ds l).length = ds.length ∧
      ∀ d x, (d, x) ∈ (orderedDecks ds).zip (orderedRiders ds l) ↔ (d, x) ∈ ds.zip l := by
  have given : orderedRiders ds l = (orderedDecks ds).filterMap (riderOf ds l) := rfl
  obtain ⟨count, zip⟩ := filterMap_length_and_zip (g := riderOf ds l) (l := orderedDecks ds)
    fun d m => riderOf_isSome length (mem_orderedDecks.mp m)
  rw [given]
  refine ⟨count.trans ?_, fun d x => ?_⟩
  · exact ((List.perm_ext_iff_of_nodup (orderedDecks_nodup ds) nodup).mpr fun d => mem_orderedDecks).length_eq
  · rw [zip, riderOf_eq_some nodup, mem_orderedDecks]
    exact and_iff_right_of_imp fun m => (List.of_mem_zip m).1

/-! ## Merging (R59, R60) -/

theorem mergingEntry_eq_none {q : List Call} {work : CallWork} :
    mergingEntry q work = none ↔ ∀ x ∈ q, x.work.merges work = false := by
  unfold mergingEntry
  rw [List.find?_eq_none]
  exact forall₂_congr fun _ _ => Bool.not_eq_true _ ▸ Iff.rfl

theorem State.mergeOrAdmit_merged {s : State} {w : Winder} {work : CallWork} {e : Call}
    (h : mergingEntry (s.queues.get w) work = some e) (link : Link) (priority : Bool) :
    s.mergeOrAdmit w link work priority =
      ({ s with queues := s.queues.set w (if priority then moveToHead (s.queues.get w) e.id else s.queues.get w) },
        (.merged, .callId e.id)) := by
  unfold State.mergeOrAdmit
  rw [h]
  cases priority
  · exact congrArg (fun q => ({ s with queues := q }, _)) (s.queues.set_get w).symm
  · rfl

theorem State.mergeOrAdmit_full {s : State} {w : Winder} {work : CallWork} (h : mergingEntry (s.queues.get w) work = none)
    (full : admissionLimit w ≤ s.admissionCount w) (link : Link) (priority : Bool) :
    s.mergeOrAdmit w link work priority = (s, (.refused .queueFull, .nothing)) := by
  unfold State.mergeOrAdmit
  rw [h]
  exact if_neg (not_lt.mpr full)

theorem State.mergeOrAdmit_admitted {s : State} {w : Winder} {work : CallWork} (h : mergingEntry (s.queues.get w) work = none)
    (room : s.admissionCount w < admissionLimit w) (link : Link) (priority : Bool) :
    s.mergeOrAdmit w link work priority =
      ({ s with
          queues := s.queues.set w
            (if priority then ⟨s.nextCallId w, link, work, priority, s.admittedState work, s.now⟩ :: s.queues.get w
             else s.queues.get w ++ [⟨s.nextCallId w, link, work, priority, s.admittedState work, s.now⟩])
          lastCallId := s.lastCallId.set w (s.nextCallId w) },
        (.done, .callId (s.nextCallId w))) := by
  unfold State.mergeOrAdmit
  rw [h]
  exact if_pos room

theorem CallWork.cage_merges {st st' : Fin 16} {c c' : Class} {ds ds' : List Deck} {riders riders' : Option (List Nat)}
    {payload payload' : Option Nat} :
    (CallWork.cage st c ds riders payload).merges (.cage st' c' ds' riders' payload') = true ↔
      st = st' ∧ c = c' ∧ ∀ d, d ∈ ds ↔ d ∈ ds' := by
  rw [← orderedDecks_eq_iff]
  simp [CallWork.merges, and_assoc]

theorem moveToHead_eq (q : List Call) (id : Nat) :
    moveToHead q id =
      (match q.find? (fun c => c.id == id) with
       | some c => { c with priority := true } :: q.filter (fun c => c.id != id)
       | none => q.filter (fun c => c.id != id)) := by
  unfold moveToHead
  cases q.find? (fun c => c.id == id) <;> rfl

/-! ## Call ids (R56) -/

theorem State.admissionCount_eq (s : State) (w : Winder) :
    s.admissionCount w = (s.queues.get w).length + (if (s.pipe w).staged = none then 0 else 1) := by
  unfold State.admissionCount
  cases (s.pipe w).staged <;> rfl

theorem sourceId_eq_some {slot : Option Trip} {id : Nat} :
    sourceId slot = some id ↔ ∃ t c, slot = some t ∧ t.source = some c ∧ c.id = id := by
  unfold sourceId
  simp [Option.bind_eq_some_iff]

theorem State.mem_liveIds {s : State} {w : Winder} {id : Nat} :
    id ∈ s.liveIds w ↔
      (∃ c ∈ s.queues.get w, c.id = id) ∨ (∃ t c, (s.pipe w).staged = some t ∧ t.source = some c ∧ c.id = id) ∨
      (∃ t c, (s.pipe w).active = some t ∧ t.source = some c ∧ c.id = id) ∨ (∃ e ∈ s.ended.get w, e.id = id) := by
  unfold State.liveIds
  simp only [List.mem_append, List.mem_map, Option.mem_toList, sourceId_eq_some, or_assoc]

theorem idAfter_eq {n : Nat} (h : n ≤ 250) : idAfter n = n % 250 + 1 := by
  unfold idAfter
  split <;> omega

/-- The ids are tried one after the other, from 250 on to 1. -/
theorem freeIdFrom_spec (live : List Nat) (m count : Nat) :
    ∃ k ≤ count, freeIdFrom live (m % 250 + 1) count = (m + k) % 250 + 1 ∧ (∀ j < k, (m + j) % 250 + 1 ∈ live) ∧
      (k < count → (m + k) % 250 + 1 ∉ live) := by
  induction count generalizing m with
  | zero => exact ⟨0, le_rfl, rfl, nofun, nofun⟩
  | succ count ih =>
    unfold freeIdFrom
    by_cases taken : m % 250 + 1 ∈ live
    · obtain ⟨k, bound, value, before, free⟩ := ih (m + 1)
      have next : idAfter (m % 250 + 1) = (m + 1) % 250 + 1 := by
        rw [idAfter_eq (by omega)]
        omega
      rw [if_pos (List.contains_iff_mem.mpr taken), next, value]
      refine ⟨k + 1, by omega, by rw [Nat.add_right_comm, Nat.add_assoc], fun j less => ?_, fun less => ?_⟩
      · cases j with
        | zero => exact taken
        | succ j =>
          have earlier := before j (by omega)
          rwa [Nat.add_right_comm, Nat.add_assoc] at earlier
      · have fresh := free (by omega)
        rwa [Nat.add_right_comm, Nat.add_assoc] at fresh
    · rw [if_neg (by simpa using taken)]
      exact ⟨0, Nat.zero_le _, rfl, nofun, fun _ => taken⟩

/-- Fewer than 250 live ids leave one free. -/
theorem exists_free_of_length_lt {live : List Nat} (short : live.length < 250) (m : Nat) :
    ¬∀ j < 250, (m + j) % 250 + 1 ∈ live := by
  intro all
  have nodup : ((List.range 250).map (fun j => (m + j) % 250 + 1)).Nodup := by
    refine List.Nodup.map_on (fun a ha b hb e => ?_) List.nodup_range
    rw [List.mem_range] at ha hb
    omega
  have inside : (List.range 250).map (fun j => (m + j) % 250 + 1) ⊆ live := by
    intro x member
    obtain ⟨j, less, rfl⟩ := List.mem_map.mp member
    exact all j (List.mem_range.mp less)
  have count := (List.subperm_of_subset nodup inside).length_le
  rw [List.length_map, List.length_range] at count
  omega

theorem State.nextCallId_spec {s : State} {w : Winder} (short : (s.liveIds w).length < 250) (high : s.lastCallId.get w ≤ 250) :
    1 ≤ s.nextCallId w ∧ s.nextCallId w ≤ 250 ∧ s.nextCallId w ∉ s.liveIds w ∧
      ∃ k, s.nextCallId w = (s.lastCallId.get w + k) % 250 + 1 ∧
        ∀ j < k, (s.lastCallId.get w + j) % 250 + 1 ∈ s.liveIds w := by
  obtain ⟨k, bound, value, before, free⟩ := freeIdFrom_spec (s.liveIds w) (s.lastCallId.get w) 250
  have next : s.nextCallId w = (s.lastCallId.get w + k) % 250 + 1 := by
    unfold State.nextCallId
    rw [idAfter_eq high, value]
  have within : k < 250 := by
    by_contra beyond
    obtain rfl : k = 250 := by omega
    exact exists_free_of_length_lt short _ before
  rw [next]
  exact ⟨by omega, by omega, free within, k, rfl, before⟩

/-! ## CALL and CYCLE -/

theorem takeCall_refused {link : Link} {n k p : Nat} {decks : List Nat} {riders : Option (List Nat)} {payload : Option Nat} (s : State)
    (h : stationCode n = none ∨ cageClassCode k = none ∨ codes deckCode decks = none ∨ flagCode p = none ∨
      deckCountOk link decks = false ∨ countsInRange riders payload = false) :
    takeCall link n k decks riders payload p s = (s, refuse .outOfRange) := by
  unfold takeCall
  split
  · next st c ds prio station cls deck flag =>
    rw [station, cls, deck, flag] at h
    have bad : ¬(deckCountOk link decks && countsInRange riders payload) = true := by
      rcases h with h | h | h | h | h | h
      iterate 4 exact absurd h (Option.some_ne_none _)
      · simp [h]
      · simp [h]
    exact if_neg bad
  · rfl

theorem takeCall_tested {link : Link} {n k p : Nat} {decks : List Nat} {riders : Option (List Nat)} {payload : Option Nat} {st : Fin 16}
    {c : Class} {ds : List Deck} {prio : Bool} (s : State) (station : stationCode n = some st) (cls : cageClassCode k = some c)
    (deck : codes deckCode decks = some ds) (flag : flagCode p = some prio) (count : deckCountOk link decks = true)
    (range : countsInRange riders payload = true) :
    takeCall link n k decks riders payload p s =
      ((s.admitCageCall link st c ds riders payload (prio && link == .console)).1.settle .service,
        (s.admitCageCall link st c ds riders payload (prio && link == .console)).2) := by
  unfold takeCall
  rw [station, cls, deck, flag]
  exact if_pos (Bool.and_eq_true_iff.mpr ⟨count, range⟩)

theorem State.admitCageCall_refused {s : State} {st : Fin 16} {c : Class} {ds : List Deck} {riders : Option (List Nat)}
    {payload : Option Nat} {r : Reason} (fails : s.cageCallTests st c ds riders payload = some r) (link : Link) (priority : Bool) :
    s.admitCageCall link st c ds riders payload priority = (s, (.refused r, .nothing)) := by
  unfold State.admitCageCall
  rw [fails]

theorem State.admitCageCall_passed {s : State} {st : Fin 16} {c : Class} {ds : List Deck} {riders : Option (List Nat)}
    {payload : Option Nat} (pass : s.cageCallTests st c ds riders payload = none) (link : Link) (priority : Bool) :
    s.admitCageCall link st c ds riders payload priority =
      s.mergeOrAdmit .service link (.cage st c (orderedDecks ds) (riders.map (orderedRiders ds)) payload) priority := by
  unfold State.admitCageCall
  rw [pass]

theorem State.cageCallTests_eq_none {s : State} {st : Fin 16} {c : Class} {ds : List Deck} {riders : Option (List Nat)}
    {payload : Option Nat} (counts : countsOk c ds riders payload = true) (nodup : ds.Nodup)
    (service : (s.work.stations[st]).inService = true) (served : ∀ d ∈ ds, (s.work.stations[st]).decks.has d = true) :
    s.cageCallTests st c ds riders payload = none := by
  have each : ds.all (s.stationAt st).decks.has = true := List.all_eq_true.mpr served
  have open_ : (s.stationAt st).inService = true := service
  unfold State.cageCallTests
  rw [counts, open_, each]
  simp [nodup]

theorem State.heard_admissionCount (s : State) (h : Head) (k : Kind) (w : Winder) :
    (s.heard h k).admissionCount w = s.admissionCount w := by
  unfold State.admissionCount
  rw [State.heard_queues, State.heard_pipe]

theorem State.heard_nextCallId (s : State) (h : Head) (k : Kind) (w : Winder) : (s.heard h k).nextCallId w = s.nextCallId w := by
  unfold State.nextCallId State.liveIds
  rw [State.heard_queues, State.heard_pipe, State.heard_lastCallId, State.heard_ended]

theorem State.heard_admittedState (s : State) (h : Head) (k : Kind) (work : CallWork) :
    (s.heard h k).admittedState work = s.admittedState work := by
  unfold State.admittedState
  rw [State.heard_bars, State.heard_pairing]

/-- What a request of its block merges, admits or refuses, its own arrival aside (R59, R60). -/
theorem State.heard_mergeOrAdmit (s : State) (h : Head) (k : Kind) (w : Winder) (work : CallWork) (priority : Bool) :
    (∀ e, mergingEntry (s.queues.get w) work = some e →
      (s.heard h k).mergeOrAdmit w h.link work priority =
        ({ s.heard h k with
            queues := s.queues.set w (if priority then moveToHead (s.queues.get w) e.id else s.queues.get w) },
          (.merged, .callId e.id))) ∧
    (mergingEntry (s.queues.get w) work = none → admissionLimit w ≤ s.admissionCount w →
      (s.heard h k).mergeOrAdmit w h.link work priority = (s.heard h k, (.refused .queueFull, .nothing))) ∧
    (mergingEntry (s.queues.get w) work = none → s.admissionCount w < admissionLimit w →
      let call : Call := ⟨s.nextCallId w, h.link, work, priority, s.admittedState work, s.now⟩
      (s.heard h k).mergeOrAdmit w h.link work priority =
        ({ s.heard h k with
            queues := s.queues.set w (if priority then call :: s.queues.get w else s.queues.get w ++ [call])
            lastCallId := s.lastCallId.set w call.id }, (.done, .callId call.id))) := by
  have queues : (s.heard h k).queues = s.queues := s.heard_queues ..
  refine ⟨fun e merges => ?_, fun apart full => ?_, fun apart room => ?_⟩
  · rw [State.mergeOrAdmit_merged (queues ▸ merges), queues]
  · rw [State.mergeOrAdmit_full (queues ▸ apart) (by rw [State.heard_admissionCount]; exact full)]
  · intro call
    have admitted : (⟨(s.heard h k).nextCallId w, h.link, work, priority, (s.heard h k).admittedState work, (s.heard h k).now⟩ : Call) =
        call := by
      rw [State.heard_nextCallId, State.heard_admittedState, State.heard_now]
    rw [State.mergeOrAdmit_admitted (queues ▸ apart) (by rw [State.heard_admissionCount]; exact room), admitted, queues,
      State.heard_nextCallId, State.heard_lastCallId]

/-- A CALL whose fields read is answered as its tests and its admission say (R58). -/
theorem State.call_answers {s t : State} {h : Head} {n k p : Nat} {decks : List Nat} {riders : Option (List Nat)} {payload : Option Nat}
    {st : Fin 16} {c : Class} {ds : List Deck} {prio : Bool} {r : Code × Answer}
    (a : s.admits h .call (callSize decks (.of riders) (.of payload)) none)
    (station : stationCode n = some st) (cls : cageClassCode k = some c)
    (deck : codes deckCode decks = some ds) (flag : flagCode p = some prio) (count : deckCountOk h.link decks = true)
    (range : countsInRange riders payload = true)
    (admitted : (s.heard h .call).admitCageCall h.link st c ds riders payload (prio && h.link == .console) = (t, r)) :
    s.Answers (.call h n k decks (.of riders) (.of payload) p) h .call (t.settle .service) r := by
  refine State.answers_of_request rfl a ?_
  rw [withRead_of, withRead_of, takeCall_tested _ station cls deck flag count range, admitted]

theorem takeCycle_of {n : Nat} {k : Skip} (h : skipCode n = some k) (link : Link) (s : State) :
    takeCycle link n s =
      ((s.mergeOrAdmit .rock link (.cycle k) false).1.settle .rock, (s.mergeOrAdmit .rock link (.cycle k) false).2) := by
  unfold takeCycle
  rw [h]

theorem State.cycle_answers {s t : State} {h : Head} {n : Nat} {k : Skip} {r : Code × Answer} (a : s.admits h .cycle 1 none)
    (skip : skipCode n = some k) (admitted : (s.heard h .cycle).mergeOrAdmit .rock h.link (.cycle k) false = (t, r)) :
    s.Answers (.cycle h n) h .cycle (t.settle .rock) r := by
  refine State.answers_of_request rfl a ?_
  rw [takeCycle_of skip, admitted]

/-- Settles O34. -/
theorem callsAreMergedOrAdmitted : Obligations.CallsAreMergedOrAdmitted := by
  refine ⟨fun s h n k decks riders payload p a => ⟨fun bad => ?_, fun st c ds prio r station cls deck flag count range fails => ?_⟩,
    fun s st c ds riders payload cage => s.cageCallTests_inOrder st ds riders payload cage,
    ⟨fun st st' c c' ds ds' riders riders' payload payload' => CallWork.cage_merges, fun k k' => beq_iff_eq, moveToHead_eq,
      fun st c ds riders payload k => ⟨rfl, rfl⟩, fun ds => List.filter_congr fun d _ => (List.contains_eq_mem ..),
      fun ds l nodup length => orderedRiders_spec nodup length⟩,
    fun s w id => ⟨s.admissionCount_eq w, State.mem_liveIds⟩,
    fun s h => ⟨fun n k decks riders payload p st c ds prio station cls deck flag count range counts nodup service served a => ?_,
      fun n beyond a => ?_, fun n k skip a => ?_⟩,
    fun s w short _ high => State.nextCallId_spec short high⟩
  · refine State.answers_of_request rfl a ?_
    rw [withRead_of, withRead_of]
    refine takeCall_refused _ ?_
    rcases bad with bad | bad | ⟨d, member, bad⟩ | bad | bad
    · exact .inl (stationCode_of_not_lt (not_lt.mpr bad))
    · exact .inr (.inl (cageClassCode_of_le bad))
    · exact .inr (.inr (.inl (codes_of_mem member (deckCode_of_le bad))))
    · exact .inr (.inr (.inr (.inl (flagCode_of_le bad))))
    · refine .inr (.inr (.inr (.inr ?_)))
      rw [deckCountOk_eq_false, countsInRange_eq_false, or_assoc]
      exact bad
  · exact State.call_answers a station cls deck flag count range
      (State.admitCageCall_refused ((s.heard_cageCallTests ..).trans fails) _ _)
  · intro work q ahead_ cmd
    have pass : (s.heard h .call).cageCallTests st c ds riders payload = none :=
      (s.heard_cageCallTests ..).trans (State.cageCallTests_eq_none counts nodup service served)
    obtain ⟨merged, full, admitted⟩ := s.heard_mergeOrAdmit h .call .service work ahead_
    have answers {t : State} {r : Code × Answer} (e : (s.heard h .call).mergeOrAdmit .service h.link work ahead_ = (t, r)) :
        s.Answers cmd h .call (t.settle .service) r :=
      State.call_answers a station cls deck flag count range ((State.admitCageCall_passed pass _ _).trans e)
    exact ⟨fun e found => answers (merged e found),
      fun apart room => answers (admitted (mergingEntry_eq_none.mpr apart) room),
      fun apart crowded => answers (full (mergingEntry_eq_none.mpr apart) crowded)⟩
  · refine State.answers_of_request rfl a ?_
    unfold takeCycle
    rw [skipCode_of_le beyond]
    rfl
  · intro q
    obtain ⟨merged, full, admitted⟩ := s.heard_mergeOrAdmit h .cycle .rock (.cycle k) false
    refine ⟨fun e found => ?_, fun apart room => State.cycle_answers a skip (admitted (mergingEntry_eq_none.mpr apart) room),
      fun apart crowded => State.cycle_answers a skip (full (mergingEntry_eq_none.mpr apart) crowded)⟩
    have same : ({ s.heard h .cycle with queues := s.queues.set .rock (s.queues.get .rock) } : State) = s.heard h .cycle := by
      rw [PerWinder.set_get, ← State.heard_queues s h .cycle]
    have answers := State.cycle_answers a skip (merged e found)
    rw [if_neg Bool.false_ne_true, same] at answers
    exact answers

end Sys2Proof.Machine

/-! PROOFS. The assembly (O35): opened, added to, closed into a call, and abandoned. -/

namespace Sys2Proof.Machine

/-! ## OPEN CALL (R65) -/

theorem State.openCall_answers {s : State} {h : Head} {n k : Nat} {st : Fin 16} {c : Class} (a : s.admits h .openCall 2 none)
    (station : stationCode n = some st) (cls : cageClassCode k = some c) :
    ((s.work.stations[st]).inService = true →
      s.Answers (.openCall h n k) h .openCall { s.heard h .openCall with assembly := some ⟨st, c, [], s.now⟩ } (.done, .nothing)) ∧
    ((s.work.stations[st]).inService = false →
      s.Reads (.openCall h n k) h .openCall (.refused .notInService, .nothing)) := by
  have served : ((s.heard h .openCall).stationAt st).inService = (s.work.stations[st]).inService := by
    unfold State.stationAt
    rw [State.heard_work]
  refine ⟨fun service => State.answers_of_request rfl a ?_, fun service => State.answers_of_request rfl a ?_⟩
  · unfold takeOpenCall
    rw [station, cls]
    have now : (⟨st, c, [], (s.heard h .openCall).now⟩ : Assembly) = ⟨st, c, [], s.now⟩ := by rw [State.heard_now]
    exact (if_pos (served.trans service)).trans
      (congrArg (fun x => (({ s.heard h .openCall with assembly := some x } : State), done)) now)
  · unfold takeOpenCall
    rw [station, cls]
    exact if_neg (by rw [served, service]; exact Bool.false_ne_true)

theorem takeOpenCall_refused {n k : Nat} (h : 16 ≤ n ∨ 2 ≤ k) (s : State) : takeOpenCall n k s = (s, refuse .outOfRange) := by
  unfold takeOpenCall
  rcases h with h | h
  · rw [stationCode_of_not_lt (not_lt.mpr h)]
  · rw [cageClassCode_of_le h]
    cases stationCode n <;> rfl

/-! ## ADD DECK (R66) -/

theorem State.heard_assembly_of_addDeck (s : State) (h : Head) : (s.heard h .addDeck).assembly = s.assembly := by
  rw [State.heard_eq]
  exact if_neg (by simp)

/-- ADD DECK on an open assembly, by its tests in order. -/
theorem takeAddDeck_opened {s : State} {n : Nat} {a : Assembly} {d : Deck} (opened : s.assembly = some a) (deck : deckCode n = some d) :
    takeAddDeck n s =
      if d ∈ a.decks then (s, refuse .deckRepeated)
      else if (s.work.stations[a.station]).decks.has d = false then (s, refuse .deckNotServed)
      else if 3 ≤ a.decks.length then (s, refuse .assemblyFull)
      else ({ s with assembly := some { a with decks := a.decks ++ [d] } }, done) := by
  unfold takeAddDeck
  rw [opened, deck]
  dsimp only
  split
  · next held => exact State.tested_some (by simp [State.addDeckTests, firstFailing, held]) _
  · next held =>
    split
    · next unserved =>
      refine State.tested_some ?_ _
      unfold State.addDeckTests State.stationAt
      simp only [firstFailing, unserved]
      simp [held]
    · next served =>
      rw [Bool.not_eq_false] at served
      split
      · next full =>
        refine State.tested_some ?_ _
        unfold State.addDeckTests State.stationAt
        simp only [firstFailing, served]
        simp [held, full]
      · next room =>
        refine State.tested_none ?_ _
        unfold State.addDeckTests State.stationAt
        simp only [firstFailing, served]
        simp [held, room]

theorem takeAddDeck_closed {s : State} (h : s.assembly = none) (n : Nat) : takeAddDeck n s = (s, refuse .noAssembly) := by
  unfold takeAddDeck
  rw [h]

theorem takeAddDeck_unnamed {s : State} {a : Assembly} {n : Nat} (h : s.assembly = some a) (beyond : 3 ≤ n) :
    takeAddDeck n s = (s, refuse .outOfRange) := by
  unfold takeAddDeck
  rw [h, deckCode_of_le beyond]

/-! ## CLOSE CALL (R67) -/

theorem takeCloseCall_closed {s : State} (h : s.assembly = none) (link : Link) (riders : Presence (List Nat)) (payload : Presence Nat) :
    takeCloseCall link riders payload s = (s, refuse .noAssembly) := by
  unfold takeCloseCall
  rw [h]

theorem takeCloseCall_empty {s : State} {a : Assembly} (h : s.assembly = some a) (empty : a.decks = []) (link : Link)
    (riders : Presence (List Nat)) (payload : Presence Nat) :
    takeCloseCall link riders payload s = ({ s with assembly := none }, refuse .noDecks) := by
  unfold takeCloseCall
  rw [h]
  dsimp only
  rw [empty]
  rfl

/-- An assembly that closes with its fields read. -/
theorem takeCloseCall_read {s : State} {a : Assembly} (h : s.assembly = some a) (decks : a.decks ≠ []) (link : Link)
    (riders : Option (List Nat)) (payload : Option Nat) :
    takeCloseCall link (.of riders) (.of payload) s =
      if countsInRange riders payload then
        ((({ s with assembly := none } : State).admitCageCall link a.station a.cls a.decks riders payload false).1.settle .service,
          (({ s with assembly := none } : State).admitCageCall link a.station a.cls a.decks riders payload false).2)
      else ({ s with assembly := none }, refuse .outOfRange) := by
  unfold takeCloseCall
  rw [h, Presence.read_of, Presence.read_of]
  dsimp only
  rw [if_neg (by simpa using decks)]

/-- A closed assembly leaves the state as a request without one would have found it. -/
theorem State.heard_closed (s : State) (h : Head) :
    ({ s.heard h .closeCall with assembly := none } : State) = ({ s with assembly := none } : State).heard h .closeCall := by
  rw [State.heard_eq, State.heard_eq]
  simp

/-- Settles O35. -/
theorem assemblyBuildsACall : Obligations.AssemblyBuildsACall := by
  intro s h
  have addDeck : (s.heard h .addDeck).assembly = s.assembly := s.heard_assembly_of_addDeck h
  have closeCall : (s.heard h .closeCall).assembly = s.assembly := s.heard_assembly_of_closeCall h
  refine ⟨fun n k st c station cls a => State.openCall_answers a station cls, fun n k bad a => ?_, fun n x opened beyond a => ?_,
    fun n x d opened deck a => ?_, fun absent => ⟨fun n a => ?_, fun riders payload a => ?_⟩, fun x riders payload opened a => ?_,
    fun x riders payload opened a => ?_, fun x opened => ?_⟩
  · exact State.answers_of_request rfl a (takeOpenCall_refused bad _)
  · exact State.answers_of_request rfl a (takeAddDeck_unnamed (addDeck.trans opened) beyond)
  · refine State.answers_of_request rfl a ?_
    have served : ((s.heard h .addDeck).work.stations[x.station]).decks.has d = (s.work.stations[x.station]).decks.has d := by
      rw [State.heard_work]
    rw [takeAddDeck_opened (addDeck.trans opened) deck, served]
    by_cases held : d ∈ x.decks
    · rw [if_pos held, if_pos (.inl held), if_pos held]
      rfl
    · by_cases unserved : (s.work.stations[x.station]).decks.has d = false
      · rw [if_neg held, if_pos unserved, if_pos (.inr (.inl unserved)), if_neg held, if_pos unserved]
        rfl
      · by_cases full : 3 ≤ x.decks.length
        · rw [if_neg held, if_neg unserved, if_pos full, if_pos (.inr (.inr full)), if_neg held, if_neg unserved, if_pos full]
          rfl
        · rw [if_neg held, if_neg unserved, if_neg full, if_neg (fun bad => bad.elim held fun bad => bad.elim unserved full), if_neg held, if_neg unserved,
            if_neg full]
          rfl
  · exact State.answers_of_request rfl a (takeAddDeck_closed (addDeck.trans absent) _)
  · exact State.answers_of_request rfl a (takeCloseCall_closed (closeCall.trans absent) _ _ _)
  · exact ⟨fun empty => State.answers_of_request rfl a (takeCloseCall_empty (closeCall.trans opened) empty _ _ _),
      fun decks unread => State.answers_of_request rfl a (takeCloseCall_unread unread (closeCall.trans opened) decks)⟩
  · intro cmd closed q work tests
    have read (decks : x.decks ≠ []) := takeCloseCall_read (closeCall.trans opened) decks h.link riders payload
    have tested : closed.cageCallTests x.station x.cls x.decks riders payload = tests := by
      show State.cageCallTests { s.heard h .closeCall with assembly := none } _ _ _ _ _ = _
      rw [State.heard_closed, State.heard_cageCallTests]
      rfl
    have answers {t : State} {r : Code × Answer} (decks : x.decks ≠ []) (range : countsInRange riders payload = true)
        (e : closed.admitCageCall h.link x.station x.cls x.decks riders payload false = (t, r)) :
        s.Answers cmd h .closeCall (t.settle .service) r := by
      refine State.answers_of_request rfl a ((read decks).trans ((if_pos range).trans ?_))
      rw [e]
    refine ⟨fun decks range => State.answers_of_request rfl a ((read decks).trans (if_neg (by simp [range]))),
      fun r decks range fails => answers decks range (State.admitCageCall_refused (tested.trans fails) _ _),
      s.cageCallTests_inOrder x.station x.decks riders payload, fun decks range pass => ?_⟩
    obtain ⟨merged, full, admitted⟩ :=
      ({ s with assembly := none } : State).heard_mergeOrAdmit h .closeCall .service work false
    rw [← State.heard_closed] at merged full admitted
    have passed := State.admitCageCall_passed (tested.trans pass) h.link false
    refine ⟨fun e found => ?_, fun apart crowded => answers decks range (passed.trans (full (mergingEntry_eq_none.mpr apart) crowded)),
      fun apart room => answers decks range (passed.trans (admitted (mergingEntry_eq_none.mpr apart) room))⟩
    have same : ({ closed with queues := s.queues.set .service (s.queues.get .service) } : State) = closed := by
      rw [PerWinder.set_get, ← State.heard_queues s h .closeCall]
    have answered := answers decks range (passed.trans (merged e found))
    rw [if_neg Bool.false_ne_true] at answered
    exact same ▸ answered
  · show Host.Outcome.next _ = _
    refine congrArg Host.Outcome.next ?_
    have due : s.begin.assemblyDue = true ↔ 20000 ≤ (s.now - x.openedAt).toNat := by
      rw [State.assemblyDue_iff]
      exact ⟨fun ⟨y, held, late⟩ => Option.some.inj (held.symm.trans opened) ▸ late, fun late => ⟨x, opened, late⟩⟩
    by_cases late : 20000 ≤ (s.now - x.openedAt).toNat
    · rw [if_pos (due.mpr late), if_pos late]
      rfl
    · rw [if_neg (mt due.mp late), if_neg late, ← opened]
      rfl

end Sys2Proof.Machine

/-! PROOFS. Calls cancelled, ended and returned (O36). -/

namespace Sys2Proof.Machine

/-! ## Endings (R64, R87, R88, R161) -/

/-- The ended-call list after a trip's end (R88). -/
def State.endedWith (s : State) (w : Winder) (t : Trip) (o : TripOutcome) : PerWinder (List Ended) :=
  match t.source with
  | none => s.ended
  | some c => s.ended.set w (addEnded (s.ended.get w) ⟨c.id, s.now, .tripEnded t.number o⟩)

theorem State.endTripRecord_eq (s : State) (w : Winder) (t : Trip) (o : TripOutcome) :
    s.endTripRecord w t o =
      { s with
        pipes := s.pipes.set w { s.pipe w with prior := (s.pipe w).latest, latest := some ⟨t.number, o⟩ }
        ended := s.endedWith w t o
        counters := s.counters.set w ((s.counters.get w).tripEnded o) } := by
  unfold State.endTripRecord State.endSource State.endedWith
  cases t.source <;> rfl

theorem State.endActive_of {s : State} {w : Winder} {t : Trip} (h : (s.pipe w).active = some t) (o : TripOutcome) :
    s.endActive w o =
      { s with
        pipes := s.pipes.set w
          { s.pipe w with
            active := none, offer := none, settle := none, prior := (s.pipe w).latest, latest := some ⟨t.number, o⟩ }
        repair := if t.kind = .rePair then none else s.repair
        clutchTimer := if t.kind = .rePair then none else s.clutchTimer
        ended := s.endedWith w t o
        counters := s.counters.set w ((s.counters.get w).tripEnded o) } := by
  unfold State.endActive State.endRePair
  rw [h]
  dsimp only
  rw [State.endTripRecord_eq]
  by_cases rePair : t.kind = .rePair
  · rw [if_pos rePair, if_pos rePair, if_pos rePair]
    cases w <;> rfl
  · rw [if_neg rePair, if_neg rePair, if_neg rePair]
    cases w <;> rfl

theorem State.endActive_winders (s : State) (w v : Winder) (o : TripOutcome) : (s.endActive w o).winder v = s.winder v := by
  cases active : (s.pipe w).active with
  | none => rw [s.endActive_none w o active]
  | some t =>
    rw [State.endActive_of active]
    rfl

theorem Pipe.unstage_eq (p : Pipe) : p.unstage = { p with staged := none, offer := if p.active = none then none else p.offer } := by
  unfold Pipe.unstage
  cases p.active <;> rfl

theorem State.discardStaged_none {s : State} {w : Winder} (h : (s.pipe w).staged = none) (o : TripOutcome) :
    s.discardStaged w o = s := by
  unfold State.discardStaged
  rw [h]

theorem State.discardStaged_of {s : State} {w : Winder} {t : Trip} (h : (s.pipe w).staged = some t) (o : TripOutcome) :
    s.discardStaged w o =
      { s with
        pipes := s.pipes.set w
          { s.pipe w with
            staged := none
            offer := if (s.pipe w).active = none then none else (s.pipe w).offer
            prior := (s.pipe w).latest
            latest := some ⟨t.number, o⟩ }
        ended := s.endedWith w t o
        counters := s.counters.set w ((s.counters.get w).tripEnded o) } := by
  have pipe : (s.withPipe w Pipe.unstage).pipe w =
      { s.pipe w with staged := none, offer := if (s.pipe w).active = none then none else (s.pipe w).offer } :=
    (State.withPipe_pipe_self ..).trans (Pipe.unstage_eq _)
  unfold State.discardStaged
  rw [h]
  dsimp only
  rw [State.endTripRecord_eq, pipe]
  cases w <;> rfl

theorem State.withdrawStaged_of_source {s : State} {w : Winder} {t : Trip} {c : Call} (h : (s.pipe w).staged = some t)
    (source : t.source = some c) (st : CallState) :
    s.withdrawStaged w st =
      ({ s with
          pipes := s.pipes.set w
            { s.pipe w with
              staged := none, offer := if (s.pipe w).active = none then none else (s.pipe w).offer } } : State).returnCall w c st := by
  unfold State.withdrawStaged
  rw [h, Option.bind_some, source]
  dsimp only
  unfold State.withPipe
  rw [Pipe.unstage_eq]
  rfl

theorem State.withdrawStaged_of_no_source {s : State} {w : Winder} (h : ∀ t, (s.pipe w).staged = some t → t.source = none)
    (st : CallState) : s.withdrawStaged w st = s.discardStaged w .withdrawn := by
  unfold State.withdrawStaged
  cases e : (s.pipe w).staged with
  | none => rfl
  | some t => rw [Option.bind_some, h t e]

/-! ## Calls returned (R62) -/

theorem State.returnedState_eq {s : State} {work : CallWork} {st placed : CallState}
    (held : (∃ k, work = .cycle k) ∧ st = .waiting ∧ s.pairing = .unpaired → placed = .heldPairing)
    (kept : ¬((∃ k, work = .cycle k) ∧ st = .waiting ∧ s.pairing = .unpaired) → placed = st) :
    s.returnedState work st = placed := by
  unfold State.returnedState
  cases work with
  | cage => exact (kept fun ⟨⟨k, e⟩, _⟩ => CallWork.noConfusion e).symm
  | cycle k =>
    by_cases unpaired : st = .waiting ∧ s.pairing = .unpaired
    · exact (if_pos unpaired).trans (held ⟨⟨k, rfl⟩, unpaired⟩).symm
    · exact (if_neg unpaired).trans (kept fun h => unpaired h.2).symm

theorem State.returnCall_apart {s : State} {w : Winder} {c : Call} (h : mergingEntry (s.queues.get w) c.work = none) (st : CallState) :
    s.returnCall w c st =
      { s with queues := s.queues.set w ({ c with state := s.returnedState c.work st } :: s.queues.get w) } := by
  unfold State.returnCall
  dsimp only
  rw [h]
  rfl

theorem State.returnCall_absorbing {s : State} {w : Winder} {c e : Call} (h : mergingEntry (s.queues.get w) c.work = some e)
    (st : CallState) :
    s.returnCall w c st =
      { s with
        queues := s.queues.set w
          ({ c with state := s.returnedState c.work st, priority := c.priority || e.priority } ::
            (s.queues.get w).filter (fun x => x.id != e.id))
        ended := s.ended.set w (addEnded (s.ended.get w) ⟨e.id, s.now, .absorbed c.id⟩) } := by
  unfold State.returnCall
  dsimp only
  rw [h]
  rfl

/-! ## CANCEL CALL (R63) -/

theorem takeCancelCall_queued {s : State} {w : Winder} {id : Nat} (h : ∃ c ∈ s.queues.get w, c.id = id) :
    takeCancelCall id w s =
      (({ s with
          queues := s.queues.set w ((s.queues.get w).filter (fun c => c.id != id))
          ended := s.ended.set w (addEnded (s.ended.get w) ⟨id, s.now, .cancelled⟩) } : State).settle w, done) := by
  have found : (s.queues.get w).any (fun c => c.id == id) = true := by simpa using h
  unfold takeCancelCall
  rw [if_pos found]
  rfl

theorem takeCancelCall_slots {s : State} {w : Winder} {id : Nat} (h : ∀ c ∈ s.queues.get w, c.id ≠ id) :
    takeCancelCall id w s =
      if sourceId (s.pipe w).staged = some id then ((s.discardStaged w .withdrawn).settle w, done)
      else if sourceId (s.pipe w).active = some id then (s, refuse .inProgress)
      else (s, refuse .noSuchCall) := by
  have absent : ¬(s.queues.get w).any (fun c => c.id == id) = true := by simpa using h
  unfold takeCancelCall
  rw [if_neg absent]

theorem sourceId_ne {slot : Option Trip} {id : Nat} (h : ∀ t c, slot = some t → t.source = some c → c.id ≠ id) :
    sourceId slot ≠ some id := by
  rw [Ne, sourceId_eq_some]
  rintro ⟨t, c, held, source, same⟩
  exact h t c held source same

theorem State.cancelCall_answers {s t : State} {h : Head} {n id : Nat} {w : Winder} {r : Code × Answer} (hw : winderCode n = some w)
    (a : s.admits h .cancelCall 2 (some n)) (taken : takeCancelCall id w (s.heard h .cancelCall) = (t, r)) :
    s.Answers (.cancelCall h n id) h .cancelCall t r :=
  State.answers_of_winderRequest hw rfl a taken

/-- Settles O36. -/
theorem callsAreCancelledAndExpire : Obligations.CallsAreCancelledAndExpire := by
  refine ⟨fun s h n id w hw a => ⟨fun queued => ?_, fun absent => ⟨fun t c staged source same => ?_, fun unstaged =>
      ⟨fun t c active source same => ?_, fun inactive => ?_⟩⟩⟩, fun s w id => rfl, fun l e => ?_, fun s w o => ?_,
    fun s w st => ⟨fun t c staged source => State.withdrawStaged_of_source staged source st,
      fun unsourced => State.withdrawStaged_of_no_source unsourced st⟩, fun s w c st => ?_, fun s w o => ?_⟩
  · have queues : (s.heard h .cancelCall).queues = s.queues := s.heard_queues ..
    have ended : (s.heard h .cancelCall).ended = s.ended := s.heard_ended ..
    have now : (s.heard h .cancelCall).now = s.now := s.heard_now ..
    have entry : (⟨id, (s.heard h .cancelCall).now, .cancelled⟩ : Ended) = ⟨id, s.now, .cancelled⟩ := by rw [now]
    refine State.cancelCall_answers hw a ?_
    rw [takeCancelCall_queued (queues ▸ queued), entry, queues, ended]
    rfl
  · refine State.cancelCall_answers hw a ?_
    rw [takeCancelCall_slots (by rw [State.heard_queues]; exact absent), State.heard_pipe,
      if_pos (sourceId_eq_some.mpr ⟨t, c, staged, source, same⟩)]
    rfl
  · refine State.cancelCall_answers hw a ?_
    rw [takeCancelCall_slots (by rw [State.heard_queues]; exact absent), State.heard_pipe, if_neg (sourceId_ne unstaged),
      if_pos (sourceId_eq_some.mpr ⟨t, c, active, source, same⟩)]
    rfl
  · refine State.cancelCall_answers hw a ?_
    rw [takeCancelCall_slots (by rw [State.heard_queues]; exact absent), State.heard_pipe, if_neg (sourceId_ne unstaged),
      if_neg (sourceId_ne inactive)]
    rfl
  · have drop : l.length + 1 - 16 = l.length - 15 := by omega
    rw [drop, List.drop_append_of_le_length (by omega)]
    rfl
  · intro p k counted ended
    have count : counted = k.tripEnded o := by cases o <;> rfl
    refine ⟨fun inactive => State.endActive_none s w o inactive, fun t active => ?_, fun unstaged => State.discardStaged_none unstaged o,
      fun t staged => ?_⟩
    · rw [State.endActive_of active, count]
      rfl
    · rw [State.discardStaged_of staged, count]
      rfl
  · intro q unpaired placed held kept
    have state := State.returnedState_eq held kept
    refine ⟨fun apart => ?_, fun e found => ?_⟩
    · rw [State.returnCall_apart (mergingEntry_eq_none.mpr apart), state]
    · rw [State.returnCall_absorbing found, state]
  · intro t parked
    have pending : (t.winder w).holdPending = (s.winder w).holdPending := by rw [State.endActive_winders]
    exact ⟨fun held => if_pos (pending.trans held), fun clear => if_neg (by rw [pending, clear]; exact Bool.false_ne_true)⟩

end Sys2Proof.Machine

/-! PROOFS. A comparison that raises no OVERSPEED, and the entry to STOPPING (rules for O37, O41 and O48). -/

namespace Sys2Proof.Machine

/-! ## A comparison below CRITICAL (R113, R143 to R146) -/

/-- Between two states a winder's cap and speed were compared and no OVERSPEED raised: only the monitors, the slow caps, the fault
list and the drive links differ, and frames are only added. -/
structure State.Compares (s t : State) : Prop where
  frame : t = { s with caps := t.caps, monitors := t.monitors, winders := t.winders, drives := t.drives, sent := t.sent,
                       primary := t.primary, faults := t.faults, overflow := t.overflow }
  winder : ∀ v, t.winder v = { s.winder v with slowCap := (t.winder v).slowCap }
  sent : s.sent <+: t.sent

theorem State.Compares.refl (s : State) : s.Compares s := ⟨rfl, fun _ => rfl, List.prefix_rfl⟩

theorem State.Compares.trans {s t u : State} (h : s.Compares t) (k : t.Compares u) : s.Compares u := by
  obtain ⟨frame, winder, sent⟩ := h
  obtain ⟨frame', winder', sent'⟩ := k
  refine ⟨?_, fun v => ?_, sent.trans sent'⟩
  · rw [frame] at frame'
    exact frame'
  · rw [winder' v, winder v]

theorem State.Compares.ite {s t u : State} {p : Prop} [Decidable p] (h : s.Compares t) (k : s.Compares u) :
    s.Compares (if p then t else u) := by
  split <;> assumption

/-- Where the winders stand, the slow caps do. -/
theorem State.Compares.of_frame {s t : State}
    (frame : t = { s with caps := t.caps, monitors := t.monitors, drives := t.drives, sent := t.sent,
                          primary := t.primary, faults := t.faults, overflow := t.overflow })
    (sent : s.sent <+: t.sent) : s.Compares t := by
  refine ⟨?_, fun v => ?_, sent⟩
  · rw [frame]
  · rw [frame]
    rfl

theorem State.withMonitor_compares (s : State) (w : Winder) (f : Monitor → Monitor) : s.Compares (s.withMonitor w f) :=
  .of_frame rfl List.prefix_rfl

theorem State.handCap_compares (s : State) (w : Winder) : s.Compares (s.handCap w) := .of_frame rfl List.prefix_rfl

theorem State.sendOrder_compares (s : State) (w : Winder) (o : Order) : s.Compares (s.sendOrder w o) :=
  .of_frame rfl (List.prefix_append ..)

theorem State.deliver_minor_compares (s : State) {f : FaultReport} (h : f.severity ≠ .trip) : s.Compares (s.deliver f) := by
  rw [State.deliver_minor s f h, State.record_eq]
  exact .of_frame rfl List.prefix_rfl

theorem State.slowCap_compares (s : State) (w : Winder) (x : Option Nat) :
    s.Compares (s.withWinder w (fun r => { r with slowCap := x })) := by
  refine ⟨rfl, fun v => ?_, List.prefix_rfl⟩
  cases v <;> cases w <;> rfl

theorem State.overRaised_compares (s : State) (w : Winder) : s.Compares (s.overRaised w) :=
  .ite ((s.slowCap_compares w _).trans (State.sendOrder_compares _ w _)) (.refl s)

theorem State.overCleared_compares (s : State) (w : Winder) : s.Compares (s.overCleared w) :=
  .ite ((s.slowCap_compares w none).trans (State.sendOrder_compares _ w _)) (s.slowCap_compares w none)

theorem State.setOver_compares (s : State) (w : Winder) : s.Compares (s.setOver w) :=
  .ite (s.withMonitor_compares w _) ((s.withMonitor_compares w _).trans (State.overRaised_compares _ w))

theorem State.clearOver_compares (s : State) (w : Winder) : s.Compares (s.clearOver w) :=
  .ite ((s.withMonitor_compares w _).trans (State.overCleared_compares _ w)) (s.withMonitor_compares w _)

theorem State.compareOver_compares (s : State) (w : Winder) : s.Compares (s.compareOver w) := by
  unfold State.compareOver
  dsimp only
  split
  · exact ((s.withMonitor_compares w _).trans (State.deliver_minor_compares _ (show Severity.note ≠ .trip by decide))).trans
      (State.setOver_compares _ w)
  · split
    · exact (s.withMonitor_compares w _).trans (State.clearOver_compares _ w)
    · exact s.withMonitor_compares w _
  all_goals exact s.withMonitor_compares w _

theorem State.compareUnder_compares (s : State) (w : Winder) : s.Compares (s.compareUnder w) := by
  unfold State.compareUnder
  split
  · dsimp only
    split
    · exact s.withMonitor_compares w _
    · exact s.withMonitor_compares w _
    all_goals exact .refl s
  all_goals exact .refl s

theorem State.followCap_compares (s : State) (w : Winder) : s.Compares (s.followCap w) := by
  unfold State.followCap
  split
  · exact .refl s
  · exact .ite ((s.slowCap_compares w _).trans (State.sendOrder_compares _ w _)) (.refl s)

/-- The OVER comparison keeps the speed and the cap that it was made with. -/
def State.KeepsReadings (w : Winder) (s t : State) : Prop :=
  (t.monitor w).speed = (s.monitor w).speed ∧ (t.monitor w).cap = (s.monitor w).cap

theorem State.KeepsReadings.trans {w : Winder} {s t u : State} (h : State.KeepsReadings w s t) (k : State.KeepsReadings w t u) :
    State.KeepsReadings w s u := ⟨k.1.trans h.1, k.2.trans h.2⟩

theorem State.KeepsReadings.of_monitors {w : Winder} {s t : State} (h : t.monitors = s.monitors) : State.KeepsReadings w s t := by
  unfold State.KeepsReadings State.monitor
  rw [h]
  exact ⟨rfl, rfl⟩

theorem State.withMonitor_keepsReadings (s : State) (w : Winder) {f : Monitor → Monitor}
    (h : (f (s.monitor w)).speed = (s.monitor w).speed ∧ (f (s.monitor w)).cap = (s.monitor w).cap) :
    State.KeepsReadings w s (s.withMonitor w f) := by
  unfold State.KeepsReadings
  rw [State.withMonitor_monitor_self]
  exact h

theorem State.deliver_minor_monitors (s : State) {f : FaultReport} (h : f.severity ≠ .trip) : (s.deliver f).monitors = s.monitors := by
  rw [State.deliver_minor s f h, State.record_eq]

theorem State.setOver_keepsReadings (s : State) (w : Winder) : State.KeepsReadings w s (s.setOver w) := by
  have set : State.KeepsReadings w s (s.withMonitor w (fun m => { m with overIndication := true })) :=
    s.withMonitor_keepsReadings w ⟨rfl, rfl⟩
  unfold State.setOver
  dsimp only
  split
  · exact set
  · refine set.trans (.of_monitors ?_)
    unfold State.overRaised
    split <;> rfl

theorem State.clearOver_keepsReadings (s : State) (w : Winder) : State.KeepsReadings w s (s.clearOver w) := by
  have cleared : State.KeepsReadings w s (s.withMonitor w (fun m => { m with overIndication := false })) :=
    s.withMonitor_keepsReadings w ⟨rfl, rfl⟩
  unfold State.clearOver
  dsimp only
  split
  · refine cleared.trans (.of_monitors ?_)
    unfold State.overCleared
    dsimp only
    split <;> rfl
  · exact cleared

theorem State.compareOver_keepsReadings (s : State) (w : Winder) : State.KeepsReadings w s (s.compareOver w) := by
  have after (b : Bool) : State.KeepsReadings w s (s.withMonitor w (fun m => { m with overCondition := b })) :=
    s.withMonitor_keepsReadings w ⟨rfl, rfl⟩
  unfold State.compareOver
  dsimp only
  split
  · exact ((after _).trans (.of_monitors (State.deliver_minor_monitors _ (show Severity.note ≠ .trip by decide)))).trans
      (State.setOver_keepsReadings _ w)
  · split
    · exact (after _).trans (State.clearOver_keepsReadings _ w)
    · exact after _
  all_goals exact after _

theorem State.compareCritical_below {s : State} {w : Winder}
    (h : criticalHolds (s.monitor w).speed (s.monitor w).cap.speed (s.work.envelope.get w).margin = false) : s.compareCritical w = s := by
  unfold State.compareCritical
  dsimp only
  rw [h]
  rfl

/-- A comparison of a speed and a cap below CRITICAL. -/
theorem State.compare_compares {s : State} {w : Winder}
    (below : (s.monitor w).running = true →
      criticalHolds (s.winderSpeed w) (s.caps.get w).speed (s.work.envelope.get w).margin = false) : s.Compares (s.compare w) := by
  unfold State.compare
  split
  · next h =>
    have running := (Bool.and_eq_true_iff.mp h).1
    obtain ⟨t, ht⟩ : ∃ t, t = s.withMonitor w (fun m => { m with speed := s.winderSpeed w, cap := s.caps.get w }) := ⟨_, rfl⟩
    have self : t.monitor w = { s.monitor w with speed := s.winderSpeed w, cap := s.caps.get w } := by
      rw [ht]
      exact State.withMonitor_monitor_self ..
    obtain ⟨speed, cap⟩ := t.compareOver_keepsReadings w
    have work : (t.compareOver w).work = s.work := by
      rw [(t.compareOver_compares w).frame, ht]
      rfl
    have uncritical : (t.compareOver w).compareCritical w = t.compareOver w := by
      refine State.compareCritical_below ?_
      rw [speed, cap, work, self]
      exact below running
    have set : s.Compares t := by
      rw [ht]
      exact s.withMonitor_compares w _
    dsimp only
    rw [← ht, uncritical]
    exact (set.trans (t.compareOver_compares w)).trans (State.compareUnder_compares _ w)
  · exact .refl s

/-- A cap handed on and compared below CRITICAL. -/
theorem State.handAndCompare_compares {s : State} {w : Winder} (below : s.belowCritical w = true) : s.Compares (s.handAndCompare w) := by
  refine ((s.handCap_compares w).trans (State.compare_compares fun running => ?_)).trans (State.followCap_compares _ w)
  unfold State.belowCritical at below
  have on : (s.monitor w).running = true := running
  rw [on, Bool.not_true, Bool.false_or, Bool.not_eq_true'] at below
  have cap : (s.handCap w).caps.get w = s.capOf w := PerWinder.get_set_self ..
  rw [cap]
  exact below

/-- What a comparison looks at (R143, R145). -/
theorem State.belowCritical_congr {s t : State} {w : Winder} (running : (t.monitor w).running = (s.monitor w).running)
    (positions : t.positions = s.positions) (zones : t.zones = s.zones) (work : t.work = s.work)
    (state : (t.winder w).state = (s.winder w).state) (mode : (t.winder w).mode = (s.winder w).mode)
    (active : (t.pipe w).active = (s.pipe w).active) : t.belowCritical w = s.belowCritical w := by
  have speed : t.winderSpeed w = s.winderSpeed w := by
    unfold State.winderSpeed State.moved State.activeLeg State.position
    rw [active, positions]
  unfold State.belowCritical
  rw [running, speed, State.capOf_congr positions zones work state mode active, work]

/-! ## The entry to STOPPING (R101) -/

theorem Monitor.entered_running (m : Monitor) (mode : IndicationMode) (st : WinderState) :
    (m.entered mode st).running = m.running := by
  cases st <;> cases mode <;> rfl

/-- The entry to STOPPING arms and disarms no check (R30). -/
theorem State.changeState_stopping {s : State} {w : Winder} (h : (s.winder w).state ≠ .stopping) :
    s.changeState w .stopping =
      { s with
        winders := s.winders.set w ((s.winder w).entered .stopping s.now)
        caps := (s.changeState w .stopping).caps
        monitors := s.monitors.set w ((s.monitor w).entered (s.work.envelope.get w).mode .stopping)
        pipes := s.pipes.set w { s.pipe w with settle := none } } := by
  unfold State.changeState
  rw [if_neg h]
  rfl

/-- The state in which STOP is sent. -/
def State.stopEntered (s : State) (w : Winder) (cause : StopCause) : State :=
  ((s.changeState w .stopping).withWinder w
    (fun r => { r with stopCause := some cause, stopStarted := some s.now })).withdrawStaged w .waiting

theorem State.stopEntered_spec {s : State} {w : Winder} {a : Trip} (cause : StopCause) (running : (s.winder w).state = .running)
    (active : (s.pipe w).active = some a) :
    let t := s.stopEntered w cause
    t.winder w = { (s.winder w).entered .stopping s.now with stopCause := some cause, stopStarted := some s.now } ∧
      (t.monitor w).running = (s.monitor w).running ∧ t.positions = s.positions ∧ t.zones = s.zones ∧ t.work = s.work ∧
      t.drives = s.drives ∧ t.sent = s.sent ∧ (t.pipe w).active = some a ∧ (t.pipe w).staged = none ∧ s.Withdrawn t w := by
  intro t
  obtain ⟨x, hx⟩ : ∃ x, x = (s.changeState w .stopping).withWinder w
    (fun r => { r with stopCause := some cause, stopStarted := some s.now }) := ⟨_, rfl⟩
  have same : t = x.withdrawStaged w .waiting := by
    rw [hx]
    rfl
  have requeues := x.withdrawStaged_requeues w .waiting
  obtain ⟨staged, slot⟩ := x.withdrawStaged_slots w .waiting
  have withdrawn := x.withdrawStaged_withdrawn w
  rw [← same] at requeues staged slot withdrawn
  have still : (s.winder w).state ≠ .stopping := by
    rw [running]
    decide
  rw [State.changeState_stopping still] at hx
  have winder : x.winder w = { (s.winder w).entered .stopping s.now with stopCause := some cause, stopStarted := some s.now } := by
    rw [hx]
    cases w <;> rfl
  have monitor : (x.monitor w).running = (s.monitor w).running := by
    have entered : x.monitor w = (s.monitor w).entered (s.work.envelope.get w).mode .stopping := by
      rw [hx]
      cases w <;> rfl
    rw [entered, Monitor.entered_running]
  have pipe : x.pipe w = { s.pipe w with settle := none } := by
    rw [hx]
    cases w <;> rfl
  refine ⟨?_, ?_, ?_, ?_, ?_, ?_, ?_, ?_, staged, ?_⟩
  · rw [requeues]
    exact winder
  · rw [requeues]
    exact monitor
  iterate 5
    rw [requeues, hx]
    rfl
  · rw [slot, pipe]
    exact active
  · have kept : x.queues = s.queues ∧ x.pairing = s.pairing ∧ x.now = s.now := by
      rw [hx]
      exact ⟨rfl, rfl, rfl⟩
    exact withdrawn.of_same ⟨by rw [pipe], by rw [kept.1], kept.2.1.symm, kept.2.2.symm⟩ ⟨rfl, rfl, rfl, rfl⟩

theorem State.enterStopping_spec {s : State} {w : Winder} {a : Trip} (cause : StopCause) (running : (s.winder w).state = .running)
    (below : ({ s with winders := s.winders.set w { s.winder w with state := .stopping } } : State).belowCritical w = true)
    (active : (s.pipe w).active = some a) :
    let u := s.enterStopping w cause
    (u.winder w).state = .stopping ∧ (u.winder w).permit = true ∧ (u.winder w).stopCause = some cause ∧
      (u.winder w).stopStarted = some s.now ∧ (u.pipe w).active = some a ∧ (u.pipe w).staged = none ∧ s.Withdrawn u w ∧
      ∃ later, u.sent = s.sent ++ .order w (s.drives.get w).tagCount (.stop a.number) :: later := by
  intro u
  obtain ⟨winder, monitor, positions, zones, work, drives, sent, slot, staged, withdrawn⟩ := State.stopEntered_spec cause running active
  have entered : u = ((s.stopEntered w cause).sendOrder w (.stop (((s.stopEntered w cause).activeNumber w).getD 0))).handAndCompare w := rfl
  have number : (s.stopEntered w cause).activeNumber w = some a.number := by
    unfold State.activeNumber
    rw [slot]
    rfl
  rw [number] at entered
  generalize s.stopEntered w cause = t at *
  obtain ⟨x, hx⟩ : ∃ x : State, x = { s with winders := s.winders.set w { s.winder w with state := .stopping } } := ⟨_, rfl⟩
  rw [← hx] at below
  have stopping : x.winder w = { s.winder w with state := .stopping } := by
    rw [hx]
    exact PerWinder.get_set_self ..
  have uncritical : (t.sendOrder w (.stop a.number)).belowCritical w = true := by
    rw [← below]
    refine State.belowCritical_congr ?_ ?_ ?_ ?_ ?_ ?_ ?_
    · rw [hx]
      exact monitor
    · rw [hx]
      exact positions
    · rw [hx]
      exact zones
    · rw [hx]
      exact work
    · rw [stopping]
      exact (congrArg WinderRecord.state winder :)
    · rw [stopping]
      exact (congrArg WinderRecord.mode winder :)
    · rw [hx]
      exact slot.trans active.symm
  have compared := State.handAndCompare_compares uncritical
  have dropped : (some a.number).getD 0 = a.number := rfl
  rw [dropped] at entered
  rw [← entered] at compared
  obtain ⟨frame, kept, later⟩ := compared
  have record : u.winder w = { t.winder w with slowCap := (u.winder w).slowCap } := kept w
  have pipe : u.pipe w = t.pipe w := by
    rw [frame]
    rfl
  refine ⟨?_, ?_, ?_, ?_, pipe ▸ slot, pipe ▸ staged, ?_, ?_⟩
  · rw [record, winder]
    rfl
  · rw [record, winder]
    rfl
  · rw [record, winder]
  · rw [record, winder]
  · refine withdrawn.of_same ⟨rfl, rfl, rfl, rfl⟩ ⟨by rw [pipe], by rw [pipe], ?_, ?_⟩
    · rw [frame]
      rfl
    · rw [frame]
      rfl
  · obtain ⟨l, e⟩ := later
    refine ⟨l, e.symm.trans ?_⟩
    show (t.sent ++ [.order w (t.drives.get w).tagCount (.stop a.number)]) ++ l = _
    rw [sent, drives, List.append_assoc]
    rfl

end Sys2Proof.Machine

/-! PROOFS. Bars set and cleared (O37). -/

namespace Sys2Proof.Machine

/-! ## What a fault of a winder leaves of the other's queue -/

section QueuesApart

variable {w : Winder}

theorem State.changeState_queuesApart (s : State) (v : Winder) (st : WinderState) : State.QueuesApart w s (s.changeState v st) :=
  .of_eq (s.changeState_queues v st).1

theorem State.tripWinder_queuesApart (s : State) : State.QueuesApart w s (s.tripWinder w) := by
  have ended (t : State) : State.QueuesApart w t ((t.endActive w .aborted).withdrawStaged w .waiting) :=
    (State.QueuesApart.of_eq (t.endActive_queues w _)).trans (State.withdrawStaged_queuesApart _ _)
  have recorded (t : State) (f : WinderRecord → WinderRecord) : State.QueuesApart w t (t.withWinder w f) := .of_eq rfl
  have emptied (t : State) : State.QueuesApart w t (t.emptySuppression w) := .of_eq rfl
  have sent (t : State) : State.QueuesApart w t (t.sendOrder w .brake) := .of_eq rfl
  exact (s.changeState_queuesApart w .tripped).trans ((ended _).trans ((recorded _ _).trans ((emptied _).trans (sent _))))

theorem State.lockWinder_queuesApart (s : State) : State.QueuesApart w s (s.lockWinder w) := by
  have emptied (t : State) : State.QueuesApart w t (t.emptySuppression w) := .of_eq rfl
  have sent (t : State) : State.QueuesApart w t (t.sendOrder w .brake) := .of_eq rfl
  exact (s.changeState_queuesApart w .lockout).trans ((emptied _).trans (sent _))

theorem State.deliver_queuesApart (s : State) {f : FaultReport} (h : f.winder = w) : State.QueuesApart w s (s.deliver f) := by
  subst h
  have recorded : State.QueuesApart f.winder s (s.record (s.entryOf f)) := .of_eq (by rw [State.record_eq])
  unfold State.deliver
  dsimp only
  split
  · refine recorded.trans ?_
    unfold State.handTrip
    split
    · exact .refl _
    · exact .ite (State.lockWinder_queuesApart _) (.refl _)
    all_goals exact State.tripWinder_queuesApart _
  all_goals exact recorded

theorem State.Compares.queuesApart {s t : State} (h : s.Compares t) : State.QueuesApart w s t := .of_eq (by rw [h.frame])

theorem State.compareCritical_queuesApart (s : State) : State.QueuesApart w s (s.compareCritical w) :=
  .ite ((s.withMonitor_compares w _).queuesApart.trans (State.deliver_queuesApart _ rfl)) (.refl s)

theorem State.handAndCompare_queuesApart (s : State) : State.QueuesApart w s (s.handAndCompare w) := by
  have compared (t : State) : State.QueuesApart w t (t.compare w) := by
    refine .ite ?_ (.refl t)
    exact (((t.withMonitor_compares w _).trans (State.compareOver_compares _ w)).queuesApart.trans
      (State.compareCritical_queuesApart _)).trans (State.compareUnder_compares _ w).queuesApart
  exact ((s.handCap_compares w).queuesApart.trans (compared _)).trans (State.followCap_compares _ w).queuesApart

theorem State.enterStopping_queuesApart (s : State) (cause : StopCause) : State.QueuesApart w s (s.enterStopping w cause) := by
  have entered : State.QueuesApart w s ((s.changeState w .stopping).withWinder w
      (fun r => { r with stopCause := some cause, stopStarted := some s.now })) := .of_eq (s.changeState_queues w _).1
  have sent (t : State) (o : Order) : State.QueuesApart w t (t.sendOrder w o) := .of_eq rfl
  exact ((entered.trans (State.withdrawStaged_queuesApart _ _)).trans (sent _ _)).trans (State.handAndCompare_queuesApart _)

theorem State.endAndPark_queues (s : State) (o : TripOutcome) : (s.endAndPark w o).queues = s.queues :=
  (State.park_queues _ w).trans (s.endActive_queues w o)

end QueuesApart

/-! ## A bar newly set (R70, R91) -/

/-- The calls that a bar newly set holds (R70). -/
def State.barHeld (s : State) (st : Fin 16) : State :=
  { s with
    bars := s.bars.set st true
    queues := s.queues.set .service ((s.queues.get .service).map (fun c =>
      if c.state = .waiting ∧ c.work.names st = true then { c with state := .heldBar } else c)) }

theorem State.setBar_eq (s : State) (st : Fin 16) : s.setBar st = ((s.barHeld st).barStaged st).barActive st := rfl

theorem State.barStaged_keeps (s : State) (st : Fin 16) : s.Keeps (s.barStaged st) :=
  .ite (s.withdrawStaged_keeps _ _) (.refl s)

theorem State.barActive_keeps (s : State) (st : Fin 16) : s.Keeps (s.barActive st) := by
  refine .ite ?_ (.refl s)
  split
  · exact s.enterStopping_keeps _ _
  · exact s.withWinder_keeps _ _
  · exact s.endAndPark_keeps _ _
  · exact s.endAndPark_keeps _ _
  all_goals exact .refl s

theorem State.barActive_queuesApart (s : State) (st : Fin 16) : State.QueuesApart .service s (s.barActive st) := by
  refine .ite ?_ (.refl s)
  split
  · exact s.enterStopping_queuesApart _
  · exact .of_eq rfl
  · exact .of_eq (s.endAndPark_queues _)
  · exact .of_eq (s.endAndPark_queues _)
  all_goals exact .refl s

theorem State.setBar_queuesApart (s : State) (st : Fin 16) : State.QueuesApart .service s (s.setBar st) := by
  have held : State.QueuesApart .service s (s.barHeld st) := fun v other => PerWinder.get_set_ne _ _ other
  exact (held.trans (.ite (State.withdrawStaged_queuesApart _ _) (.refl _))).trans (State.barActive_queuesApart _ st)

/-- A bar set on a winder at rest with nothing staged only holds calls. -/
theorem State.setBar_parked {s : State} (st : Fin 16) (parked : (s.winder .service).state = .parked)
    (unstaged : (s.pipe .service).staged = none) : s.setBar st = s.barHeld st := by
  have staged : (s.barHeld st).barStaged st = s.barHeld st := by
    refine if_neg ?_
    show ¬(s.pipe .service).staged.any _ = true
    rw [unstaged]
    exact Bool.false_ne_true
  have active : (s.barHeld st).barActive st = s.barHeld st := by
    unfold State.barActive
    split
    · show (match (s.winder .service).state with
        | .running => _ | .stopping => _ | .settling | .dwelling => _
        | .parked | .idle | .clutching | .tripped | .lockout => s.barHeld st) = _
      rw [parked]
    · rfl
  rw [State.setBar_eq, staged, active]

theorem State.barStaged_winders (s : State) (st : Fin 16) : (s.barStaged st).winders = s.winders := by
  unfold State.barStaged
  split
  · rw [s.withdrawStaged_requeues .service .heldBar]
  · rfl

/-! ## CLEAR BARS (R71) -/

theorem bars_any_iff {b : Vector Bool 16} : b.toList.any id = true ↔ b ≠ Vector.replicate 16 false := by
  constructor
  · rintro set rfl
    simp at set
  · intro other
    by_contra clear
    refine other (Vector.ext fun i hi => ?_)
    rw [Vector.getElem_replicate]
    rw [Bool.not_eq_true, List.any_eq_false] at clear
    exact Bool.eq_false_iff.mpr (clear b[i] (by simp))

/-- Every bar cleared, and the record write begun (R71, R178). -/
def State.barsCleared (s : State) : State :=
  { s with
    bars := Vector.replicate 16 false
    queues := s.queues.set .service
      ((s.queues.get .service).map (fun c => if c.state = .heldBar then { c with state := .waiting } else c))
    recordWrite := some ⟨⟨Vector.replicate 16 false, workEntries s.zones, true⟩, s.now + 10#32⟩ }

theorem State.heard_barsCleared (s : State) (h : Head) (k : Kind) :
    (s.heard h k).barsCleared =
      { s.heard h k with
        bars := Vector.replicate 16 false
        queues := s.queues.set .service
          ((s.queues.get .service).map (fun c => if c.state = .heldBar then { c with state := .waiting } else c))
        recordWrite := some ⟨⟨Vector.replicate 16 false, workEntries s.zones, true⟩, s.now + 10#32⟩ } := by
  have zones := s.heard_zones h k
  have due : (s.heard h k).now + 10#32 = s.now + 10#32 := by rw [State.heard_now]
  unfold State.barsCleared
  rw [State.heard_queues, zones, due]
  simp

theorem takeClearBars_set {s : State} (h : s.bars ≠ Vector.replicate 16 false) :
    takeClearBars s = (s.barsCleared.settle .service, done) :=
  if_pos (bars_any_iff.mpr h)

theorem takeClearBars_clear {s : State} (h : s.bars = Vector.replicate 16 false) : takeClearBars s = (s, done) :=
  if_neg (mt bars_any_iff.mp (not_not.mpr h))

/-! ## BAR STATION (R70) -/

theorem takeBarStation_of {n : Nat} {st : Fin 16} (station : stationCode n = some st) (s : State) :
    takeBarStation n s = if s.bars[st] then (s, done) else ((s.setBar st).startRecordWrite.settle .service, done) := by
  unfold takeBarStation
  rw [station]

/-- What a bar newly set leaves, its closing run included (R70, R178). -/
theorem State.setBar_settled (s : State) (st : Fin 16) :
    let t := (s.setBar st).startRecordWrite.settle .service
    t.bars = s.bars.set st true ∧
      t.recordWrite = some ⟨⟨s.bars.set st true, workEntries s.zones, true⟩, s.now + 10#32⟩ ∧
      t.queues.get .rock = s.queues.get .rock ∧ t.zones = s.zones ∧ t.work = s.work ∧
      ((s.winder .service).state = .parked → (s.pipe .service).staged = none →
        t.queues.get .service = (s.queues.get .service).map (fun c =>
          if c.state = .waiting ∧ c.work.names st = true then { c with state := .heldBar } else c)) := by
  intro t
  have kept := ((s.barHeld st).barStaged_keeps st).trans (State.barActive_keeps _ st)
  rw [← State.setBar_eq] at kept
  have settled := (s.setBar st).startRecordWrite.settle_keeps .service
  have write : (s.setBar st).startRecordWrite.recordWrite =
      some ⟨⟨(s.setBar st).bars, workEntries (s.setBar st).zones, true⟩, (s.setBar st).now + 10#32⟩ := rfl
  rw [kept.bars, kept.zones, kept.now] at write
  refine ⟨settled.bars.trans kept.bars, settled.recordWrite.trans write, ?_, settled.zones.trans kept.zones,
    settled.work.trans kept.work, fun parked unstaged => ?_⟩
  · exact (State.settle_queuesApart (w := .service) _ .rock (by decide)).trans (s.setBar_queuesApart st .rock (by decide))
  · have quiet : ((s.setBar st).startRecordWrite.winder .service).state.stages = false := by
      rw [State.setBar_parked st parked unstaged]
      show (s.winder .service).state.stages = false
      rw [parked]
      rfl
    have same : t = (s.setBar st).startRecordWrite := State.settle_quiet _ .service quiet
    rw [same, State.setBar_parked st parked unstaged]
    rfl

/-- Settles O37. -/
theorem barsAreSetAndCleared : Obligations.BarsAreSetAndCleared := by
  refine ⟨fun s h => ⟨fun n beyond a => ?_, fun n st station a => ⟨fun set => ?_, fun clear => ?_⟩,
    fun a => ⟨fun clear => ?_, fun set => ?_⟩⟩, fun s st => ?_, fun s w cause x running below active =>
      State.enterStopping_spec cause running below active⟩
  · refine State.answers_of_request rfl a ?_
    unfold takeBarStation
    rw [stationCode_of_not_lt (not_lt.mpr beyond)]
    rfl
  · refine State.answers_of_request rfl a ?_
    rw [takeBarStation_of station]
    exact if_pos (by rw [State.heard_bars]; exact set)
  · have answers : s.Answers (.barStation h n) h .barStation
        ((((s.heard h .barStation).setBar st).startRecordWrite).settle .service) (.done, .nothing) := by
      refine State.answers_of_request rfl a ?_
      rw [takeBarStation_of station]
      exact if_neg (by rw [State.heard_bars, clear]; exact Bool.false_ne_true)
    obtain ⟨bars, write, rock, zones, work, service⟩ := (s.heard h .barStation).setBar_settled st
    rw [State.heard_bars] at bars write
    rw [State.heard_zones, State.heard_now] at write
    rw [State.heard_queues] at rock service
    rw [State.heard_pipe, State.heard_winder] at service
    exact ⟨answers, answers.completes (by decide) ⟨bars, write, rock, zones.trans (s.heard_zones ..), work.trans (s.heard_work ..),
      fun parked unstaged => service (State.isIn_iff.mp parked) unstaged, List.getLast?_concat⟩⟩
  · exact State.answers_of_request rfl a (takeClearBars_clear ((s.heard_bars ..).trans clear))
  · have answers : s.Answers (.clearBars h) h .clearBars ((s.heard h .clearBars).barsCleared.settle .service) (.done, .nothing) :=
      State.answers_of_request rfl a (takeClearBars_set (by rw [State.heard_bars]; exact set))
    rw [State.heard_barsCleared] at answers
    refine ⟨answers, answers.completes (by decide) ?_⟩
    rw [← State.heard_barsCleared]
    obtain ⟨u, hu⟩ : ∃ u, u = (s.heard h .clearBars).barsCleared := ⟨_, rfl⟩
    rw [← hu]
    rw [State.heard_barsCleared] at hu
    have settled := u.settle_keeps .service
    have queues : u.queues = s.queues.set .service
        ((s.queues.get .service).map (fun c => if c.state = .heldBar then { c with state := .waiting } else c)) := by rw [hu]
    refine ⟨settled.bars.trans (by rw [hu]), settled.recordWrite.trans (by rw [hu]), ?_, settled.zones.trans ?_,
      settled.work.trans ?_, fun parked => ?_, List.getLast?_concat⟩
    · refine (u.settle_queuesApart (w := .service) .rock (by decide)).trans ?_
      rw [queues]
      rfl
    · rw [hu]
      exact s.heard_zones ..
    · rw [hu]
      exact s.heard_work ..
    · have winder : u.winder .service = s.winder .service := by
        rw [hu]
        exact s.heard_winder ..
      have quiet : (u.winder .service).state.stages = false := by
        rw [winder, State.isIn_iff.mp parked]
        rfl
      show (u.settle .service).queues.get .service = _
      rw [State.settle_quiet _ .service quiet, queues]
      rfl
  · intro held lands state u
    have staged : (s.barHeld st).barStaged st = u := rfl
    have set : s.setBar st = u.barActive st := rfl
    have winders : u.winders = s.winders := (s.barHeld st).barStaged_winders st
    have pipe : (u.pipe .service).active = (s.pipe .service).active := by
      show (((s.barHeld st).barStaged st).pipe .service).active = _
      unfold State.barStaged
      split
      · exact (State.withdrawStaged_slots _ .service .heldBar).2
      · rfl
    have landing : (u.pipe .service).active.any (·.landsAt st) = lands (s.pipe .service).active := by
      rw [pipe]
      rfl
    have winder : u.winder .service = s.winder .service := by
      unfold State.winder
      rw [winders]
    clear_value u
    rw [set]
    unfold State.barActive
    rw [landing, winder]
    refine ⟨fun off => if_neg (by rw [off]; exact Bool.false_ne_true), fun on => ?_⟩
    rw [if_pos on]
    refine ⟨fun e => ?_, fun e => ?_, fun e => ?_, fun running stopping settling dwelling => ?_⟩
    · have here : (s.winder .service).state = .running := e
      rw [here]
    · have here : (s.winder .service).state = .stopping := e
      rw [here, ← winders, ← winder]
      rfl
    · rcases e with e | e
      · have here : (s.winder .service).state = .settling := e
        rw [here]
      · have here : (s.winder .service).state = .dwelling := e
        rw [here]
    · split
      · next e => exact absurd e running
      · next e => exact absurd e stopping
      · next e => exact absurd e settling
      · next e => exact absurd e dwelling
      all_goals rfl

end Sys2Proof.Machine

/-! PROOFS. The planner (O38): when it runs, what it makes of a call, and the legs that it builds. -/

namespace Sys2Proof.Machine

/-! ## When the planner runs (R77) -/

theorem WinderState.stages_iff {st : WinderState} :
    st.stages = true ↔ st = .idle ∨ st = .running ∨ st = .settling ∨ st = .dwelling := by
  cases st <;> decide

theorem State.plannerRuns_iff {s : State} {w : Winder} :
    s.plannerRuns w = true ↔
      (s.winder w).mode = .automatic ∧ (s.pipe w).staged = none ∧ (s.winder w).holdPending = false ∧
      ((s.winder w).state = .idle ∨ (s.winder w).state = .running ∨ (s.winder w).state = .settling ∨
        (s.winder w).state = .dwelling) ∧
      (w = .rock → s.pairing ≠ .unpaired) := by
  have paired : (w == .service || s.pairing != .unpaired) = true ↔ (w = .rock → s.pairing ≠ .unpaired) := by
    cases w <;> simp
  unfold State.plannerRuns
  simp only [Bool.and_eq_true, beq_iff_eq, Option.isNone_iff_eq_none, not_true_iff, WinderState.stages_iff, paired, and_assoc]

theorem State.plan_of_not_runs {s : State} {w : Winder} (h : s.plannerRuns w = false) : s.plan w = s :=
  if_neg (by rw [h]; exact Bool.false_ne_true)

theorem State.plan_of_runs {s : State} {w : Winder} (h : s.plannerRuns w = true) :
    s.plan w = (s.planFrom w (s.queues.get w).length).readyStaged w := if_pos h

/-- With nothing staged there is nothing to ready. -/
theorem State.readyStaged_of_unstaged {s : State} {w : Winder} (h : (s.pipe w).staged = none) : s.readyStaged w = s := by
  cases w with
  | service => rfl
  | rock =>
    have same : { s.pipe .rock with staged := ((s.pipe .rock).staged.map s.readied) } = s.pipe .rock := by
      rw [h]
      show { s.pipe .rock with staged := none } = s.pipe .rock
      rw [← h]
    show s.withPipe .rock (fun p => { p with staged := p.staged.map s.readied }) = s
    unfold State.withPipe
    exact (congrArg (fun x => ({ s with pipes := s.pipes.set .rock x } : State)) same).trans
      (congrArg (fun x => ({ s with pipes := x } : State)) (s.pipes.set_get .rock))

/-! ## What validation makes of a call (R78) -/

theorem State.barred_iff {s : State} {work : CallWork} :
    s.barred work = true ↔ ∃ st k decks riders payload, work = .cage st k decks riders payload ∧ s.bars[st] = true := by
  cases work with
  | cage st k decks riders payload =>
    refine ⟨fun h => ⟨st, k, decks, riders, payload, rfl, h⟩, ?_⟩
    rintro ⟨_, _, _, _, _, same, barred⟩
    cases same
    exact barred
  | cycle k =>
    refine ⟨fun h => absurd h Bool.false_ne_true, ?_⟩
    rintro ⟨_, _, _, _, _, same, _⟩
    cases same

theorem State.validate_eq (s : State) (w : Winder) (c : Call) :
    s.validate w c =
      if s.barred c.work = true then .hold .heldBar
      else if s.pathCheck .work (s.stagedPaths (s.callLegs c.work)) overNone ≠ none then .hold .heldWork
      else
        match s.pathCheck .inspect (s.stagedPaths (s.callLegs c.work)) overNone with
        | some n => .remove (.refusedZone n)
        | none => if c.work.overRating = true then .remove .refusedLoad else .stage (s.callTrip w c) := by
  unfold State.validate
  dsimp only
  split
  · rfl
  · cases s.pathCheck .work (s.stagedPaths (s.callLegs c.work)) overNone with
    | none =>
      refine (if_neg Bool.false_ne_true).trans (Eq.trans ?_ (if_neg (not_not.mpr rfl)).symm)
      rfl
    | some n => exact (if_pos rfl).trans (if_pos (Option.some_ne_none n)).symm

/-! ## The run of the planner (R57, R64, R77) -/

/-- The state with the entry of an id in a held state. -/
def State.callHeld (s : State) (w : Winder) (id : Nat) (st : CallState) : State :=
  { s with queues := s.queues.set w ((s.queues.get w).map (fun x => if x.id = id then { x with state := st } else x)) }

/-- The state with the entry of an id removed to the ended-call list. -/
def State.callRemoved (s : State) (w : Winder) (id : Nat) (reason : EndReason) : State :=
  { s with
    queues := s.queues.set w ((s.queues.get w).filter (fun x => x.id != id))
    ended := s.ended.set w (addEnded (s.ended.get w) ⟨id, s.now, reason⟩) }

section Run

variable {s : State} {w : Winder} {c : Call}

/-- One entry of the planner's run. -/
theorem State.planFrom_entry (found : (s.queues.get w).find? (fun c => c.state == .waiting) = some c) (n : Nat) :
    s.planFrom w (n + 1) =
      match s.validate w c with
      | .hold st => (s.callHeld w c.id st).planFrom w n
      | .remove reason => (s.callRemoved w c.id reason).planFrom w n
      | .stage t => (s.withQueue w (fun q => dropCall q c.id)).stage w t := by
  rw [State.planFrom, found]
  rfl

theorem State.planFrom_nothing (h : ∀ c ∈ s.queues.get w, c.state ≠ .waiting) (n : Nat) : s.planFrom w n = s := by
  cases n with
  | zero => rfl
  | succ n =>
    have absent : (s.queues.get w).find? (fun c => c.state == .waiting) = none :=
      List.find?_eq_none.mpr fun c member => by simpa using h c member
    rw [State.planFrom, absent]

theorem State.length_of_found (found : (s.queues.get w).find? (fun c => c.state == .waiting) = some c) :
    ∃ n, (s.queues.get w).length = n + 1 :=
  Nat.exists_eq_succ_of_ne_zero fun empty => by
    rw [List.length_eq_zero_iff.mp empty] at found
    cases found

theorem State.callHeld_plannerRuns (id : Nat) (st : CallState) : (s.callHeld w id st).plannerRuns w = s.plannerRuns w := rfl
theorem State.callRemoved_plannerRuns (id : Nat) (r : EndReason) : (s.callRemoved w id r).plannerRuns w = s.plannerRuns w := rfl

theorem State.callHeld_queue (id : Nat) (st : CallState) :
    (s.callHeld w id st).queues.get w = holdCall (s.queues.get w) id st := PerWinder.get_set_self ..

theorem State.callRemoved_queue (id : Nat) (r : EndReason) :
    (s.callRemoved w id r).queues.get w = dropCall (s.queues.get w) id := PerWinder.get_set_self ..

/-- A run may start again at the next entry: it makes no difference how many entries it is given. -/
theorem State.plan_restart {t : State} (runs : s.plannerRuns w = true) (same : t.plannerRuns w = s.plannerRuns w) {n : Nat}
    (length : (s.queues.get w).length = n + 1) (step : s.planFrom w (n + 1) = t.planFrom w n)
    (less : t.waiting w < s.waiting w) : s.plan w = t.plan w := by
  have most := s.waiting_le w
  have enough : t.waiting w ≤ n := by omega
  rw [State.plan_of_runs runs, State.plan_of_runs (same.trans runs), length, step, t.planFrom_any w enough (t.waiting_le w)]

theorem State.plan_hold {st : CallState} (runs : s.plannerRuns w = true)
    (found : (s.queues.get w).find? (fun c => c.state == .waiting) = some c) (verdict : s.validate w c = .hold st) :
    s.plan w = (s.callHeld w c.id st).plan w := by
  obtain ⟨n, length⟩ := State.length_of_found found
  have waits : c.state = .waiting := beq_iff_eq.mp (List.find?_some found :)
  refine State.plan_restart runs rfl length ?_ ?_
  · rw [State.planFrom_entry found, verdict]
  · unfold State.waiting
    rw [State.callHeld_queue]
    exact holdCall_waiting _ c st (State.validate_hold verdict) (List.mem_of_find?_eq_some found) waits

theorem State.plan_remove {reason : EndReason} (runs : s.plannerRuns w = true)
    (found : (s.queues.get w).find? (fun c => c.state == .waiting) = some c) (verdict : s.validate w c = .remove reason) :
    s.plan w = (s.callRemoved w c.id reason).plan w := by
  obtain ⟨n, length⟩ := State.length_of_found found
  have waits : c.state = .waiting := beq_iff_eq.mp (List.find?_some found :)
  refine State.plan_restart runs rfl length ?_ ?_
  · rw [State.planFrom_entry found, verdict]
  · unfold State.waiting
    rw [State.callRemoved_queue]
    exact dropCall_waiting _ c (List.mem_of_find?_eq_some found) waits

theorem State.plan_stage {t : Trip} (runs : s.plannerRuns w = true)
    (found : (s.queues.get w).find? (fun c => c.state == .waiting) = some c) (verdict : s.validate w c = .stage t) :
    s.plan w = ((s.withQueue w (fun q => dropCall q c.id)).stage w t).readyStaged w := by
  obtain ⟨n, length⟩ := State.length_of_found found
  rw [State.plan_of_runs runs, length, State.planFrom_entry found, verdict]

theorem State.plan_nothing (h : ∀ c ∈ s.queues.get w, c.state ≠ .waiting) : s.plan w = s := by
  cases runs : s.plannerRuns w with
  | false => exact State.plan_of_not_runs runs
  | true =>
    obtain ⟨-, unstaged, -⟩ := State.plannerRuns_iff.mp runs
    rw [State.plan_of_runs runs, State.planFrom_nothing h, State.readyStaged_of_unstaged unstaged]

/-- Readying the staged trip changes its ready flag alone (R82, R133). -/
theorem State.readyStaged_slots (s : State) (w : Winder) {t : Trip} (h : (s.pipe w).staged = some t) :
    ((s.readyStaged w).pipe w).lastTrip = (s.pipe w).lastTrip ∧
      ((s.readyStaged w).pipe w).staged = some (if w = .rock then s.readied t else t) := by
  cases w with
  | service => exact ⟨rfl, h⟩
  | rock =>
    refine ⟨rfl, ?_⟩
    show (s.pipe .rock).staged.map s.readied = _
    rw [h]
    rfl

theorem State.stage_staged (s : State) (w : Winder) (t : Trip) :
    (s.stage w t).pipe w = { s.pipe w with staged := some t, lastTrip := t.number } := State.withPipe_pipe_self ..

end Run

theorem tripAfter_eq (n : Nat) : tripAfter n = if 65535 ≤ n then 1 else n + 1 := rfl

/-- The rising skip of a cycle's trip is the one that the call names (R80). -/
theorem State.callTrip_rising {s : State} {w : Winder} {c : Call} {k : Skip} {p : Pocket} (work : c.work = .cycle k)
    (paired : s.pairing = .paired p) : (s.callTrip w c).isRockCycle = true ∧ (s.callTrip w c).granted = false ∧
      (s.callTrip w c).rising = some k := by
  have legs : s.callLegs c.work = [s.cycleLeg k p] := by
    rw [work]
    unfold State.callLegs State.cycleLegs
    dsimp only
    rw [paired]
    rfl
  have kind : (s.callTrip w c).kind = .rockCycle := by
    unfold State.callTrip
    rw [work]
    rfl
  refine ⟨?_, rfl, ?_⟩
  · unfold Trip.isRockCycle
    rw [kind]
    rfl
  · unfold Trip.rising Trip.leg
    show ((s.callLegs c.work)[1 - 1]?.bind _) = _
    rw [legs]
    cases k <;> rfl

/-- The ready flag of a cycle just staged (R133). -/
theorem State.readied_callTrip {s t : State} {w : Winder} {c : Call} {k : Skip} {p : Pocket} (work : c.work = .cycle k)
    (paired : s.pairing = .paired p) (ready : (t.rockReady k && !t.cycleActive) = (s.rockReady k && !s.cycleActive)) :
    (t.readied (s.callTrip w c)).ready = true ↔ s.ReadyToRise k := by
  obtain ⟨cycle, ungranted, rising⟩ := State.callTrip_rising (w := w) work paired
  rw [← State.readyToRise_iff, ← ready]
  unfold State.readied
  rw [cycle, ungranted, rising]
  rfl

/-! ## The legs of a cage trip (R4, R5, R79, R80) -/

/-- The place of a deck below the highest (R4). -/
def Deck.index : Deck → Int
  | .upper => 0
  | .middle => 1
  | .lower => 2

theorem State.cageTarget_eq (s : State) (depth : Int) (d : Deck) :
    s.cageTarget depth d = depth - Sys2Proof.Machine.Deck.index d * (s.work.pitch : Int) := by
  cases d <;> rfl

theorem approachDownward_iff {origin least greatest : Int} :
    approachDownward origin least greatest = true ↔
      origin < least ∨ (origin ≤ greatest ∧ origin - least ≤ greatest - origin) := by
  unfold approachDownward
  split
  · next below => simp [below]
  · next below =>
    split
    · next above => simp [below, above]
    · next above => simp [below, not_lt.mp above]

theorem State.activeTarget_cage {s : State} {x : Int} :
    s.activeTarget .cage = some x ↔
      ∃ t l, (s.pipe .service).active = some t ∧ t.legs.getLast? = some l ∧ l.target .cage = some x := by
  unfold State.activeTarget
  simp only [Option.bind_eq_some_iff, ownerOf]
  exact ⟨fun ⟨l, ⟨t, a, b⟩, c⟩ => ⟨t, l, a, b, c⟩, fun ⟨t, l, a, b, c⟩ => ⟨l, ⟨t, a, b⟩, c⟩⟩

/-- A first leg is of zero length where its cage stands in the window already (R80). -/
theorem State.zeroLength_iff {s : State} {target : Int} {window : Nat} :
    s.zeroLength target window = true ↔
      ((∃ t l x, (s.pipe .service).active = some t ∧ t.legs.getLast? = some l ∧ l.target .cage = some x) ∧
        (s.planOrigin .cage - target).natAbs ≤ window) ∨
      (¬(∃ t l x, (s.pipe .service).active = some t ∧ t.legs.getLast? = some l ∧ l.target .cage = some x) ∧
        ∃ e, (s.position .cage).estimate = some e ∧ target - window ≤ e - (s.position .cage).band ∧
          e + (s.position .cage).band ≤ target + window) := by
  have moved : (∃ t l x, (s.pipe .service).active = some t ∧ t.legs.getLast? = some l ∧ l.target .cage = some x) ↔
      ∃ x, s.activeTarget .cage = some x := by
    simp only [State.activeTarget_cage]
    exact ⟨fun ⟨t, l, x, h⟩ => ⟨x, t, l, h⟩, fun ⟨x, t, l, h⟩ => ⟨t, l, x, h⟩⟩
  rw [moved]
  unfold State.zeroLength State.planOrigin
  cases s.activeTarget .cage with
  | some x => simp
  | none =>
    unfold Position.inWindow Position.interval
    cases (s.position .cage).estimate <;> simp [Interval.within, around]

theorem getLastD_map {α : Type} {f : α → Int} {l : List α} {a : α} (h : l.getLast? = some a) : (l.map f).getLastD 0 = f a := by
  rw [List.getLastD_eq_getLast?, List.getLast?_map, h]
  rfl

theorem headD_map {α : Type} {f : α → Int} {l : List α} {a : α} (h : l.head? = some a) : (l.map f).headD 0 = f a := by
  rw [List.headD_eq_head?_getD, List.head?_map, h]
  rfl

/-- The legs of a cage trip, given the order in which its decks land (R79, R80). -/
theorem State.cageLegs_of {s : State} {st : Station} {decks : List Deck} {highest lowest : Deck} (k : Class)
    (top : decks.head? = some highest) (bottom : decks.getLast? = some lowest) {nearest : Deck} {later : List Deck}
    {approach : Direction}
    (down : approachDownward (s.planOrigin .cage) (s.cageTarget st.landing lowest) (s.cageTarget st.landing highest) = true →
      nearest :: later = decks.reverse ∧ approach = .descending)
    (up : ¬approachDownward (s.planOrigin .cage) (s.cageTarget st.landing lowest) (s.cageTarget st.landing highest) = true →
      nearest :: later = decks ∧ approach = .ascending) :
    s.cageLegs st decks k =
      (if s.zeroLength (s.cageTarget st.landing nearest) st.window then s.cageLeg st nearest .creep approach
       else s.cageLeg st nearest k (directionTo (s.planOrigin .cage) (s.cageTarget st.landing nearest) approach)) ::
        later.map (fun d => s.cageLeg st d k approach) := by
  unfold State.cageLegs
  dsimp only
  rw [getLastD_map bottom, headD_map top]
  by_cases h : approachDownward (s.planOrigin .cage) (s.cageTarget st.landing lowest) (s.cageTarget st.landing highest) = true
  · obtain ⟨order, rfl⟩ := down h
    rw [h, if_pos rfl, if_pos rfl, ← order]
  · obtain ⟨order, rfl⟩ := up h
    rw [if_neg h, if_neg h, ← order]

theorem State.cycleLegs_paired {s : State} {p : Pocket} (h : s.pairing = .paired p) (k : Skip) : s.cycleLegs k = [s.cycleLeg k p] := by
  unfold State.cycleLegs
  rw [h]
  rfl

theorem State.cycleLeg_eq (s : State) (k : Skip) (p : Pocket) :
    s.cycleLeg k p =
      ⟨[⟨k.conveyance, s.work.rockPoints.tip.depth, some s.work.rockPoints.tip.window⟩,
        ⟨k.other.conveyance, (s.work.rockPoints.get p.point).depth, some (s.work.rockPoints.get p.point).window⟩],
        k.conveyance, none, .rock, .ascending, 0, .pending⟩ := by
  have low : s.pairSpan p - s.work.rockPoints.tip.depth = (s.work.rockPoints.get p.point).depth := add_sub_cancel_left ..
  unfold State.cycleLeg
  dsimp only
  rw [low]

theorem CallWork.cage_overRating {st : Fin 16} {k : Class} {decks : List Deck} {riders : Option (List Nat)} {payload : Option Nat} :
    (CallWork.cage st k decks riders payload).overRating = true ↔
      (∃ l n, riders = some l ∧ n ∈ l ∧ 60 < n) ∨ (∃ mass, payload = some mass ∧ 12000 < mass) := by
  have deck : Config.deckRating = 60 := rfl
  have cage : Config.cageRating = 12000 := rfl
  unfold CallWork.overRating
  rw [deck, cage]
  cases riders <;> cases payload <;> simp

theorem State.planOrigin_of_target {s : State} {c : Conveyance} {t : Trip} {l : Leg} {x : Int}
    (active : (s.pipe (ownerOf c)).active = some t) (leg : t.legs.getLast? = some l) (target : l.target c = some x) :
    s.planOrigin c = x := by
  unfold State.planOrigin State.activeTarget
  rw [active, Option.bind_some, leg, Option.bind_some, target]
  rfl

theorem State.planOrigin_of_estimate {s : State} {c : Conveyance} {e : Int}
    (unmoved : ∀ t l, (s.pipe (ownerOf c)).active = some t → t.legs.getLast? = some l → l.target c = none)
    (estimate : (s.position c).estimate = some e) : s.planOrigin c = e := by
  have absent : s.activeTarget c = none := by
    unfold State.activeTarget
    cases active : (s.pipe (ownerOf c)).active with
    | none => rfl
    | some t =>
      rw [Option.bind_some]
      cases leg : t.legs.getLast? with
      | none => rfl
      | some l => exact unmoved t l active leg
  unfold State.planOrigin State.estimateOrigin
  rw [absent, estimate]
  rfl

theorem State.mem_stagedPaths {s : State} {legs : List Leg} {p : Path} :
    p ∈ s.stagedPaths legs ↔ ∃ c, (∃ l ∈ legs, c ∈ l.conveyances) ∧
      p = s.path c (s.planOrigin c) (legs.filterMap (fun l => l.target c)) := by
  unfold State.stagedPaths movedBy targetsIn
  simp only [List.mem_map, List.mem_dedup, List.mem_flatMap, eq_comm]

theorem directionTo_spec {origin target : Int} (tie : Direction) :
    (origin < target → directionTo origin target tie = .descending) ∧
      (target < origin → directionTo origin target tie = .ascending) := by
  unfold directionTo
  exact ⟨fun below => if_pos below, fun above => (if_neg (not_lt.mpr above.le)).trans (if_pos above)⟩

/-- Settles O38. -/
theorem thePlannerStagesTheFirstWaitingCall : Obligations.ThePlannerStagesTheFirstWaitingCall := by
  refine ⟨fun s w => ⟨State.plannerRuns_iff, State.plan_of_not_runs, fun work => State.barred_iff, fun _ _ => rfl,
      fun c work same => same ▸ s.validate_eq w c, fun c t runs found verdict => ?_, fun _ idle => State.plan_nothing idle,
      fun c runs found => ⟨fun st verdict => State.plan_hold runs found verdict,
        fun reason verdict => State.plan_remove runs found verdict⟩⟩,
    fun s w c => ⟨fun st k decks riders payload work => ?_, fun k work => ?_⟩,
    fun s st decks k depth highest lowest landing _ top bottom => ?_,
    fun s k p paired => ?_,
    fun s c => ⟨fun t l x active leg target => State.planOrigin_of_target active leg target,
      fun unmoved e estimate => State.planOrigin_of_estimate unmoved estimate⟩,
    fun s legs p => State.mem_stagedPaths⟩
  · obtain rfl := State.validate_stage verdict
    have plan := State.plan_stage runs found verdict
    obtain ⟨u, hu⟩ : ∃ u, u = (s.withQueue w (fun q => dropCall q c.id)).stage w (s.callTrip w c) := ⟨_, rfl⟩
    rw [← hu] at plan
    have slot : (u.pipe w).staged = some (s.callTrip w c) ∧ (u.pipe w).lastTrip = (s.callTrip w c).number := by
      rw [hu, State.stage_staged]
      exact ⟨rfl, rfl⟩
    obtain ⟨last, staged⟩ := u.readyStaged_slots w slot.1
    refine ⟨rfl, rfl, rfl, ?_, ⟨if w = .rock then u.readied (s.callTrip w c) else s.callTrip w c, ?_, ?_, ?_, ?_⟩, ?_⟩
    · rw [plan, last]
      exact slot.2
    · rw [plan]
      exact staged
    · split
      · exact u.readied_eq _
      · rfl
    · rintro rfl
      rfl
    · rintro k rfl work
      obtain ⟨-, -, -, -, paired⟩ := State.plannerRuns_iff.mp runs
      obtain ⟨p, pairing⟩ : ∃ p, s.pairing = .paired p := by
        cases e : s.pairing with
        | paired p => exact ⟨p, rfl⟩
        | unpaired => exact absurd e (paired rfl)
      rw [if_pos rfl]
      exact State.readied_callTrip work pairing (by rw [hu]; rfl)
    · rw [plan, State.readyStaged_queues, hu]
      rfl
  · refine ⟨?_, ?_, ?_⟩
    · rw [work]
      rfl
    · rw [work]
      exact CallWork.cage_overRating
    · unfold State.callTrip
      rw [work]
      rfl
  · refine ⟨?_, ?_, ?_⟩
    · rw [work]
      rfl
    · rw [work]
      rfl
    · unfold State.callTrip
      rw [work]
      rfl
  · intro index target other origin down leg moved standsIn nearest later approach descending ascending
    have land : st.landing = depth := by
      unfold Station.landing
      rw [landing]
      rfl
    have targets (d : Deck) : s.cageTarget st.landing d = target d := by
      rw [land]
      cases d <;> rfl
    have legs (d : Deck) (cls : Class) (dir : Direction) : s.cageLeg st d cls dir = leg d cls dir := by
      unfold State.cageLeg
      dsimp only
      rw [targets]
      rfl
    have downward : approachDownward (s.planOrigin .cage) (s.cageTarget st.landing lowest) (s.cageTarget st.landing highest) = true ↔
        down := by
      rw [targets, targets]
      exact approachDownward_iff
    have zero (d : Deck) : s.zeroLength (s.cageTarget st.landing d) st.window = true ↔ standsIn d := by
      rw [targets]
      exact State.zeroLength_iff
    have built := State.cageLegs_of k top bottom (fun h => descending (downward.mp h)) (fun h => ascending (mt downward.mpr h))
    simp only [legs] at built
    refine ⟨_, built, fun stands => if_pos ((zero nearest).mpr stands), fun away => ?_⟩
    rw [if_neg (mt (zero nearest).mp away), targets]
    exact ⟨rfl, (directionTo_spec approach).1, (directionTo_spec approach).2⟩
  · intro tip low
    rw [State.cycleLegs_paired paired, State.cycleLeg_eq]

end Sys2Proof.Machine

/-! PROOFS. READY, the end of a back-off, and the offer that ends an event (O39). -/

namespace Sys2Proof.Machine

/-! ## READY (R81, R126) -/

theorem takeReady_staged {u : State} {t : Trip} {trip leg : Nat} (staged : (u.pipe .service).staged = some t)
    (named : t.number = trip) : takeReady trip leg u = readyStagedTrip leg u := by
  unfold takeReady
  rw [staged, Option.filter_some, if_pos (beq_iff_eq.mpr named)]

theorem Option.filter_eq_none_of_number {o : Option Trip} {trip : Nat} (other : ∀ t, o = some t → t.number ≠ trip) :
    o.filter (fun t => t.number == trip) = none :=
  Option.filter_eq_none_iff.mpr fun t e => by
    rw [beq_iff_eq]
    exact other t e

theorem takeReady_active {u : State} {t : Trip} {trip leg : Nat}
    (other : ∀ t, (u.pipe .service).staged = some t → t.number ≠ trip) (active : (u.pipe .service).active = some t)
    (named : t.number = trip) : takeReady trip leg u = readyActive t leg u := by
  unfold takeReady
  rw [Option.filter_eq_none_of_number other, active, Option.filter_some, if_pos (beq_iff_eq.mpr named)]

theorem takeReady_unknown {u : State} {trip leg : Nat} (staged : ∀ t, (u.pipe .service).staged = some t → t.number ≠ trip)
    (active : ∀ t, (u.pipe .service).active = some t → t.number ≠ trip) :
    takeReady trip leg u = (u, refuse .noSuchTrip) := by
  unfold takeReady
  rw [Option.filter_eq_none_of_number staged, Option.filter_eq_none_of_number active]

theorem readyStagedTrip_wrongLeg {u : State} {leg : Nat} (wrong : leg ≠ 1) : readyStagedTrip leg u = (u, refuse .wrongLeg) :=
  if_pos wrong

theorem readyStagedTrip_busy {u : State} (busy : (u.pipe .service).active ≠ none) :
    readyStagedTrip 1 u = (u, refuse .notAtRest) :=
  (if_neg (not_not_intro rfl)).trans (if_pos (Option.isSome_iff_ne_none.mpr busy))

theorem readyStagedTrip_taken {u : State} {t : Trip} {pipes : PerWinder Pipe} (same : u.pipes = pipes)
    (rest : (u.pipe .service).active = none) (staged : (u.pipe .service).staged = some t) :
    readyStagedTrip 1 u =
      (({ u with
          pipes := pipes.set .service { pipes.get .service with staged := some { t with ready := true } } } : State).settle
        .service, done) := by
  subst same
  have marked : (u.pipe .service).staged.map (fun t => { t with ready := true }) = some { t with ready := true } :=
    congrArg (Option.map _) staged
  unfold readyStagedTrip
  rw [if_neg (not_not_intro rfl), if_neg (by rw [rest]; decide), ← marked]
  rfl

theorem readyActive_moving {u : State} {t : Trip} {leg : Nat} (moving : (u.winder .service).state ≠ .dwelling) :
    readyActive t leg u = (u, refuse .notAtRest) := by
  unfold readyActive
  split
  · next dwelling => exact absurd dwelling moving
  all_goals rfl

theorem readyActive_dwelling {u : State} {t : Trip} {leg : Nat} (dwelling : (u.winder .service).state = .dwelling) :
    readyActive t leg u =
      if leg = t.current then
        (if (u.pipe .service).offer.isSome then u else (u.offerLeg .service).settle .service, done)
      else (u, refuse .wrongLeg) := by
  unfold readyActive
  rw [dwelling]

theorem readyActive_wrongLeg {u : State} {t : Trip} {leg : Nat} (dwelling : (u.winder .service).state = .dwelling)
    (wrong : leg ≠ t.current) : readyActive t leg u = (u, refuse .wrongLeg) :=
  (readyActive_dwelling dwelling).trans (if_neg wrong)

theorem readyActive_offered {u : State} {t : Trip} (dwelling : (u.winder .service).state = .dwelling)
    (offered : (u.pipe .service).offer ≠ none) : readyActive t t.current u = (u, done) := by
  rw [readyActive_dwelling dwelling, if_pos rfl, if_pos (Option.isSome_iff_ne_none.mpr offered)]

theorem readyActive_taken {u : State} {t : Trip} (dwelling : (u.winder .service).state = .dwelling)
    (unoffered : (u.pipe .service).offer = none) :
    readyActive t t.current u = ((u.offerLeg .service).settle .service, done) := by
  rw [readyActive_dwelling dwelling, if_pos rfl, if_neg (by rw [unoffered]; decide)]

/-! ## The end of a back-off (R85) -/

theorem execBackoffEnd_due {s : State} {w : Winder} (due : s.begin.backoffDue w = true) :
    exec (.backoffEnd w) s = .next ((s.begin.offerLeg w).settle w) :=
  congrArg (fun t : State => Host.Outcome.next (t.settle w)) (if_pos due)

theorem execBackoffEnd_early {s : State} {w : Winder} (early : ¬ s.begin.backoffDue w = true) :
    exec (.backoffEnd w) s = .next (s.begin.settle w) :=
  congrArg (fun t : State => Host.Outcome.next (t.settle w)) (if_neg early)

theorem State.backoffDue_of {s : State} {w : Winder} {e : Time} (waits : (s.pipe w).offer = some (.backoff e)) :
    s.backoffDue w = true ↔ reached s.now e = true := by
  rw [State.backoffDue_iff]
  constructor
  · rintro ⟨x, found, due⟩
    rw [waits] at found
    obtain ⟨rfl⟩ := found
    exact due
  · exact fun due => ⟨e, waits, due⟩

/-! ## The offer that ends an event (R83, R88) -/

theorem Leg.isCoupled_iff {l : Leg} : l.isCoupled = true ↔ .skip0 ∈ l.conveyances ∧ .skip1 ∈ l.conveyances := by
  unfold Leg.isCoupled
  rw [Bool.and_eq_true, List.contains_iff_mem, List.contains_iff_mem]

theorem State.uncouples_iff {s : State} {l : Leg} :
    s.uncouples l = true ↔ l.isCoupled = true ∧ s.pairing = .unpaired := by
  unfold State.uncouples
  rw [Bool.and_eq_true, beq_iff_eq]

theorem State.canOffer_iff {s : State} {w : Winder} :
    s.canOffer w = true ↔
      ∃ t, (s.pipe w).staged = some t ∧ t.ready = true ∧ (s.pipe w).active = none ∧ (s.winder w).state = .idle ∧
        (s.monitor w).running = true ∧ (s.winder w).holdPending = false ∧ (s.pipe w).offer = none ∧
        ∀ l, t.leg = some l → .skip0 ∈ l.conveyances → .skip1 ∈ l.conveyances → s.pairing ≠ .unpaired := by
  unfold State.canOffer
  cases (s.pipe w).staged with
  | none => simp
  | some t =>
    have coupled : (!t.leg.any s.uncouples) = true ↔
        ∀ l, t.leg = some l → .skip0 ∈ l.conveyances → .skip1 ∈ l.conveyances → s.pairing ≠ .unpaired := by
      rw [Bool.not_eq_true', Option.any_eq_false]
      refine forall_congr' fun l => forall_congr' fun _ => ?_
      rw [← Bool.not_eq_true, State.uncouples_iff, Leg.isCoupled_iff]
      exact ⟨fun none upper lower unpaired => none ⟨⟨upper, lower⟩, unpaired⟩, fun all ⟨⟨upper, lower⟩, unpaired⟩ =>
        all upper lower unpaired⟩
    simp only [Bool.and_eq_true, coupled, Option.isNone_iff_eq_none, State.isIn_iff, Bool.not_eq_true', Option.some.injEq,
      exists_eq_left', and_assoc]

/-- One turn of the planner and the offer, with the turns that follow where the offer has emptied the staged slot. -/
theorem State.settle_turn (s : State) (w : Winder) :
    s.settle w =
      if (((s.plan w).tryOffer w).pipe w).staged.isNone && (s.plan w).canOffer w then
        ((s.plan w).tryOffer w).settleFrom w ((s.queues.get w).length + 1)
      else (s.plan w).tryOffer w :=
  s.settleFrom_succ w _

theorem State.settle_of_no_offer {s : State} {w : Winder} (none : (s.plan w).canOffer w = false) : s.settle w = s.plan w := by
  have tried : (s.plan w).tryOffer w = s.plan w := if_neg (by rw [none]; decide)
  rw [State.settle_turn, none, Bool.and_false, if_neg (by decide), tried]

theorem State.settle_of_offer {s : State} {w : Winder} (offers : (s.plan w).canOffer w = true)
    (kept : (((s.plan w).offerLeg w).pipe w).staged ≠ none) : s.settle w = (s.plan w).offerLeg w := by
  have tried : (s.plan w).tryOffer w = (s.plan w).offerLeg w := if_pos offers
  rw [State.settle_turn, tried, if_neg]
  rw [Bool.and_eq_true, Option.isNone_iff_eq_none]
  exact fun both => kept both.1

/-- An offer that empties the staged slot leaves fewer turns than the event began with, so that the work goes on as at
the end of an event of its own. -/
theorem State.settle_of_emptied {s : State} {w : Winder} (offers : (s.plan w).canOffer w = true)
    (emptied : (((s.plan w).offerLeg w).pipe w).staged = none) : s.settle w = ((s.plan w).offerLeg w).settle w := by
  have tried : (s.plan w).tryOffer w = (s.plan w).offerLeg w := if_pos offers
  have fewer := s.turns_drop w offers emptied
  have bound := s.turns_le w
  rw [State.settle_turn, tried, emptied, offers, if_pos (by decide)]
  exact State.settleFrom_any _ w (by omega) (State.turns_le _ w)

/-- Settles O39. -/
theorem readyLeadsToOffers : Obligations.ReadyLeadsToOffers := by
  refine ⟨fun s h trip leg a => ?_,
    fun s w e waits => ⟨fun due => execBackoffEnd_due ((State.backoffDue_of waits).mpr due),
      fun early => execBackoffEnd_early (mt (State.backoffDue_of waits).mp (by rw [early]; decide))⟩,
    fun s w => State.canOffer_iff, fun s w => ⟨State.settle_of_no_offer, State.settle_of_offer, State.settle_of_emptied⟩⟩
  have pipe : (s.heard h .ready).pipe .service = s.pipe .service := s.heard_pipe ..
  have state : ((s.heard h .ready).winder .service).state = (s.winder .service).state := congrArg _ (s.heard_winder ..)
  intro cmd p
  refine ⟨fun t staged named => ?_, fun other => ⟨fun t active named => ?_, fun unknown => ?_⟩⟩
  · have found := takeReady_staged (leg := leg) ((congrArg Pipe.staged pipe).trans staged) named
    refine ⟨fun wrong => ?_, ?_, ?_⟩
    · exact State.answers_of_request rfl a (found.trans (readyStagedTrip_wrongLeg wrong))
    · rintro rfl busy
      exact State.answers_of_request rfl a (found.trans (readyStagedTrip_busy (pipe ▸ busy)))
    · rintro rfl rest
      exact State.answers_of_request rfl a (found.trans (readyStagedTrip_taken (s.heard_pipes ..)
        ((congrArg Pipe.active pipe).trans rest) ((congrArg Pipe.staged pipe).trans staged)))
  · have found := takeReady_active (leg := leg) (pipe ▸ other) ((congrArg Pipe.active pipe).trans active) named
    refine ⟨fun moving => ?_, fun dwelling wrong => ?_, ?_, ?_⟩
    · exact State.answers_of_request rfl a (found.trans (readyActive_moving (state ▸ moving)))
    · exact State.answers_of_request rfl a (found.trans (readyActive_wrongLeg (state.trans dwelling) wrong))
    · rintro dwelling rfl offered
      exact State.answers_of_request rfl a (found.trans (readyActive_offered (state.trans dwelling) (pipe ▸ offered)))
    · rintro dwelling rfl unoffered
      exact State.answers_of_request rfl a
        (found.trans (readyActive_taken (state.trans dwelling) ((congrArg Pipe.offer pipe).trans unoffered)))
  · exact State.answers_of_request rfl a (takeReady_unknown (pipe ▸ other) (pipe ▸ unknown))

end Sys2Proof.Machine

/-! PROOFS. Offers: the path check, the payload check and GRANT (O40). -/

namespace Sys2Proof.Machine

/-! ## GRANT (R83) -/

theorem Pipe.onOffer_of_inactive {p : Pipe} {t : Trip} (offered : p.onOffer = some t) (inactive : p.active = none) :
    p.staged = some t := by
  unfold Pipe.onOffer at offered
  rw [inactive] at offered
  exact offered

theorem Pipe.onOffer_of_active {p : Pipe} {t : Trip} (offered : p.onOffer = some t) (active : p.active ≠ none) :
    p.active = some t := by
  obtain ⟨a, ha⟩ := Option.ne_none_iff_exists'.mp active
  unfold Pipe.onOffer at offered
  rw [ha] at offered ⊢
  exact offered

theorem Pipe.onOffer_withOffered {p : Pipe} {t : Trip} (offered : p.onOffer = some t) (f : Trip → Trip) (o : Option Offer) :
    ({ p.withOffered f with offer := o } : Pipe).onOffer = some (f t) := by
  unfold Pipe.onOffer at offered
  unfold Pipe.withOffered Pipe.onOffer
  cases active : p.active with
  | some a =>
    rw [active] at offered
    exact congrArg (Option.map f) offered
  | none =>
    rw [active] at offered
    exact congrArg (Option.map f) offered

theorem Trip.withLeg_leg {t : Trip} {l : Leg} (leg : t.leg = some l) (f : Leg → Leg) : (t.withLeg f).leg = some (f l) := by
  unfold Trip.leg at leg
  unfold Trip.withLeg Trip.leg
  rw [List.getElem?_modify, leg]
  exact congrArg some (if_pos rfl)

theorem State.sendGrant_spec {s : State} {w : Winder} {t : Trip} {l : Leg} (offered : (s.pipe w).onOffer = some t)
    (leg : t.leg = some l) :
    let u := s.sendGrant w t l
    let tag := (s.drives.get w).tagCount
    let c := s.work.classes.get l.cls
    (u.pipe w).offer = some (.awaiting tag (s.now + 500#32)) ∧
    (∃ x, (u.pipe w).onOffer = some x ∧ x.granted = true ∧ x.leg = some { l with state := .offered } ∧
      x.number = t.number ∧ x.current = t.current ∧ x.offerCount = t.offerCount) ∧
    u.sent = s.sent ++ [.order w tag (.grant t.number t.current c.maxSpeed c.decel (s.grantDrums w l))] ∧
    u.winders = s.winders ∧ u.positions = s.positions ∧ u.queues = s.queues ∧ u.faults = s.faults := by
  have pipe : (s.sendGrant w t l).pipe w =
      { (s.pipe w).withOffered (fun t => { t.withLeg (fun l => { l with state := .offered }) with granted := true }) with
        offer := some (.awaiting (s.nextTag w) (ahead s.now 500)) } := PerWinder.get_set_self ..
  refine ⟨by rw [pipe]; rfl, ⟨{ t.withLeg (fun l => { l with state := .offered }) with granted := true }, ?_, rfl, ?_, rfl, rfl, rfl⟩,
    rfl, rfl, rfl, rfl, rfl⟩
  · rw [pipe]
    exact Pipe.onOffer_withOffered offered _ _
  · exact Trip.withLeg_leg leg _

theorem State.sendGrant_skips (s : State) (w : Winder) (t : Trip) (l : Leg) : (s.sendGrant w t l).skips = s.skips := rfl

/-! ## A WORK zone on the path (R83, R90, R139) -/

theorem State.failOffer_staged {s : State} {w : Winder} (inactive : (s.pipe w).active = none) (o : TripOutcome) :
    s.failOffer w o = s.discardStaged w o := if_pos (Option.isNone_iff_eq_none.mpr inactive)

theorem State.failOffer_active {s : State} {w : Winder} (active : (s.pipe w).active ≠ none) (o : TripOutcome) :
    s.failOffer w o = if s.freeOffer w then s.endFreeOffer o else s.endAndPark w o :=
  if_neg (mt Option.isNone_iff_eq_none.mp active)

theorem State.freeOffer_iff {s : State} {w : Winder} {t : Trip} (active : (s.pipe w).active = some t) :
    s.freeOffer w = true ↔ (s.winder w).state = .clutching ∧ t.kind = .rePair := by
  unfold State.freeOffer
  rw [Bool.and_eq_true, State.isIn_iff, active, Option.any_some, beq_iff_eq]

theorem State.endFreeOffer_eq (s : State) (o : TripOutcome) :
    s.endFreeOffer o =
      { s with
        pipes := s.pipes.set .rock { s.pipe .rock with offer := none }
        repair := s.repair.map (fun r => { r with offerEnd := some o })
        clutchTimer := some (s.clutchTimer.getD (s.now + 20000#32)) } := by
  have timer : (s.clutchTimer.orElse fun _ => some (ahead s.now 20000)) = some (s.clutchTimer.getD (s.now + 20000#32)) := by
    cases s.clutchTimer <;> rfl
  rw [← timer]
  rfl

theorem State.stopOffer_staged {s : State} {w : Winder} (inactive : (s.pipe w).active = none) :
    s.stopOffer w = s.withdrawStaged w .heldWork := if_pos (Option.isNone_iff_eq_none.mpr inactive)

theorem State.stopOffer_active {s : State} {w : Winder} (active : (s.pipe w).active ≠ none) :
    s.stopOffer w = s.failOffer w .stopped := if_neg (mt Option.isNone_iff_eq_none.mp active)

theorem State.withdrawStaged_offer {s : State} {w : Winder} {t : Trip} (staged : (s.pipe w).staged = some t)
    (inactive : (s.pipe w).active = none) (st : CallState) : ((s.withdrawStaged w st).pipe w).offer = none := by
  cases source : t.source with
  | some c =>
    rw [State.withdrawStaged_of_source staged source, State.returnCall_pipe]
    exact (congrArg Pipe.offer (PerWinder.get_set_self ..)).trans (if_pos inactive)
  | none =>
    have unsourced : ∀ x, (s.pipe w).staged = some x → x.source = none := fun x found => by
      rw [staged] at found
      obtain ⟨rfl⟩ := found
      exact source
    rw [State.withdrawStaged_of_no_source unsourced, State.discardStaged_of staged]
    exact (congrArg Pipe.offer (PerWinder.get_set_self ..)).trans (if_pos inactive)

theorem State.returnCall_heldWork {s : State} {w : Winder} {c : Call} (apart : ∀ x ∈ s.queues.get w, x.work.merges c.work = false) :
    (s.returnCall w c .heldWork).queues.get w = { c with state := .heldWork } :: s.queues.get w := by
  have held : s.returnedState c.work .heldWork = .heldWork :=
    State.returnedState_eq (fun waiting => CallState.noConfusion waiting.2.1) (fun _ => rfl)
  rw [State.returnCall_apart (mergingEntry_eq_none.mpr apart), held]
  exact PerWinder.get_set_self ..

theorem State.withdrawStaged_heldWork {s : State} {w : Winder} {t : Trip} {c : Call} (staged : (s.pipe w).staged = some t)
    (source : t.source = some c) (apart : ∀ x ∈ s.queues.get w, x.work.merges c.work = false) :
    (s.withdrawStaged w .heldWork).queues.get w = { c with state := .heldWork } :: s.queues.get w := by
  rw [State.withdrawStaged_of_source staged source]
  exact State.returnCall_heldWork apart

theorem State.withdrawStaged_unsourced {s : State} {w : Winder} {t : Trip} (staged : (s.pipe w).staged = some t)
    (source : t.source = none) (st : CallState) :
    (s.withdrawStaged w st).queues = s.queues ∧
      ((s.withdrawStaged w st).pipe w).latest = some ⟨t.number, .withdrawn⟩ := by
  have unsourced : ∀ x, (s.pipe w).staged = some x → x.source = none := fun x found => by
    rw [staged] at found
    obtain ⟨rfl⟩ := found
    exact source
  rw [State.withdrawStaged_of_no_source unsourced, State.discardStaged_of staged]
  exact ⟨rfl, congrArg Pipe.latest (PerWinder.get_set_self ..)⟩

/-! ## The payload check (R134) -/

theorem State.checkPayload_eq {s : State} {k : Skip} {r : Report} {m : Nat} (report : s.reports.get .rock = some r)
    (loaded : (s.skips.get k).contents = .loaded m) :
    s.checkPayload k =
      payloadCheck (r.reading (drumOf k.conveyance)).load m s.work.payloadTolerance s.work.payloadAction := by
  have measured : s.measuredLoad k = (r.reading (drumOf k.conveyance)).load := by
    unfold State.measuredLoad
    rw [report]
    rfl
  have mass : (s.skips.get k).mass = m := by
    unfold SkipRecord.mass
    rw [loaded]
  unfold State.checkPayload
  rw [measured, mass]

theorem payloadCheck_refused {measured m tolerance : Nat} {action : PayloadAction}
    (refused : Config.skipRating < measured ∨ (tolerance < max measured m - min measured m ∧ action = .refuse)) :
    payloadCheck measured m tolerance action = .refused := by
  unfold payloadCheck
  rcases refused with heavy | ⟨apart, rfl⟩
  · exact if_pos heavy
  · rw [if_neg (Nat.not_le.mpr apart), ite_self]

theorem payloadCheck_flagged {measured m tolerance : Nat} {action : PayloadAction} (light : measured ≤ Config.skipRating)
    (apart : tolerance < max measured m - min measured m) (flag : action = .flag) :
    payloadCheck measured m tolerance action = .flagged := by
  subst flag
  unfold payloadCheck
  rw [if_neg (Nat.not_lt.mpr light), if_neg (Nat.not_le.mpr apart)]

theorem payloadCheck_passed {measured m tolerance : Nat} {action : PayloadAction} (light : measured ≤ Config.skipRating)
    (near : ¬tolerance < max measured m - min measured m) : payloadCheck measured m tolerance action = .passed := by
  unfold payloadCheck
  rw [if_neg (Nat.not_lt.mpr light), if_pos (Nat.not_lt.mp near)]

theorem State.refusePayload_eq {s : State} {t : Trip} (staged : (s.pipe .rock).staged = some t) (k : Skip) :
    let u := s.refusePayload k t
    (u.pipe .rock).staged = none ∧ (u.pipe .rock).latest = some ⟨t.number, .payloadRefused⟩ ∧
    (u.pipe .rock).prior = (s.pipe .rock).latest ∧ u.skips = s.skips.set k ⟨.suspect, s.now⟩ ∧ u.sent = s.sent ∧
    u.winders = s.winders ∧ u.queues = s.queues ∧
    (s.faults.length < 16 → ∃ e, u.faults = s.faults ++ [e] ∧ e.kind = .payloadMismatch ∧ e.severity = .note ∧
      e.conveyance = some k.conveyance ∧ e.trip = some t.number) := by
  have eq : s.refusePayload k t =
      ((s.discardStaged .rock .payloadRefused).setContents k .suspect).record
        (((s.discardStaged .rock .payloadRefused).setContents k .suspect).entryOf (payloadReport k t.number)) :=
    State.deliver_minor _ (payloadReport k t.number) nofun
  rw [eq, State.record_eq, State.discardStaged_of staged]
  exact ⟨rfl, rfl, rfl, rfl, rfl, rfl, rfl, fun room => ⟨_, if_pos room, rfl, rfl, rfl, rfl⟩⟩

theorem State.grantCycle_refused {s : State} {l : Leg} {k : Skip} (rising : skipOf l.leading = some k) (t : Trip)
    (refused : s.checkPayload k = .refused) : s.grantCycle t l = s.refusePayload k t := by
  unfold State.grantCycle
  rw [rising]
  dsimp only
  rw [refused]

theorem State.grantCycle_flagged {s : State} {l : Leg} {k : Skip} (rising : skipOf l.leading = some k) (t : Trip)
    (flagged : s.checkPayload k = .flagged) :
    s.grantCycle t l = (s.deliver (payloadReport k t.number)).sendGrant .rock t l := by
  unfold State.grantCycle
  rw [rising]
  dsimp only
  rw [flagged]

theorem State.grantCycle_passed {s : State} {l : Leg} {k : Skip} (rising : skipOf l.leading = some k) (t : Trip)
    (passed : s.checkPayload k = .passed) : s.grantCycle t l = s.sendGrant .rock t l := by
  unfold State.grantCycle
  rw [rising]
  dsimp only
  rw [passed]

theorem State.noted_pipe (s : State) (k : Skip) (n : Nat) (w : Winder) : (s.deliver (payloadReport k n)).pipe w = s.pipe w := by
  rw [State.deliver_minor _ (payloadReport k n) nofun, State.record_eq]
  rfl

theorem State.noted_skips (s : State) (k : Skip) (n : Nat) : (s.deliver (payloadReport k n)).skips = s.skips := by
  rw [State.deliver_minor _ (payloadReport k n) nofun, State.record_eq]

/-! ## The offer of a leg (R83) -/

theorem State.offerLeg_coupled {s : State} {w : Winder} {t : Trip} {l : Leg} (offered : (s.pipe w).onOffer = some t)
    (leg : t.leg = some l) (coupled : l.isCoupled = true ∧ s.pairing = .unpaired) :
    s.offerLeg w = { s with pipes := s.pipes.set w { s.pipe w with offer := none } } := by
  unfold State.offerLeg
  rw [offered]
  dsimp only
  rw [leg]
  exact if_pos (State.uncouples_iff.mpr coupled)

theorem State.offerLeg_uncoupled {s : State} {w : Winder} {t : Trip} {l : Leg} (offered : (s.pipe w).onOffer = some t)
    (leg : t.leg = some l) (uncoupled : ¬(l.isCoupled = true ∧ s.pairing = .unpaired)) :
    s.offerLeg w =
      if (s.pathCheck .work (s.legPaths l) (s.overOwn t.recovery)).isSome then s.stopOffer w
      else if t.isRockCycle && !t.granted then s.grantCycle t l
      else s.sendGrant w t l := by
  unfold State.offerLeg
  rw [offered]
  dsimp only
  rw [leg]
  exact if_neg (mt State.uncouples_iff.mp uncoupled)

theorem State.offerLeg_blocked {s : State} {w : Winder} {t : Trip} {l : Leg} (offered : (s.pipe w).onOffer = some t)
    (leg : t.leg = some l) (uncoupled : ¬(l.isCoupled = true ∧ s.pairing = .unpaired))
    (blocked : ¬ s.pathCheck .work (s.legPaths l) (s.overOwn t.recovery) = none) : s.offerLeg w = s.stopOffer w :=
  (State.offerLeg_uncoupled offered leg uncoupled).trans (if_pos (Option.isSome_iff_ne_none.mpr blocked))

theorem State.offerLeg_clear {s : State} {w : Winder} {t : Trip} {l : Leg} (offered : (s.pipe w).onOffer = some t)
    (leg : t.leg = some l) (uncoupled : ¬(l.isCoupled = true ∧ s.pairing = .unpaired))
    (clear : s.pathCheck .work (s.legPaths l) (s.overOwn t.recovery) = none) :
    s.offerLeg w = if t.isRockCycle && !t.granted then s.grantCycle t l else s.sendGrant w t l :=
  (State.offerLeg_uncoupled offered leg uncoupled).trans (if_neg (by rw [clear]; decide))

theorem State.offerLeg_granted {s : State} {w : Winder} {t : Trip} {l : Leg} (offered : (s.pipe w).onOffer = some t)
    (leg : t.leg = some l) (uncoupled : ¬(l.isCoupled = true ∧ s.pairing = .unpaired))
    (clear : s.pathCheck .work (s.legPaths l) (s.overOwn t.recovery) = none) (again : t.isRockCycle = true → t.granted = true) :
    s.offerLeg w = s.sendGrant w t l := by
  refine (State.offerLeg_clear offered leg uncoupled clear).trans (if_neg fun c => ?_)
  rw [Bool.and_eq_true, Bool.not_eq_true'] at c
  rw [again c.1] at c
  exact Bool.noConfusion c.2

theorem State.offerLeg_cycle {s : State} {w : Winder} {t : Trip} {l : Leg} (offered : (s.pipe w).onOffer = some t)
    (leg : t.leg = some l) (uncoupled : ¬(l.isCoupled = true ∧ s.pairing = .unpaired))
    (clear : s.pathCheck .work (s.legPaths l) (s.overOwn t.recovery) = none) (cycle : t.isRockCycle = true)
    (ungranted : t.granted = false) : s.offerLeg w = s.grantCycle t l :=
  (State.offerLeg_clear offered leg uncoupled clear).trans (if_pos (by rw [cycle, ungranted]; rfl))

/-! ## The drums and the paths of a leg -/

theorem State.grantDrums_drums (s : State) (w : Winder) (l : Leg) :
    (s.grantDrums w l).map (·.drum) = (drumsOf w).filter (fun d => (l.target (drumOwner d)).isSome) := by
  unfold State.grantDrums
  induction drumsOf w with
  | nil => rfl
  | cons d ds ih =>
    cases target : l.target (drumOwner d) with
    | none => rw [List.filterMap_cons_none (by rw [target]; rfl), ih, List.filter_cons_of_neg (by rw [target]; decide)]
    | some x => rw [List.filterMap_cons_some (by rw [target]; rfl), List.map_cons, ih, List.filter_cons_of_pos (by rw [target]; rfl)]

theorem State.mem_grantDrums {s : State} {w : Winder} {l : Leg} {g : GrantDrum} :
    g ∈ s.grantDrums w l ↔
      g.drum ∈ drumsOf w ∧ l.target (drumOwner g.drum) = some g.target ∧ g.count = s.targetCount g.drum g.target := by
  unfold State.grantDrums
  rw [List.mem_filterMap]
  constructor
  · rintro ⟨d, mem, made⟩
    obtain ⟨x, target, rfl⟩ := Option.map_eq_some_iff.mp made
    exact ⟨mem, target, rfl⟩
  · rintro ⟨mem, target, count⟩
    refine ⟨g.drum, mem, ?_⟩
    rw [target, Option.map_some, ← count]

theorem State.targetCount_sub (s : State) (d : Drum) (target : Int) :
    s.targetCount d target - (s.work.references.get d).count =
      roundDiv ((target - (s.position (drumOwner d)).correction - (s.work.references.get d).depth) *
        (s.work.scales.get d : Int)) 1000 := add_sub_cancel_left ..

theorem State.path_of_leg (s : State) (l : Leg) (c : Conveyance) :
    s.path c (s.estimateOrigin c) (targetsIn [l] c) = s.path c ((s.position c).estimate.getD 0) (l.target c).toList := by
  have targets : targetsIn [l] c = (l.target c).toList := by
    unfold targetsIn
    cases target : l.target c with
    | none => exact List.filterMap_cons_none target
    | some x => exact List.filterMap_cons_some target
  rw [targets]
  cases estimate : (s.position c).estimate with
  | none => rw [State.path_of_absent estimate, State.path_of_absent estimate]
  | some e =>
    unfold State.estimateOrigin
    rw [estimate]
    rfl

theorem State.mem_legPaths {s : State} {l : Leg} {p : Path} :
    p ∈ s.legPaths l ↔ ∃ c ∈ l.conveyances, p = s.path c ((s.position c).estimate.getD 0) (l.target c).toList := by
  unfold State.legPaths
  rw [List.mem_map]
  refine exists_congr fun c => and_congr_right fun _ => ?_
  rw [State.path_of_leg]
  exact eq_comm

theorem State.overOwn_iff {s : State} {recovery : Bool} {c : Conveyance} {n : Nat} :
    s.overOwn recovery c n = true ↔ recovery = true ∧ n ∈ (s.position c).zoneSet := by
  unfold State.overOwn
  rw [Bool.and_eq_true, List.contains_iff_mem]

/-- Settles O40: the branches of the offer, each by the equation of what it does. -/
theorem offersSendGrant : Obligations.OffersSendGrant := by
  refine ⟨fun s w t l offered leg => ?_, fun s w l => ⟨s.grantDrums_drums w l, fun g => State.mem_grantDrums⟩,
    fun s d target => ?_, fun s l p => State.mem_legPaths, fun s recovery c n => State.overOwn_iff⟩
  · refine ⟨State.offerLeg_coupled offered leg, fun uncoupled clear again => ?_, fun uncoupled blocked inactive => ?_,
      fun uncoupled blocked active => ?_, ?_⟩
    · rw [State.offerLeg_granted offered leg uncoupled clear again]
      exact State.sendGrant_spec offered leg
    · have staged := Pipe.onOffer_of_inactive offered inactive
      rw [State.offerLeg_blocked offered leg uncoupled blocked, State.stopOffer_staged inactive]
      exact ⟨rfl, (s.withdrawStaged_slots w _).1, State.withdrawStaged_offer staged inactive _, s.withdrawStaged_sent w _,
        fun c source apart => State.withdrawStaged_heldWork staged source apart,
        fun unsourced => State.withdrawStaged_unsourced staged unsourced _⟩
    · have trip := Pipe.onOffer_of_active offered active
      rw [State.offerLeg_blocked offered leg uncoupled blocked, State.stopOffer_active active, State.failOffer_active active]
      refine ⟨?_, fun other => if_neg (mt (State.freeOffer_iff trip).mp other)⟩
      rintro rfl clutching free
      rw [if_pos ((State.freeOffer_iff trip).mpr ⟨clutching, free⟩)]
      exact s.endFreeOffer_eq .stopped
    · rintro k r m uncoupled clear rfl inactive cycle ungranted rising report loaded
      have staged := Pipe.onOffer_of_inactive offered inactive
      have check := State.checkPayload_eq report loaded
      rw [State.offerLeg_cycle offered leg uncoupled clear cycle ungranted]
      refine ⟨fun refused => ?_, fun light apart flag => ?_, fun light near => ?_⟩
      · rw [State.grantCycle_refused rising t (check.trans (payloadCheck_refused refused))]
        exact State.refusePayload_eq staged k
      · have noted : ((s.deliver (payloadReport k t.number)).pipe .rock).onOffer = some t := by
          rw [State.noted_pipe]
          exact offered
        rw [State.grantCycle_flagged rising t (check.trans (payloadCheck_flagged light apart flag))]
        exact ⟨State.sendGrant_spec noted leg, (State.sendGrant_skips ..).trans (s.noted_skips k t.number)⟩
      · rw [State.grantCycle_passed rising t (check.trans (payloadCheck_passed light near))]
        exact ⟨State.sendGrant_spec offered leg, rfl⟩
  · intro ref q x
    have quotient : q = roundDiv x 1000 := s.targetCount_sub d target
    rw [quotient]
    exact ⟨roundDiv_near x (by decide), roundDiv_tie x (by decide)⟩

end Sys2Proof.Machine

/-! PROOFS. Replies to GRANT: acceptance, refusal, a late reply and the expiry of the wait (O41). -/

namespace Sys2Proof.Machine

/-! ## What a cap and a comparison read of the records -/

/-- A record without the fields that arm its checks or suppress its zones. -/
def Position.measures (p : Position) : Position := { p with motionRef := none, armed := false, suppressed := [] }

theorem State.capOf_congr_of_measures {s t : State} {w : Winder}
    (records : ∀ c, (t.position c).measures = (s.position c).measures) (zones : t.zones = s.zones)
    (work : t.work = s.work) (state : (t.winder w).state = (s.winder w).state) (mode : (t.winder w).mode = (s.winder w).mode)
    (active : (t.pipe w).active = (s.pipe w).active) : t.capOf w = s.capOf w := by
  have set (c : Conveyance) : (t.position c).zoneSet = (s.position c).zoneSet := (congrArg Position.zoneSet (records c) :)
  have band (c : Conveyance) : (t.position c).band = (s.position c).band := (congrArg Position.band (records c) :)
  have estimate (c : Conveyance) : (t.position c).estimate = (s.position c).estimate := (congrArg Position.estimate (records c) :)
  have isIn (st : WinderState) : t.isIn w st = s.isIn w st := by
    unfold State.isIn
    rw [state]
  have leg : t.activeLeg w = s.activeLeg w := by
    unfold State.activeLeg
    rw [active]
  have settings (c : Class) : t.classOf c = s.classOf c := by
    unfold State.classOf
    rw [work]
  have slow : t.slowTerms w = s.slowTerms w := by
    unfold State.slowTerms
    simp only [zones, set]
  have passing : t.passingTerms w = s.passingTerms w := by
    unfold State.passingTerms
    simp only [zones, set]
  have wide : t.wideBand w = s.wideBand w := by
    unfold State.wideBand
    simp only [work, band]
  have approach (l : Leg) : t.approachLimit l = s.approachLimit l := by
    unfold State.approachLimit State.toGo
    simp only [settings, estimate]
  have motion : t.inMotion w = s.inMotion w := by
    unfold State.inMotion
    rw [state]
  have terms (l : Leg) : t.capTerms w l = s.capTerms w l := by
    unfold State.capTerms
    rw [slow, passing, wide, isIn, approach, mode, settings, settings, settings]
  unfold State.capOf
  simp only [motion, leg, terms]

theorem State.belowCritical_congr_of_measures {s t : State} {w : Winder} (running : (t.monitor w).running = (s.monitor w).running)
    (records : ∀ c, (t.position c).measures = (s.position c).measures) (zones : t.zones = s.zones) (work : t.work = s.work)
    (state : (t.winder w).state = (s.winder w).state) (mode : (t.winder w).mode = (s.winder w).mode)
    (active : (t.pipe w).active = (s.pipe w).active) : t.belowCritical w = s.belowCritical w := by
  have velocity (c : Conveyance) : (t.position c).speed = (s.position c).speed := (congrArg Position.speed (records c) :)
  have speed : t.winderSpeed w = s.winderSpeed w := by
    unfold State.winderSpeed State.moved State.activeLeg
    simp only [active, velocity]
  unfold State.belowCritical
  rw [running, speed, State.capOf_congr_of_measures records zones work state mode active, work]

theorem State.withPosition_measures (s : State) (c : Conveyance) {f : Position → Position}
    (kept : (f (s.position c)).measures = (s.position c).measures) (d : Conveyance) :
    ((s.withPosition c f).position d).measures = (s.position d).measures := by
  by_cases same : d = c
  · subst same
    rw [State.withPosition_position_self]
    exact kept
  · rw [s.withPosition_position_ne c f same]

theorem State.suppressRecovery_measures (s : State) (w : Winder) (c : Conveyance) :
    ((s.suppressRecovery w).position c).measures = (s.position c).measures := by
  unfold State.suppressRecovery
  split
  · exact ((s.suppress _).withPosition_measures _ rfl c).trans (s.withPosition_measures _ rfl c)
  · rfl

theorem State.suppressRecovery_eq (s : State) (w : Winder) :
    s.suppressRecovery w = { s with positions := (s.suppressRecovery w).positions } := by
  unfold State.suppressRecovery
  split <;> rfl

theorem State.armAtRunning_measures (s : State) (w : Winder) (c d : Conveyance) :
    ((s.armAtRunning w c).position d).measures = (s.position d).measures := by
  unfold State.armAtRunning
  split
  · exact s.withPosition_measures _ rfl d
  · exact s.withPosition_measures _ rfl d

/-! ## A change of state (R96) -/

/-- The parts of a state that a change of a winder's state writes. -/
theorem State.changeState_eq {s : State} {w : Winder} {st : WinderState} (other : (s.winder w).state ≠ st) :
    s.changeState w st =
      { s with
        winders := s.winders.set w ((s.winder w).entered st s.now)
        positions := ((s.withWinder w (fun r => r.entered st s.now)).motionAtEntry w st).positions
        caps := (s.changeState w st).caps
        monitors := s.monitors.set w ((s.monitor w).entered (s.work.envelope.get w).mode st)
        pipes := s.pipes.set w { s.pipe w with settle := none } } := by
  have armed := (s.withWinder w (fun r => r.entered st s.now)).motionAtEntry_eq w st
  unfold State.changeState
  rw [if_neg other]
  dsimp only
  rw [armed]
  rfl

theorem State.enterRunning_measures (s : State) (w : Winder) (c : Conveyance) :
    ((s.changeState w .running).position c).measures = (s.position c).measures := by
  by_cases same : (s.winder w).state = .running
  · rw [State.changeState_self s w _ same]
  · rw [State.changeState_eq same]
    exact (State.armAtRunning_measures _ w _ c).trans (State.armAtRunning_measures _ w _ c)

/-! ## Acceptances (R84) -/

theorem Pipe.accept_offer (p : Pipe) : p.accept.offer = none := by
  unfold Pipe.accept
  dsimp only
  split <;> rfl

/-- The trip accepted stands in the active slot, its leg Moving and its offer count 0. -/
theorem Pipe.accept_active {p : Pipe} {t : Trip} (offered : p.active.or p.staged = some t) :
    p.accept.active = some { t.withLeg (fun l => { l with state := .moving }) with offerCount := 0 } := by
  unfold Pipe.accept
  cases active : p.active with
  | some a =>
    rw [active] at offered
    obtain ⟨rfl⟩ := offered
    rfl
  | none =>
    rw [active, Option.none_or] at offered
    dsimp only
    rw [offered]
    rfl

theorem Pipe.accept_empties {p : Pipe} (inactive : p.active = none) : p.accept.staged = none := by
  unfold Pipe.accept
  rw [inactive]

theorem State.acceptOffer_spec {s : State} {w : Winder} {t : Trip} {l : Leg} (still : s.isIn w .running = false)
    (below : ({ s with
        pipes := s.pipes.set w (s.pipe w).accept
        winders := s.winders.set w { s.winder w with state := .running } } : State).belowCritical w = true)
    (offered : (s.pipe w).active.or (s.pipe w).staged = some t) (leg : t.leg = some l) :
    let u := s.acceptOffer w
    (u.winder w).state = .running ∧ (u.winder w).permit = true ∧ (u.winder w).brakeDemand = false ∧
      (u.pipe w).offer = none ∧
      (∃ x, (u.pipe w).active = some x ∧ x.number = t.number ∧ x.offerCount = 0 ∧ x.leg = some { l with state := .moving }) ∧
      ((s.pipe w).active = none → (u.pipe w).staged = none) := by
  intro u
  obtain ⟨a, ha⟩ : ∃ a, a = (s.withPipe w Pipe.accept).suppressRecovery w := ⟨_, rfl⟩
  have entered : u = (a.changeState w .running).handAndCompare w := by
    rw [ha]
    rfl
  have accepted : a = { s with pipes := s.pipes.set w (s.pipe w).accept, positions := a.positions } := by
    rw [ha, State.suppressRecovery_eq]
    rfl
  have records (c : Conveyance) : (a.position c).measures = (s.position c).measures := by
    rw [ha]
    exact State.suppressRecovery_measures _ w c
  have other : (a.winder w).state ≠ .running := by
    rw [accepted]
    exact State.isIn_eq_false.mp still
  have winder : (a.changeState w .running).winder w = (s.winder w).entered .running s.now := by
    rw [State.changeState_winder a w _ other, accepted]
    rfl
  have pipe : (a.changeState w .running).pipe w = { (s.pipe w).accept with settle := none } := by
    rw [State.changeState_pipe a w _ other, accepted]
    exact congrArg (fun p : Pipe => { p with settle := none }) (PerWinder.get_set_self ..)
  obtain ⟨x, hx⟩ : ∃ x : State, x = { s with
      pipes := s.pipes.set w (s.pipe w).accept
      winders := s.winders.set w { s.winder w with state := .running } } := ⟨_, rfl⟩
  rw [← hx] at below
  have running : x.winder w = { s.winder w with state := .running } := by
    rw [hx]
    exact PerWinder.get_set_self ..
  have uncritical : (a.changeState w .running).belowCritical w = true := by
    rw [← below]
    refine State.belowCritical_congr_of_measures ?_ (fun c => ?_) ?_ ?_ ?_ ?_ ?_
    · rw [State.changeState_eq other, hx, accepted]
      exact (congrArg Monitor.running (PerWinder.get_set_self ..)).trans (Monitor.entered_running ..)
    · rw [State.enterRunning_measures, records, hx]
      rfl
    · rw [State.changeState_eq other, hx, accepted]
    · rw [State.changeState_eq other, hx, accepted]
    · rw [winder, running]
      rfl
    · rw [winder, running]
      rfl
    · rw [pipe, hx]
      show (s.pipe w).accept.active = ((s.pipes.set w (s.pipe w).accept).get w).active
      rw [PerWinder.get_set_self]
  obtain ⟨frame, kept, -⟩ := State.handAndCompare_compares uncritical
  rw [← entered] at frame kept
  have record : u.winder w = { (s.winder w).entered .running s.now with slowCap := (u.winder w).slowCap } :=
    (kept w).trans (by rw [winder])
  have slots : u.pipe w = { (s.pipe w).accept with settle := none } := by
    rw [← pipe, frame]
    rfl
  clear_value u
  rw [record, slots]
  exact ⟨rfl, rfl, rfl, Pipe.accept_offer _, ⟨_, Pipe.accept_active offered, rfl, rfl, Trip.withLeg_leg leg _⟩,
    Pipe.accept_empties⟩

/-! ## The replies and the expiry of the wait (R84 to R86, R170) -/

theorem State.isAwaited_iff {s : State} {w : Winder} {k : Kind} {tag : Nat} :
    s.isAwaited w k tag = true ↔ ∃ a ∈ (s.drives.get w).awaited, a.kind = k ∧ a.tag = tag := by
  simp [State.isAwaited]

theorem State.offerAwaits_iff {s : State} {w : Winder} {tag : Nat} :
    s.offerAwaits w tag = true ↔ ∃ e, (s.pipe w).offer = some (.awaiting tag e) := by
  unfold State.offerAwaits
  cases (s.pipe w).offer with
  | none => simp
  | some o => cases o <;> simp

theorem State.replyMatched_arrived (s : State) (w : Winder) (k : Kind) (tag : Nat) :
    (s.begin.frameArrives (driveLink w)).dropAwaited w k tag = s.replyMatched w k tag := s.takeReply_eq w k tag

/-- A tag that is not awaited leaves the list of awaited replies as it is. -/
theorem State.dropAwaited_of_absent {s : State} {w : Winder} {k : Kind} {tag : Nat} (absent : ¬ s.isAwaited w k tag = true) :
    s.dropAwaited w k tag = s := by
  have all : (s.drives.get w).awaited.filter (fun a => !(a.kind == k && a.tag == tag)) = (s.drives.get w).awaited := by
    refine List.filter_eq_self.mpr fun a mem => ?_
    rw [Bool.not_eq_true', Bool.eq_false_iff]
    exact fun found => absent (List.any_eq_true.mpr ⟨a, mem, found⟩)
  unfold State.dropAwaited State.withDrive
  dsimp only
  rw [all]
  show ({ s with drives := s.drives.set w (s.drives.get w) } : State) = s
  rw [PerWinder.set_get]

theorem State.arrived_isAwaited (s : State) (w : Winder) (l : Link) (k : Kind) (tag : Nat) :
    (s.begin.frameArrives l).isAwaited w k tag = s.isAwaited w k tag := by
  rw [State.frameArrives_eq]
  rfl

theorem State.arrived_grantOf (s : State) (w : Winder) (l : Link) (tag : Nat) :
    (s.begin.frameArrives l).grantOf w tag = s.grantOf w tag := by
  rw [State.frameArrives_eq]
  rfl

theorem State.replyMatched_offerAwaits (s : State) (w : Winder) (k : Kind) (tag : Nat) :
    (s.replyMatched w k tag).offerAwaits w tag = s.offerAwaits w tag := rfl

theorem State.replyMatched_grantOf (s : State) (w : Winder) (k : Kind) (tag n : Nat) :
    (s.replyMatched w k n).grantOf w tag = s.grantOf w tag := 
  State.grantOf_congr (s := s.replyMatched w k n) (t := s) (w := w) (by cases w <;> rfl) tag

theorem State.takeGrantReply_offer {s : State} {w : Winder} {tag : Nat} (code : Nat) (awaited : s.isAwaited w .grant tag = true)
    (offer : s.offerAwaits w tag = true) :
    (s.begin.frameArrives (driveLink w)).takeGrantReply w tag code =
      if code = 1 then (s.replyMatched w .grant tag).acceptOffer w else (s.replyMatched w .grant tag).refuseOffer w := by
  unfold State.takeGrantReply
  rw [State.arrived_isAwaited, if_pos awaited]
  dsimp only
  rw [State.replyMatched_arrived]
  exact if_pos offer

theorem State.takeGrantReply_late {s : State} {w : Winder} {tag : Nat} (code : Nat)
    (late : ¬ s.isAwaited w .grant tag = true ∨ ¬ s.offerAwaits w tag = true) :
    (s.begin.frameArrives (driveLink w)).takeGrantReply w tag code =
      if code = 1 then
        (s.replyMatched w .grant tag).sendOrder w (.grantVoid (s.grantOf w tag).1 (s.grantOf w tag).2)
      else s.replyMatched w .grant tag := by
  have grant := s.replyMatched_grantOf w .grant tag tag
  have answer : (s.replyMatched w .grant tag).lateReply w tag code =
      if code = 1 then
        (s.replyMatched w .grant tag).sendOrder w (.grantVoid (s.grantOf w tag).1 (s.grantOf w tag).2)
      else s.replyMatched w .grant tag := by
    unfold State.lateReply
    rw [grant]
  unfold State.takeGrantReply
  by_cases awaited : s.isAwaited w .grant tag = true
  · have other : ¬ s.offerAwaits w tag = true := late.resolve_left (not_not_intro awaited)
    rw [State.arrived_isAwaited, if_pos awaited]
    dsimp only
    rw [State.replyMatched_arrived]
    exact (if_neg other).trans answer
  · have absent : ¬ (s.begin.frameArrives (driveLink w)).isAwaited w .grant tag = true := by
      rw [State.arrived_isAwaited]
      exact awaited
    rw [if_neg absent, ← answer, ← State.replyMatched_arrived, State.dropAwaited_of_absent absent]

theorem State.grantExpires_offer {s : State} {w : Winder} {tag : Nat} (due : s.awaitedExpired w .grant tag = true)
    (offer : s.offerAwaits w tag = true) : s.grantExpires w tag = (s.dropAwaited w .grant tag).refuseOffer w :=
  (if_pos due).trans (if_pos offer)

theorem State.grantExpires_other {s : State} {w : Winder} {tag : Nat} (due : s.awaitedExpired w .grant tag = true)
    (other : ¬ s.offerAwaits w tag = true) : s.grantExpires w tag = s.dropAwaited w .grant tag :=
  (if_pos due).trans (if_neg other)

/-! ## Refusals (R85) -/

theorem Pipe.withOffered_congr {p : Pipe} {t : Trip} (offered : p.onOffer = some t) {f g : Trip → Trip} (same : f t = g t) :
    p.withOffered f = p.withOffered g := by
  unfold Pipe.onOffer at offered
  unfold Pipe.withOffered
  cases active : p.active with
  | some a =>
    rw [active] at offered
    obtain ⟨rfl⟩ := offered
    dsimp only
    rw [same]
  | none =>
    rw [active] at offered
    dsimp only at offered ⊢
    rw [offered, Option.map_some, Option.map_some, same]

theorem Pipe.withOffered_inactive {p : Pipe} (inactive : p.active = none) (f : Trip → Trip) :
    p.withOffered f = { p with staged := p.staged.map f } := by
  unfold Pipe.withOffered
  rw [inactive]

theorem Pipe.withOffered_active {p : Pipe} {t : Trip} (active : p.active = some t) (f : Trip → Trip) :
    p.withOffered f = { p with active := some (f t) } := by
  unfold Pipe.withOffered
  rw [active]

/-- The state in which a refusal has been counted. -/
def State.refusalCounted (s : State) (w : Winder) : State :=
  { s with
    counters := s.counters.set w
      { s.counters.get w with driveRefusals := saturate ((s.counters.get w).driveRefusals + 1) }
    pipes := s.pipes.set w
      { (s.pipe w).withOffered (fun t => { t with offerCount := t.offerCount + 1 }) with offer := none } }

theorem State.refuseOffer_eq {s : State} {w : Winder} {t : Trip} (offered : (s.pipe w).onOffer = some t) :
    s.refuseOffer w =
      if t.offerCount + 1 = 8 then (s.refusalCounted w).giveUp w else (s.refusalCounted w).backOff w (t.offerCount + 1) := by
  have counted : ((s.withCounters w (fun c => { c with driveRefusals := saturate (c.driveRefusals + 1) })).withPipe w
      (fun p => { p.withOffered (fun x => { x with offerCount := t.offerCount + 1 }) with offer := none })) =
      s.refusalCounted w := by
    have count : (s.pipe w).withOffered (fun x => { x with offerCount := t.offerCount + 1 }) =
        (s.pipe w).withOffered (fun x => { x with offerCount := x.offerCount + 1 }) := Pipe.withOffered_congr offered rfl
    unfold State.refusalCounted
    rw [← count]
    rfl
  unfold State.refuseOffer
  rw [offered]
  dsimp only
  rw [counted]

theorem State.refusalCounted_pipe (s : State) (w : Winder) :
    (s.refusalCounted w).pipe w =
      { (s.pipe w).withOffered (fun t => { t with offerCount := t.offerCount + 1 }) with offer := none } :=
  PerWinder.get_set_self ..

theorem State.refusalCounted_winder (s : State) (w v : Winder) : (s.refusalCounted w).winder v = s.winder v := rfl

theorem Counters.tripEnded_driveRefusals (c : Counters) (o : TripOutcome) : (c.tripEnded o).driveRefusals = c.driveRefusals := by
  cases o <;> rfl

theorem State.deliver_minor_eq (s : State) (f : FaultReport) (minor : f.severity ≠ .trip) :
    s.deliver f =
      { s with primary := (s.deliver f).primary, faults := (s.deliver f).faults, overflow := (s.deliver f).overflow } := by
  rw [State.deliver_minor s f minor, State.record_eq]

theorem State.refusalNoted_eq (s : State) (w : Winder) :
    s.deliver ⟨.driveRefused, .note, w, none, none, none, none⟩ =
      { s with
        primary := (s.deliver ⟨.driveRefused, .note, w, none, none, none, none⟩).primary
        faults := (s.deliver ⟨.driveRefused, .note, w, none, none, none, none⟩).faults
        overflow := (s.deliver ⟨.driveRefused, .note, w, none, none, none, none⟩).overflow } :=
  s.deliver_minor_eq ⟨.driveRefused, .note, w, none, none, none, none⟩ nofun

/-- A staged trip whose offer is refused for the eighth time is discarded. -/
theorem State.giveUp_staged {s : State} {w : Winder} {t : Trip} (staged : (s.pipe w).staged = some t)
    (inactive : (s.pipe w).active = none) :
    let u := s.giveUp w
    u = (s.discardStaged w .driveRefused).deliver ⟨.driveRefused, .note, w, none, none, none, none⟩ ∧
      (u.pipe w).staged = none ∧ (u.pipe w).offer = none ∧ (u.pipe w).latest = some ⟨t.number, .driveRefused⟩ ∧
      (u.pipe w).prior = (s.pipe w).latest ∧
      (u.counters.get w).driveRefusals = (s.counters.get w).driveRefusals ∧ u.winders = s.winders := by
  intro u
  have eq : u = (s.discardStaged w .driveRefused).deliver ⟨.driveRefused, .note, w, none, none, none, none⟩ :=
    congrArg (fun x : State => x.deliver ⟨.driveRefused, .note, w, none, none, none, none⟩) (State.failOffer_staged inactive _)
  have pipe : u.pipe w =
      { s.pipe w with
        staged := none, offer := none, prior := (s.pipe w).latest, latest := some ⟨t.number, .driveRefused⟩ } := by
    rw [eq, State.refusalNoted_eq, State.discardStaged_of staged, if_pos inactive]
    exact PerWinder.get_set_self ..
  have counters : u.counters.get w = (s.counters.get w).tripEnded .driveRefused := by
    rw [eq, State.refusalNoted_eq, State.discardStaged_of staged]
    exact PerWinder.get_set_self ..
  have winders : u.winders = s.winders := by
    rw [eq, State.refusalNoted_eq, State.discardStaged_of staged]
  clear_value u
  refine ⟨eq, ?_, ?_, ?_, ?_, ?_, winders⟩
  · rw [pipe]
  · rw [pipe]
  · rw [pipe]
  · rw [pipe]
  · rw [counters, Counters.tripEnded_driveRefusals]

theorem State.park_pipe (s : State) (w : Winder) :
    (s.park w).pipe w = { s.pipe w with settle := ((s.park w).pipe w).settle } := by
  have changed (st : WinderState) : (s.changeState w st).pipe w = { s.pipe w with settle := ((s.changeState w st).pipe w).settle } := by
    by_cases same : (s.winder w).state = st
    · rw [State.changeState_self s w st same]
    · rw [State.changeState_pipe s w st same]
  unfold State.park
  split
  · rw [State.withWinder_pipe]
    exact changed .parked
  · exact changed .idle

theorem State.endAndPark_pipe {s : State} {w : Winder} {t : Trip} (active : (s.pipe w).active = some t) (o : TripOutcome) :
    ((s.endAndPark w o).pipe w).active = none ∧ ((s.endAndPark w o).pipe w).latest = some ⟨t.number, o⟩ := by
  unfold State.endAndPark
  rw [State.park_pipe, State.endActive_pipe s w t o active]
  exact ⟨rfl, rfl⟩

theorem State.giveUp_active {s : State} {w : Winder} {t : Trip} (active : (s.pipe w).active = some t)
    (bound : ¬((s.winder w).state = .clutching ∧ t.kind = .rePair)) :
    let u := s.giveUp w
    u = (s.endAndPark w .driveRefused).deliver ⟨.driveRefused, .note, w, none, none, none, none⟩ ∧
      (u.pipe w).active = none ∧ (u.pipe w).latest = some ⟨t.number, .driveRefused⟩ := by
  intro u
  have ended : s.failOffer w .driveRefused = s.endAndPark w .driveRefused :=
    (State.failOffer_active (by rw [active]; exact Option.some_ne_none t) _).trans
      (if_neg (mt (State.freeOffer_iff active).mp bound))
  have eq : u = (s.endAndPark w .driveRefused).deliver ⟨.driveRefused, .note, w, none, none, none, none⟩ :=
    congrArg (fun x : State => x.deliver ⟨.driveRefused, .note, w, none, none, none, none⟩) ended
  have pipe : u.pipe w = (s.endAndPark w .driveRefused).pipe w := by
    rw [eq, State.refusalNoted_eq]
    rfl
  obtain ⟨empty, latest⟩ := State.endAndPark_pipe active .driveRefused
  clear_value u
  exact ⟨eq, by rw [pipe]; exact empty, by rw [pipe]; exact latest⟩

theorem State.giveUp_free {s : State} {t : Trip} (active : (s.pipe .rock).active = some t) (unoffered : (s.pipe .rock).offer = none)
    (clutching : (s.winder .rock).state = .clutching) (free : t.kind = .rePair) :
    s.giveUp .rock =
      ({ s with
          repair := s.repair.map (fun x => { x with offerEnd := some .driveRefused })
          clutchTimer := some (s.clutchTimer.getD (s.now + 20000#32)) } : State).deliver
        ⟨.driveRefused, .note, .rock, none, none, none, none⟩ := by
  have ended : s.failOffer .rock .driveRefused = s.endFreeOffer .driveRefused :=
    (State.failOffer_active (by rw [active]; exact Option.some_ne_none t) _).trans
      (if_pos ((State.freeOffer_iff active).mpr ⟨clutching, free⟩))
  have pipe : ({ s.pipe .rock with offer := none } : Pipe) = s.pipes.get .rock := by rw [← unoffered]; rfl
  unfold State.giveUp
  rw [ended, State.endFreeOffer_eq, pipe, PerWinder.set_get]

/-- Settles O41. -/
theorem grantRepliesActOnTheOffer : Obligations.GrantRepliesActOnTheOffer := by
  refine ⟨fun s w tag code => ⟨fun awaited offer => ?_, fun late => ?_, fun still below t l offered leg =>
      State.acceptOffer_spec still below offered leg, fun due offer => ?_, fun due other => ?_, fun early => ?_⟩,
    fun s w t offered => ⟨?_, fun few => ?_, fun last inactive => ?_, fun last active => ?_⟩⟩
  · exact congrArg (fun u : State => Host.Outcome.next (u.settle w))
      (State.takeGrantReply_offer code (State.isAwaited_iff.mpr awaited) (State.offerAwaits_iff.mpr offer))
  · have apart : ¬ s.isAwaited w .grant tag = true ∨ ¬ s.offerAwaits w tag = true :=
      late.imp (mt State.isAwaited_iff.mp) fun none found =>
        let ⟨e, he⟩ := State.offerAwaits_iff.mp found
        none e he
    exact congrArg (fun u : State => Host.Outcome.next (u.settle w)) (State.takeGrantReply_late code apart)
  · exact congrArg (fun u : State => Host.Outcome.next (u.settle w))
      (State.grantExpires_offer (s := s.begin) (State.awaitedExpired_iff.mpr due) (State.offerAwaits_iff.mpr offer))
  · have apart : ¬ s.begin.offerAwaits w tag = true := fun found =>
      let ⟨e, he⟩ := State.offerAwaits_iff.mp found
      other e he
    exact congrArg (fun u : State => Host.Outcome.next (u.settle w))
      (State.grantExpires_other (s := s.begin) (State.awaitedExpired_iff.mpr due) apart)
  · exact congrArg (fun u : State => Host.Outcome.next (u.settle w))
      (if_neg (mt (State.awaitedExpired_iff (s := s.begin)).mp early))
  · exact (congrArg Pipe.onOffer (s.refusalCounted_pipe w)).trans (Pipe.onOffer_withOffered offered _ _)
  · exact (State.refuseOffer_eq offered).trans (if_neg (by omega))
  · have eq : s.refuseOffer w = (s.refusalCounted w).giveUp w := (State.refuseOffer_eq offered).trans (if_pos (by omega))
    have pipe := (s.refusalCounted_pipe w).trans (by rw [Pipe.withOffered_inactive inactive])
    have staged : ((s.refusalCounted w).pipe w).staged = some { t with offerCount := t.offerCount + 1 } := by
      rw [pipe, Pipe.onOffer_of_inactive offered inactive]
      rfl
    have empty : ((s.refusalCounted w).pipe w).active = none := by
      rw [pipe]
      exact inactive
    obtain ⟨given, slot, offer, latest, prior, refusals, winders⟩ := State.giveUp_staged staged empty
    rw [eq]
    refine ⟨given, slot, offer, latest, ?_, ?_, winders⟩
    · rw [prior, pipe]
    · rw [refusals]
      exact congrArg Counters.driveRefusals (PerWinder.get_set_self ..)
  · have eq : s.refuseOffer w = (s.refusalCounted w).giveUp w := (State.refuseOffer_eq offered).trans (if_pos (by omega))
    have pipe := (s.refusalCounted_pipe w).trans (by rw [Pipe.withOffered_active (Pipe.onOffer_of_active offered active)])
    have trip : ((s.refusalCounted w).pipe w).active = some { t with offerCount := t.offerCount + 1 } := by rw [pipe]
    refine ⟨?_, fun bound => ?_⟩
    · rintro rfl clutching free
      exact eq.trans (State.giveUp_free trip (by rw [pipe]) clutching free)
    · obtain ⟨given, empty, latest⟩ := State.giveUp_active trip bound
      rw [eq]
      exact ⟨given, empty, fun _ => latest⟩

end Sys2Proof.Machine

/-! PROOFS. MANUAL TRIP and INSPECT TRIP (O42). -/

namespace Sys2Proof.Machine

/-! ## The tests that the two requests share (R93, R94) -/

/-- A test of a request against the proposition that it decides. -/
def SameTest (e : Prop × Reason) (b : Bool × Reason) : Prop := (e.1 ↔ b.1 = true) ∧ e.2 = b.2

/-- The tests from the mode to the admission count, as propositions. -/
def State.stagingTests (s : State) (w : Winder) (m : Mode) (r : Reason) (busy : Prop) : List (Prop × Reason) :=
  [((s.winder w).mode ≠ m, r),
   (((s.winder w).state ≠ .idle ∧ (s.winder w).state ≠ .running ∧ (s.winder w).state ≠ .settling ∧
      (s.winder w).state ≠ .dwelling) ∨ busy, .winderState),
   ((s.winder w).holdPending = true, .holdPending),
   ((s.pipe w).staged ≠ none, .stagedBusy),
   ((if w = .service then 24 else 4) ≤ s.admissionCount w, .queueFull)]

/-- The same tests as the model evaluates them. -/
def State.stagingTable (s : State) (w : Winder) (m : Mode) (r : Reason) (busy : Bool) : List (Bool × Reason) :=
  [((s.winder w).mode != m, r),
   (!(s.winder w).state.stages || busy, .winderState),
   ((s.winder w).holdPending, .holdPending),
   ((s.pipe w).staged.isSome, .stagedBusy),
   (decide (admissionLimit w ≤ s.admissionCount w), .queueFull)]

theorem SameTest.append {tests rest : List (Prop × Reason)} {table more : List (Bool × Reason)}
    (same : List.Forall₂ SameTest tests table) (after : List.Forall₂ SameTest rest more) :
    List.Forall₂ SameTest (tests ++ rest) (table ++ more) := List.rel_append same after

theorem State.manualTests_eq (s : State) (w : Winder) :
    s.manualTests w = s.stagingTable w .manual .notManualMode false := by
  unfold State.manualTests State.stagingTable
  rw [Bool.or_false]

theorem State.stagingTests_same (s : State) (w : Winder) (m : Mode) (r : Reason) {busy : Prop} {b : Bool} (same : busy ↔ b = true) :
    List.Forall₂ SameTest (s.stagingTests w m r busy) (s.stagingTable w m r b) := by
  have mode : (s.winder w).mode ≠ m ↔ ((s.winder w).mode != m) = true := bne_iff_ne.symm
  have stages : ((s.winder w).state ≠ .idle ∧ (s.winder w).state ≠ .running ∧ (s.winder w).state ≠ .settling ∧
      (s.winder w).state ≠ .dwelling) ↔ (!(s.winder w).state.stages) = true := by
    rw [not_true_iff, ← Bool.not_eq_true, WinderState.stages_iff, not_or, not_or, not_or]
  have limit : (if w = .service then 24 else 4) = admissionLimit w := by cases w <;> rfl
  refine .cons ⟨mode, rfl⟩ (.cons ⟨?_, rfl⟩ (.cons ⟨Iff.rfl, rfl⟩ (.cons ⟨Option.isSome_iff_ne_none.symm, rfl⟩
    (.cons ⟨?_, rfl⟩ .nil))))
  · rw [Bool.or_eq_true, stages, same]
  · rw [decide_eq_true_eq, limit]

theorem State.pathTests_same (s : State) (legs : List Leg) :
    List.Forall₂ SameTest
      [(s.pathCheck .work (s.stagedPaths legs) (fun _ _ => false) ≠ none, .workZone),
       (s.pathCheck .inspect (s.stagedPaths legs) (fun _ _ => false) ≠ none, .inspectZone)]
      (s.pathTests legs) :=
  .cons ⟨Option.isSome_iff_ne_none.symm, rfl⟩ (.cons ⟨Option.isSome_iff_ne_none.symm, rfl⟩ .nil)

/-! ## What a request heard leaves of the tests -/

theorem State.heard_manualCageTests (s : State) (h : Head) (k : Kind) (work : CallWork) (st : Fin 16) (ds : List Deck) :
    (s.heard h k).manualCageTests work st ds = s.manualCageTests work st ds := by
  rw [State.heard_eq]
  rfl

theorem State.heard_manualTests (s : State) (h : Head) (k : Kind) (w : Winder) :
    (s.heard h k).manualTests w = s.manualTests w := by
  rw [State.heard_eq]
  rfl

theorem State.heard_pathTests (s : State) (h : Head) (k : Kind) (legs : List Leg) :
    (s.heard h k).pathTests legs = s.pathTests legs := by
  rw [State.heard_eq]
  rfl

theorem State.heard_callLegs (s : State) (h : Head) (k : Kind) (work : CallWork) :
    (s.heard h k).callLegs work = s.callLegs work := by
  rw [State.heard_eq]
  rfl

theorem State.heard_nextTrip (s : State) (h : Head) (k : Kind) (w : Winder) : (s.heard h k).nextTrip w = s.nextTrip w := by
  unfold State.nextTrip
  rw [State.heard_pipe]

theorem State.heard_inspectionLeg (s : State) (h : Head) (k : Kind) (c : Conveyance) (target : Int) (n : Nat) :
    (s.heard h k).inspectionLeg c target n = s.inspectionLeg c target n := by
  rw [State.heard_eq]
  rfl

theorem State.heard_inspectTests (s : State) (h : Head) (k : Kind) (c : Conveyance) :
    (s.heard h k).inspectTests c = s.inspectTests c := by
  rw [State.heard_eq]
  rfl

theorem State.heard_inspectLegTests (s : State) (h : Head) (k : Kind) (l : Leg) :
    (s.heard h k).inspectLegTests l = s.inspectLegTests l := by
  rw [State.heard_eq]
  rfl

theorem State.stage_eq {u : State} {pipes : PerWinder Pipe} (same : u.pipes = pipes) (w : Winder) (t : Trip) :
    u.stage w t = { u with pipes := pipes.set w { pipes.get w with staged := some t, lastTrip := t.number } } := by
  subst same
  rfl

/-! ## MANUAL TRIP for the service winder (R93) -/

theorem cageClassCode_cases {k : Nat} {c : Class} (cls : cageClassCode k = some c) : c = .men ∨ c = .material := by
  unfold cageClassCode at cls
  split at cls
  · exact .inl (Option.some.inj cls).symm
  · exact .inr (Option.some.inj cls).symm
  · exact absurd cls.symm (Option.some_ne_none _)

theorem takeManualCage_refused {n k : Nat} {decks : List Nat} {riders : Option (List Nat)} {payload : Option Nat} (s : State)
    (bad : stationCode n = none ∨ cageClassCode k = none ∨ codes deckCode decks = none ∨ between 1 3 decks.length = false ∨
      countsInRange riders payload = false) : takeManualCage n decks k riders payload s = (s, refuse .outOfRange) := by
  unfold takeManualCage
  split
  · next st c ds station cls deck =>
    rw [station, cls, deck] at bad
    have fails : ¬(between 1 3 decks.length && countsInRange riders payload && countsOk c ds riders payload) = true := by
      rcases bad with bad | bad | bad | bad | bad
      iterate 3 exact absurd bad (Option.some_ne_none _)
      · simp [bad]
      · simp [bad]
    exact if_neg fails
  · rfl

/-- The tests of a manual cage trip, that of its counts included (R93). -/
def State.manualCageTable (s : State) (c : Class) (ds : List Deck) (riders : Option (List Nat)) (payload : Option Nat) (st : Fin 16) :
    List (Bool × Reason) :=
  (!countsOk c ds riders payload, .outOfRange) ::
    s.manualCageTests (.cage st c (orderedDecks ds) (riders.map (orderedRiders ds)) payload) st ds

theorem takeManualCage_tested {n k : Nat} {decks : List Nat} {riders : Option (List Nat)} {payload : Option Nat} {st : Fin 16}
    {c : Class} {ds : List Deck} (s : State) (station : stationCode n = some st) (cls : cageClassCode k = some c)
    (deck : codes deckCode decks = some ds) (count : between 1 3 decks.length = true) (range : countsInRange riders payload = true) :
    takeManualCage n decks k riders payload s =
      s.tested (s.manualCageTable c ds riders payload st)
        (fun s => s.stageManual .service (.cage st c (orderedDecks ds) (riders.map (orderedRiders ds)) payload)) := by
  unfold takeManualCage
  rw [station, cls, deck]
  dsimp only
  rw [count, range]
  unfold State.manualCageTable
  cases countsOk c ds riders payload <;> rfl

theorem State.manualCageTable_same (s : State) {c : Class} (ds : List Deck) (riders : Option (List Nat)) (payload : Option Nat)
    (st : Fin 16) (cage : c = .men ∨ c = .material) :
    let legs := s.cageLegs (s.work.stations[st]) (orderedDecks ds) c
    List.Forall₂ SameTest
      ([((c = .material ∧ riders ≠ none) ∨ (c = .men ∧ payload ≠ none) ∨ (∃ l, riders = some l ∧ l.length ≠ ds.length), .outOfRange),
        (¬ds.Nodup, .deckRepeated)] ++
       s.stagingTests .service .manual .notManualMode False ++
       [((s.work.stations[st]).inService = false, .notInService),
        ((∃ d ∈ ds, (s.work.stations[st]).decks.has d = false), .deckNotServed),
        (s.bars[st] = true, .stationBarred),
        (s.pathCheck .work (s.stagedPaths legs) (fun _ _ => false) ≠ none, .workZone),
        (s.pathCheck .inspect (s.stagedPaths legs) (fun _ _ => false) ≠ none, .inspectZone),
        ((∃ l, riders = some l ∧ ∃ x ∈ orderedRiders ds l, 60 < x) ∨ (∃ m, payload = some m ∧ 12000 < m), .overRating)])
      (s.manualCageTable c ds riders payload st) := by
  intro legs
  have counts : (!countsOk c ds riders payload) = true ↔
      (c = .material ∧ riders ≠ none) ∨ (c = .men ∧ payload ≠ none) ∨ (∃ l, riders = some l ∧ l.length ≠ ds.length) := by
    rw [not_true_iff, countsOk_eq_false cage]
  have repeated : (!decide ds.Nodup) = true ↔ ¬ds.Nodup := by simp
  have served : (!ds.all (s.stationAt st).decks.has) = true ↔ ∃ d ∈ ds, (s.work.stations[st]).decks.has d = false := by
    rw [not_true_iff, List.all_eq_false]
    simp only [Bool.not_eq_true]
    rfl
  have heavy : (CallWork.cage st c (orderedDecks ds) (riders.map (orderedRiders ds)) payload).overRating = true ↔
      (∃ l, riders = some l ∧ ∃ x ∈ orderedRiders ds l, 60 < x) ∨ (∃ m, payload = some m ∧ 12000 < m) := by
    rw [CallWork.cage_overRating]
    refine or_congr_left ?_
    cases riders <;> simp
  have table : s.manualCageTable c ds riders payload st =
      ([(!countsOk c ds riders payload, .outOfRange), (!decide ds.Nodup, .deckRepeated)] ++
        s.stagingTable .service .manual .notManualMode false ++
        ([(!(s.stationAt st).inService, .notInService), (!ds.all (s.stationAt st).decks.has, .deckNotServed),
          (s.bars[st], .stationBarred)] ++ s.pathTests legs ++
         [((CallWork.cage st c (orderedDecks ds) (riders.map (orderedRiders ds)) payload).overRating, .overRating)])) := by
    unfold State.manualCageTable State.manualCageTests
    rw [State.manualTests_eq]
    simp only [List.append_assoc, List.cons_append, List.nil_append]
    rfl
  rw [table]
  refine SameTest.append (SameTest.append (.cons ⟨counts.symm, rfl⟩ (.cons ⟨repeated.symm, rfl⟩ .nil))
    (s.stagingTests_same _ _ _ (by simp))) ?_
  exact SameTest.append (SameTest.append (tests := [_, _, _]) (table := [_, _, _]) (.cons ⟨not_true_iff.symm, rfl⟩ (.cons ⟨served.symm, rfl⟩ (.cons ⟨Iff.rfl, rfl⟩ .nil)))
    (s.pathTests_same legs)) (.cons ⟨heavy.symm, rfl⟩ .nil)

/-- Outside the automatic mode, with the staged trip not ready, the end of an event does nothing (R77, R83). -/
theorem State.settle_of_unready {s : State} {w : Winder} {t : Trip} (mode : (s.winder w).mode ≠ .automatic)
    (staged : (s.pipe w).staged = some t) (unready : t.ready = false) : s.settle w = s := by
  have rests : s.plan w = s := State.plan_of_not_runs (Bool.eq_false_iff.mpr fun runs => mode (State.plannerRuns_iff.mp runs).1)
  have none : (s.plan w).canOffer w = false := by
    rw [rests, Bool.eq_false_iff]
    intro offers
    obtain ⟨x, found, ready, -⟩ := State.canOffer_iff.mp offers
    rw [staged] at found
    obtain ⟨rfl⟩ := found
    rw [unready] at ready
    exact Bool.noConfusion ready
  rw [State.settle_of_no_offer none, rests]

theorem State.stageManual_service {s : State} {work : CallWork} (mode : (s.winder .service).mode = .manual) :
    s.stageManual .service work =
      (s.stage .service { Trip.built (s.nextTrip .service) .manual work.cls (s.callLegs work) with station := work.station },
        doneWith (.tripNumber (s.nextTrip .service))) := by
  refine congrArg (fun u : State => (u, doneWith (.tripNumber (s.nextTrip .service)))) ?_
  exact State.settle_of_unready (t := { Trip.built (s.nextTrip .service) .manual work.cls (s.callLegs work) with station := work.station })
    (by rw [State.stage_eq rfl]; exact fun automatic => Mode.noConfusion (mode.symm.trans automatic)) 
    (congrArg Pipe.staged (s.stage_staged .service _)) rfl

/-- The trip of MANUAL TRIP is of the manual mode, by its test (R93). -/
theorem State.manual_of_passed {s : State} {w : Winder} {before after : List (Bool × Reason)}
    (pass : firstFailing (before ++ (s.manualTests w ++ after)) = none) : (s.winder w).mode = .manual := by
  have test : ((s.winder w).mode != .manual) = false :=
    firstFailing_eq_none.mp pass _ (List.mem_append_right _ (List.mem_append_left _ List.mem_cons_self))
  exact bne_eq_false_iff_eq.mp test

theorem State.manualCage_inOrder {s : State} {h : Head} {n k : Nat} {decks : List Nat} {riders : Option (List Nat)}
    {payload : Option Nat} {st : Fin 16} {c : Class} {ds : List Deck} (station : stationCode n = some st)
    (cls : cageClassCode k = some c) (deck : codes deckCode decks = some ds) (count : between 1 3 decks.length = true)
    (range : countsInRange riders payload = true)
    (a : s.admits h .manualTrip (manualSize h (.service n decks k (.of riders) (.of payload))) none)
    {tests : List (Prop × Reason)} (same : List.Forall₂ SameTest tests (s.manualCageTable c ds riders payload st)) :
    let cmd := Instr.manualTrip h (.service n decks k (.of riders) (.of payload))
    let legs := s.cageLegs (s.work.stations[st]) (orderedDecks ds) c
    let trip := { Trip.built (s.nextTrip .service) .manual c legs with station := some st }
    TestsInOrder (fun r => s.Reads cmd h .manualTrip (.refused r, .nothing)) tests
      (s.Answers cmd h .manualTrip
        { s.heard h .manualTrip with
          pipes := s.pipes.set .service { s.pipe .service with staged := some trip, lastTrip := trip.number } }
        (.done, .tripNumber trip.number)) := by
  intro cmd legs trip
  refine State.inOrder_of_request rfl a (table := s.manualCageTable c ds riders payload st)
    (act := fun s => s.stageManual .service (.cage st c (orderedDecks ds) (riders.map (orderedRiders ds)) payload)) ?_ same
    fun pass answers => ?_
  · have heard : (s.heard h .manualTrip).manualCageTable c ds riders payload st = s.manualCageTable c ds riders payload st :=
      congrArg (List.cons _) (s.heard_manualCageTests ..)
    rw [← heard]
    refine Eq.trans ?_ (takeManualCage_tested _ station cls deck count range)
    show withRead _ _ _ = _
    rw [withRead_of, withRead_of]
  · have mode : (s.winder .service).mode = .manual := State.manual_of_passed (before := [_, _]) (s := s) (w := .service)
      (after := [(!(s.stationAt st).inService, .notInService), (!ds.all (s.stationAt st).decks.has, .deckNotServed),
          (s.bars[st], .stationBarred)] ++ s.pathTests legs ++
         [((CallWork.cage st c (orderedDecks ds) (riders.map (orderedRiders ds)) payload).overRating, .overRating)]) (by
      rw [← pass]
      unfold State.manualCageTable State.manualCageTests
      simp only [List.append_assoc, List.cons_append, List.nil_append]
      rfl)
    have staged := State.stageManual_service (s := s.heard h .manualTrip)
      (work := .cage st c (orderedDecks ds) (riders.map (orderedRiders ds)) payload) (by rw [State.heard_winder]; exact mode)
    rw [State.heard_nextTrip, State.heard_callLegs, State.stage_eq (s.heard_pipes ..)] at staged
    rw [staged] at answers
    exact answers

/-! ## MANUAL TRIP for the rock winder (R93) -/

theorem State.manualRock_inOrder {s : State} {h : Head} {n : Nat} {k : Skip} (skip : skipCode n = some k)
    (a : s.admits h .manualTrip 2 none) :
    let legs := s.cycleLegs k
    let trip := Trip.built (s.nextTrip .rock) .manual .rock legs
    TestsInOrder (fun r => s.Reads (.manualTrip h (.rock n)) h .manualTrip (.refused r, .nothing))
      (s.stagingTests .rock .manual .notManualMode False ++
       [(s.pairing = .unpaired, .unpaired),
        (s.pathCheck .work (s.stagedPaths legs) (fun _ _ => false) ≠ none, .workZone),
        (s.pathCheck .inspect (s.stagedPaths legs) (fun _ _ => false) ≠ none, .inspectZone)])
      (s.Answers (.manualTrip h (.rock n)) h .manualTrip
        ((({ s.heard h .manualTrip with
            pipes := s.pipes.set .rock { s.pipe .rock with staged := some trip, lastTrip := trip.number } } :
          State).formReadiness).settle .rock)
        (.done, .tripNumber trip.number)) := by
  intro legs trip
  refine State.inOrder_of_request rfl a
    (table := s.stagingTable .rock .manual .notManualMode false ++ ([(s.pairing == .unpaired, .unpaired)] ++ s.pathTests legs))
    (act := fun s => s.stageManual .rock (.cycle k)) ?_ ?_ fun _ answers => ?_
  · have table : (s.heard h .manualTrip).manualTests .rock ++ [((s.heard h .manualTrip).pairing == .unpaired, .unpaired)] ++
        (s.heard h .manualTrip).pathTests ((s.heard h .manualTrip).cycleLegs k) =
        s.stagingTable .rock .manual .notManualMode false ++ ([(s.pairing == .unpaired, .unpaired)] ++ s.pathTests legs) := by
      rw [List.append_assoc, State.heard_manualTests, State.heard_pathTests, State.manualTests_eq, State.heard_pairing]
      exact congrArg (fun l => _ ++ (_ ++ s.pathTests l)) (s.heard_callLegs h .manualTrip (.cycle k))
    rw [← table]
    show takeManualRock n _ = _
    unfold takeManualRock
    rw [skip]
  · exact SameTest.append (s.stagingTests_same _ _ _ (by simp))
      (SameTest.append (tests := [_]) (table := [_]) (.cons ⟨beq_iff_eq.symm, rfl⟩ .nil) (s.pathTests_same legs))
  · have staged : (s.heard h .manualTrip).stageManual .rock (.cycle k) =
        (((({ s.heard h .manualTrip with
            pipes := s.pipes.set .rock { s.pipe .rock with staged := some trip, lastTrip := trip.number } } :
          State).formReadiness).settle .rock), (.done, .tripNumber trip.number)) := by
      unfold State.stageManual
      dsimp only
      rw [State.heard_nextTrip, State.heard_callLegs, State.stage_eq (s.heard_pipes ..)]
      rfl
    rw [staged] at answers
    exact answers

/-! ## INSPECT TRIP (R94, R109) -/

theorem State.inspectTests_eq (s : State) (c : Conveyance) :
    s.inspectTests c =
      s.stagingTable (ownerOf c) .inspection .notInspectionMode
          (ownerOf c == .rock && (s.pipe (ownerOf c)).active.any (fun t => t.kind == .rePair)) ++
        [(ownerOf c == .rock && (s.clutch == none || s.clutch == some .moving), .clutchMoving),
         (ownerOf c == .rock && s.clutch == some .closed && s.pairing == .unpaired, .unpaired)] := rfl

theorem State.rePairing_iff {s : State} {w : Winder} :
    (w = .rock ∧ ∃ t, (s.pipe .rock).active = some t ∧ t.kind = .rePair) ↔
      (w == .rock && (s.pipe w).active.any (fun t => t.kind == .rePair)) = true := by
  rw [Bool.and_eq_true, beq_iff_eq]
  refine and_congr_right ?_
  rintro rfl
  rw [Option.any_eq_true]
  exact exists_congr fun t => and_congr_right fun _ => beq_iff_eq.symm

theorem State.recoveryBlocked_iff {s : State} {l : Leg} :
    s.recoveryBlocked l = true ↔
      (s.winder (ownerOf l.leading)).recovery = true ∧ ∃ m ∈ l.motions, s.targetRestricted m.conveyance m.target = true := by
  unfold State.recoveryBlocked
  rw [Bool.and_eq_true, List.any_eq_true]

theorem State.inspectTrip_inOrder {s : State} {h : Head} {n : Nat} {target : Int} {c : Conveyance}
    (code : conveyanceCode n = some c) (range : depthInRange target = true) (a : s.admits h .inspectTrip 5 none) :
    let w := ownerOf c
    let recovery := (s.winder w).recovery
    let l := s.inspectionLeg c target (s.nextTrip w)
    let trip := { Trip.built (s.nextTrip w) .inspection .inspection [l] with ready := true, recovery := recovery }
    TestsInOrder (fun r => s.Reads (.inspectTrip h n target) h .inspectTrip (.refused r, .nothing))
      (s.stagingTests w .inspection .notInspectionMode (w = .rock ∧ ∃ t, (s.pipe .rock).active = some t ∧ t.kind = .rePair) ++
       [(w = .rock ∧ (s.clutch = none ∨ s.clutch = some .moving), .clutchMoving),
        (w = .rock ∧ s.clutch = some .closed ∧ s.pairing = .unpaired, .unpaired),
        (recovery = true ∧ (∃ m ∈ l.motions, s.targetRestricted m.conveyance m.target = true), .recoveryDirection),
        (s.pathCheck .work (s.stagedPaths [l]) (s.overOwn recovery) ≠ none, .workZone)])
      (s.Answers (.inspectTrip h n target) h .inspectTrip
        (({ s.heard h .inspectTrip with
            pipes := s.pipes.set w { s.pipe w with staged := some trip, lastTrip := trip.number } } : State).settle w)
        (.done, .tripNumber trip.number)) := by
  intro w recovery l trip
  refine State.inOrder_of_request rfl a (table := s.inspectTests c ++ s.inspectLegTests l)
    (act := fun s => s.stageInspection w l) ?_ ?_ fun _ answers => ?_
  · show takeInspectTrip n target _ = _
    unfold takeInspectTrip
    rw [code]
    dsimp only
    rw [State.heard_nextTrip, State.heard_inspectionLeg, State.heard_inspectTests, State.heard_inspectLegTests, range]
    rfl
  · rw [State.inspectTests_eq, List.append_assoc]
    refine SameTest.append (s.stagingTests_same _ _ _ State.rePairing_iff) ?_
    refine .cons ⟨?_, rfl⟩ (.cons ⟨?_, rfl⟩ (.cons ⟨State.recoveryBlocked_iff (s := s) (l := l) |>.symm, rfl⟩
      (.cons ⟨Option.isSome_iff_ne_none.symm, rfl⟩ .nil)))
    · rw [Bool.and_eq_true, Bool.or_eq_true, beq_iff_eq, beq_iff_eq, beq_iff_eq]
    · rw [Bool.and_eq_true, Bool.and_eq_true, beq_iff_eq, beq_iff_eq, beq_iff_eq, and_assoc]
  · have staged : (s.heard h .inspectTrip).stageInspection w l =
        (({ s.heard h .inspectTrip with
            pipes := s.pipes.set w { s.pipe w with staged := some trip, lastTrip := trip.number } } : State).settle w,
          (.done, .tripNumber trip.number)) := by
      unfold State.stageInspection
      dsimp only
      rw [State.heard_nextTrip, State.heard_winder, State.stage_eq (s.heard_pipes ..)]
      rfl
    rw [staged] at answers
    exact answers

theorem conveyanceCode_range {n : Nat} {target : Int} (bad : 4 ≤ n ∨ target < -60000 ∨ 3200000 < target) :
    conveyanceCode n = none ∨ depthInRange target = false :=
  bad.imp conveyanceCode_of_le depthInRange_eq_false.mpr

theorem takeInspectTrip_refused {n : Nat} {target : Int} (s : State) (bad : conveyanceCode n = none ∨ depthInRange target = false) :
    takeInspectTrip n target s = (s, refuse .outOfRange) := by
  unfold takeInspectTrip
  split
  · rfl
  · next c found =>
    have range := bad.resolve_left (by rw [found]; exact Option.some_ne_none c)
    dsimp only
    rw [range]
    rfl

/-! ## The leg of an inspection trip (R94) -/

theorem State.inspectionLeg_skip {s : State} {c : Conveyance} {k : Skip} (skip : skipOf c = some k) (target : Int) (n : Nat) :
    (s.inspectionLeg c target n).motions =
      match s.clutch, s.pairing.pocket with
      | some .closed, some p => [⟨c, target, none⟩, ⟨k.other.conveyance, s.pairSpan p - target, none⟩]
      | _, _ => [⟨c, target, none⟩] := by
  unfold State.inspectionLeg
  cases c <;> cases skip
  · rcases s.clutch with _ | ⟨_ | _ | _⟩ <;> rcases s.pairing.pocket with _ | _ <;> rfl
  · rcases s.clutch with _ | ⟨_ | _ | _⟩ <;> rcases s.pairing.pocket with _ | _ <;> rfl

theorem skipOf_conveyance {c : Conveyance} {k : Skip} (skip : skipOf c = some k) : k.conveyance = c := by
  cases c <;> cases skip <;> rfl

/-- Settles O42. -/
theorem consoleTripsAreStaged : Obligations.ConsoleTripsAreStaged := by
  refine ⟨fun s h => ?_, fun n kind cls legs => rfl, fun s c target number => ?_⟩
  · refine ⟨fun n decks k riders payload a => ⟨fun bad => ?_, fun st c ds station cls deck count range => ?_⟩,
      fun n a => ⟨fun beyond => ?_, fun k skip => State.manualRock_inOrder skip a⟩,
      fun code a => State.answers_of_request rfl a rfl,
      fun n target a => ⟨fun bad => State.answers_of_request rfl a (takeInspectTrip_refused _ (conveyanceCode_range bad)),
        fun c code range => State.inspectTrip_inOrder code range a⟩⟩
    · refine State.answers_of_request rfl a ?_
      show withRead _ _ _ = _
      rw [withRead_of, withRead_of]
      refine takeManualCage_refused _ ?_
      rcases bad with bad | bad | ⟨d, member, bad⟩ | bad
      · exact .inl (stationCode_of_not_lt (not_lt.mpr bad))
      · exact .inr (.inl (cageClassCode_of_le bad))
      · exact .inr (.inr (.inl (codes_of_mem member (deckCode_of_le bad))))
      · refine .inr (.inr (.inr ?_))
        rw [between_eq_false, countsInRange_eq_false, or_assoc]
        exact bad
    · exact State.manualCage_inOrder station cls deck count range a
        (s.manualCageTable_same ds riders payload st (cageClassCode_cases cls))
    · refine State.answers_of_request rfl a ?_
      show takeManualRock n _ = _
      unfold takeManualRock
      rw [skipCode_of_le beyond]
      rfl
  · refine ⟨rfl, (directionTo_spec _).1, (directionTo_spec _).2, ?_, ?_, fun k skip => ⟨fun p closed paired => ?_, fun opened => ?_⟩⟩
    · rintro rfl
      rfl
    · rintro rfl
      rfl
    · rw [State.inspectionLeg_skip skip, closed, paired, skipOf_conveyance skip]
      rfl
    · rw [State.inspectionLeg_skip skip, opened, skipOf_conveyance skip]

end Sys2Proof.Machine

/-! PROOFS. The timers that watch a motion (O43). -/

namespace Sys2Proof.Machine

theorem State.leading_of {s : State} {w : Winder} {t : Trip} {l : Leg} (active : (s.pipe w).active = some t) (leg : t.leg = some l) :
    s.leading w = some l.leading := by
  unfold State.leading State.activeLeg
  rw [active, Option.bind_some, leg]
  rfl

theorem State.leading_of_no_leg {s : State} {w : Winder} {t : Trip} (active : (s.pipe w).active = some t) (leg : t.leg = none) :
    s.leading w = none := by
  unfold State.leading State.activeLeg
  rw [active, Option.bind_some, leg]
  rfl

theorem State.leading_of_inactive {s : State} {w : Winder} (inactive : (s.pipe w).active = none) : s.leading w = none := by
  unfold State.leading State.activeLeg
  rw [inactive]
  rfl

theorem State.activeNumber_of {s : State} {w : Winder} {t : Trip} (active : (s.pipe w).active = some t) :
    s.activeNumber w = some t.number := by
  unfold State.activeNumber
  rw [active]
  rfl

theorem State.activeNumber_of_inactive {s : State} {w : Winder} (inactive : (s.pipe w).active = none) :
    s.activeNumber w = none := by
  unfold State.activeNumber
  rw [inactive]
  rfl

/-- The silent condition raised: a Trip in the motion states, a standing Note in every other (R111, R153). -/
theorem State.raiseSilent_eq (s : State) (w : Winder) :
    s.raiseSilent w =
      (s.withWinder w (fun r => { r with silent := if s.inMotion w then .tripRaised else .noteStanding })).deliver
        ⟨.driveSilent, if s.inMotion w then .trip else .note, w, none, none, none,
          (s.reports.get w).map (fun r => ((r.at_.toNat : Nat) : Int))⟩ := by
  unfold State.raiseSilent
  split <;> rfl

theorem State.stopOverdue_begin_iff {s : State} {w : Winder} :
    s.begin.stopOverdue w = true ↔
      (s.winder w).state = .stopping ∧ (s.winder w).stopStarted.any (fun x => decide (30000 ≤ (s.now - x).toNat)) = true := by
  unfold State.stopOverdue
  rw [Bool.and_eq_true, State.isIn_iff]
  rfl

/-- Settles O43. -/
theorem watchingTimersRaiseTheirFaults : Obligations.WatchingTimersRaiseTheirFaults := by
  refine fun s w => ⟨fun t active => ⟨State.activeNumber_of active, fun l leg => State.leading_of active leg,
      fun leg => State.leading_of_no_leg active leg⟩,
    fun inactive => ⟨State.activeNumber_of_inactive inactive, State.leading_of_inactive inactive⟩, rfl, ?_, rfl, rfl, ?_⟩
  · exact congrArg Host.Outcome.next (if_congr State.stopOverdue_begin_iff rfl rfl)
  · exact congrArg (fun u : State => Host.Outcome.next (if s.silentDue w = true then u else s.begin)) (s.begin.raiseSilent_eq w)

end Sys2Proof.Machine

/-! PROOFS. LEG COMPLETE and the settle wait (O44). -/

namespace Sys2Proof.Machine

/-! ## LEG COMPLETE (R117) -/

theorem State.admits_legComplete {s : State} {h : Head} {w : Winder} (drive : driveWinder h.link = some w) (length : h.length = 3) :
    s.admits h .legComplete 3 none := by
  have listed : kindListed .legComplete h.link = true := by
    revert drive
    cases h.link <;> decide +revert
  have console : h.link ≠ .console := by
    rintro e
    rw [e] at drive
    cases drive
  refine State.admits_iff.mpr ?_
  unfold State.turnedAway
  rw [if_neg (by simp [listed]), if_neg (not_not.mpr length), if_neg (by simp), if_neg (by simp [console]), if_neg (by simp)]

/-- The state in which a drive's request has been answered. -/
theorem State.answered_pipe (s : State) (h : Head) (r : Code × Answer) (w : Winder) :
    (s.answering (s.heard h .legComplete) h .legComplete r).pipe w = s.pipe w := by
  rw [State.answering_eq _ _ _ (by decide)]
  exact s.heard_pipe h .legComplete w

theorem State.answered_isIn (s : State) (h : Head) (r : Code × Answer) (w : Winder) (st : WinderState) :
    (s.answering (s.heard h .legComplete) h .legComplete r).isIn w st = s.isIn w st := by
  rw [State.answering_eq _ _ _ (by decide)]
  exact s.heard_isIn h .legComplete w st

theorem execLegComplete_taken {s : State} {h : Head} {w : Winder} (trip leg : Nat) (drive : driveWinder h.link = some w)
    (length : h.length = 3) :
    exec (.legComplete h trip leg) s =
      .next ((s.answering (s.heard h .legComplete) h .legComplete (s.legAnswer w trip leg)).takeLegComplete w trip leg) := by
  have answer : (s.heard h .legComplete).legAnswer w trip leg = s.legAnswer w trip leg := by
    unfold State.legAnswer
    rw [State.heard_pipe]
  show execLegComplete h trip leg s = _
  unfold execLegComplete
  rw [drive]
  dsimp only
  rw [driveRequest_admitted (State.admits_legComplete drive length), answer]

theorem Trip.isMoving_iff {t : Trip} {l : Leg} (current : t.leg = some l) {leg : Nat} :
    t.isMoving leg = true ↔ leg = t.current ∧ l.state = .moving := by
  unfold Trip.isMoving
  rw [current, Option.any_some, Bool.and_eq_true, beq_iff_eq, beq_iff_eq, eq_comm]

theorem filter_number_of {o : Option Trip} {t : Trip} {trip : Nat} (active : o = some t) (named : t.number = trip) :
    o.filter (fun t => t.number == trip) = some t := by
  rw [active, Option.filter_some, if_pos (beq_iff_eq.mpr named)]

theorem State.legAnswer_unknown {s : State} {w : Winder} {trip leg : Nat}
    (unknown : ∀ t, (s.pipe w).active = some t → t.number ≠ trip) : s.legAnswer w trip leg = refuse .noSuchTrip := by
  unfold State.legAnswer
  rw [Option.filter_eq_none_of_number unknown]

theorem State.legAnswer_named {s : State} {w : Winder} {t : Trip} {trip leg : Nat} (active : (s.pipe w).active = some t)
    (named : t.number = trip) : s.legAnswer w trip leg = if t.isMoving leg then done else refuse .wrongLeg := by
  unfold State.legAnswer
  rw [filter_number_of active named]

theorem State.takeLegComplete_none {s : State} {w : Winder} {trip leg : Nat}
    (other : ∀ t, (s.pipe w).active = some t → t.number = trip → t.isMoving leg = false) : s.takeLegComplete w trip leg = s := by
  have none : (s.pipe w).active.filter (fun t => t.number == trip && t.isMoving leg) = none := by
    refine Option.filter_eq_none_iff.mpr fun t active => ?_
    rw [Bool.and_eq_true, beq_iff_eq]
    exact fun both => by
      rw [other t active both.1] at both
      exact Bool.noConfusion both.2
  unfold State.takeLegComplete
  rw [none]

theorem State.takeLegComplete_moving {s : State} {w : Winder} {t : Trip} {l : Leg} (active : (s.pipe w).active = some t)
    (current : t.leg = some l) (moving : l.state = .moving) :
    s.takeLegComplete w t.number t.current = (s.legEnds w t l).settle w := by
  have found : (s.pipe w).active.filter (fun x => x.number == t.number && x.isMoving t.current) = some t := by
    rw [active, Option.filter_some, beq_self_eq_true, (Trip.isMoving_iff current).mpr ⟨rfl, moving⟩]
    rfl
  unfold State.takeLegComplete
  rw [found]
  dsimp only
  rw [current]

theorem State.legEnds_stopping {s : State} {w : Winder} (stopping : s.isIn w .stopping = true) (t : Trip) (l : Leg) :
    s.legEnds w t l = s := if_pos stopping

theorem State.legEnds_moving {s : State} {w : Winder} (moving : ¬ s.isIn w .stopping = true) (t : Trip) (l : Leg) :
    s.legEnds w t l = if t.kind = .inspection then s.endAndPark w .completed else s.beginSettling w t l := if_neg moving

theorem State.reads_of_legComplete {s : State} {h : Head} {w : Winder} {trip leg : Nat} {r : Code × Answer}
    (drive : driveWinder h.link = some w) (length : h.length = 3) (answer : s.legAnswer w trip leg = r)
    (other : ∀ t, (s.pipe w).active = some t → t.number = trip → t.isMoving leg = false) :
    s.Reads (.legComplete h trip leg) h .legComplete r := by
  have still : (s.answering (s.heard h .legComplete) h .legComplete r).takeLegComplete w trip leg =
      s.answering (s.heard h .legComplete) h .legComplete r := by
    refine State.takeLegComplete_none ?_
    rw [State.answered_pipe]
    exact other
  show exec _ s = _
  rw [execLegComplete_taken trip leg drive length, answer, still]

/-! ## The settle wait (R118) -/

/-- Every check of a winder's conveyances is armed at an entry to SETTLING (R29). -/
theorem State.armWinder_position (s : State) {w : Winder} {c : Conveyance} (mem : c ∈ conveyancesOf w) :
    (s.armWinder w).position c = { s.position c with motionRef := s.drumDepth.get (drumOf c), armed := true } := by
  unfold State.armWinder State.armMotion
  rcases mem_conveyancesOf_cases mem with ⟨rfl, other⟩ | ⟨rfl, other⟩
  · rw [State.withPosition_position_ne _ _ _ other, State.withPosition_position_self]
  · rw [State.withPosition_position_self, State.withPosition_position_ne _ _ _ other]
    rfl

theorem State.enterSettling_position {s : State} {w : Winder} {c : Conveyance} (other : (s.winder w).state ≠ .settling)
    (mem : c ∈ conveyancesOf w) :
    ((s.changeState w .settling).position c) =
      { s.position c with motionRef := s.drumDepth.get (drumOf c), armed := true } := by
  rw [State.changeState_eq other]
  exact State.armWinder_position _ mem

theorem State.capOf_at_rest {s : State} {w : Winder} (rest : (s.winder w).state.isMotion = false) : s.capOf w = ⟨0, none⟩ :=
  if_neg (by
    unfold State.inMotion
    rw [rest]
    decide)

/-- A winder entering a state other than RUNNING and STOPPING has a cap of 0 (R47). -/
theorem State.changeState_cap {s : State} {w : Winder} {st : WinderState} (other : (s.winder w).state ≠ st)
    (rest : st.isMotion = false) : (s.changeState w st).caps.get w = ⟨0, none⟩ := by
  have armed := (s.withWinder w (fun r => r.entered st s.now)).motionAtEntry_eq w st
  have state : ((((s.withWinder w (fun r => r.entered st s.now)).motionAtEntry w st).winder w).state).isMotion = false := by
    rw [armed]
    exact (congrArg (fun r : WinderRecord => r.state.isMotion) (s.withWinder_winder_self w (fun r => r.entered st s.now)) :).trans rest
  unfold State.changeState
  rw [if_neg other]
  exact (PerWinder.get_set_self ..).trans (State.capOf_at_rest state)

theorem State.beginSettling_spec {s : State} {w : Winder} {t : Trip} {l : Leg} (other : (s.winder w).state ≠ .settling) :
    let u := s.beginSettling w t l
    let e := s.work.settle.get w
    (u.winder w).state = .settling ∧ (u.winder w).permit = false ∧ u.caps.get w = ⟨0, none⟩ ∧
      (u.pipe w).settle = some ⟨s.now + BitVec.ofNat 32 (e.base * 2 ^ min l.relevels e.cap), t.number, t.current⟩ ∧
      (u.pipe w).active = some (t.withLeg (fun l => { l with state := .settling })) ∧
      (∀ c ∈ conveyancesOf w, (u.position c).armed = true ∧ (u.position c).motionRef = s.drumDepth.get (drumOf c)) := by
  intro u e
  obtain ⟨a, ha⟩ : ∃ a, a = s.withPipe w (fun p => { p with active := some (t.withLeg (fun l => { l with state := .settling })) }) :=
    ⟨_, rfl⟩
  have away : (a.winder w).state ≠ .settling := by
    rw [ha]
    exact other
  have pipe : u.pipe w = { (a.changeState w .settling).pipe w with
      settle := some ⟨ahead s.now (settleWait (s.work.settle.get w) l.relevels), t.number, t.current⟩ } := by
    rw [ha]
    exact State.withPipe_pipe_self ..
  have winder : u.winder w = (a.winder w).entered .settling a.now := by
    rw [← State.changeState_winder a w .settling away, ha]
    rfl
  have caps : u.caps.get w = ⟨0, none⟩ := by
    rw [← State.changeState_cap away rfl, ha]
    rfl
  have position (c : Conveyance) (mem : c ∈ conveyancesOf w) :
      u.position c = { a.position c with motionRef := a.drumDepth.get (drumOf c), armed := true } := by
    rw [← State.enterSettling_position away mem, ha]
    rfl
  have active : (a.pipe w).active = some (t.withLeg (fun l => { l with state := .settling })) := by
    rw [ha]
    exact congrArg Pipe.active (State.withPipe_pipe_self ..)
  have drums : a.drumDepth = s.drumDepth := by
    rw [ha]
    rfl
  clear_value u
  refine ⟨?_, ?_, caps, ?_, ?_, fun c mem => ⟨?_, ?_⟩⟩
  · rw [winder]
    rfl
  · rw [winder]
    rfl
  · rw [pipe]
    rfl
  · rw [pipe, State.changeState_pipe a w _ away]
    exact active
  · rw [position c mem]
  · rw [position c mem, drums]

theorem State.settleEnds_of {s : State} {w : Winder} {t : Trip} {l : Leg} (active : (s.pipe w).active = some t)
    (current : t.leg = some l) :
    s.settleEnds w =
      ({ s with pipes := s.pipes.set w { s.pipe w with settle := none } } : State).landingTest w t l := by
  unfold State.settleEnds
  rw [active]
  dsimp only
  rw [current]
  rfl

/-- Settles O44. -/
theorem legCompleteStartsTheSettleWait : Obligations.LegCompleteStartsTheSettleWait := by
  refine ⟨fun s h w trip leg drive length => ⟨fun unknown => ?_, ?_⟩, fun s w t l _ other => State.beginSettling_spec other,
    fun s w x timer due t l active current => ?_⟩
  · exact State.reads_of_legComplete drive length (State.legAnswer_unknown unknown) fun t active named =>
      absurd named (unknown t active)
  · rintro t l active rfl current
    refine ⟨fun wrong => ?_, ?_⟩
    · have still : t.isMoving leg = false := by
        rw [Bool.eq_false_iff, Ne, Trip.isMoving_iff current]
        exact fun both => wrong.elim (fun w => w both.1) (fun w => w both.2)
      refine State.reads_of_legComplete drive length ((State.legAnswer_named active rfl).trans ?_) fun x found _ => ?_
      · rw [still]
        rfl
      · rw [active] at found
        obtain ⟨rfl⟩ := found
        exact still
    · rintro rfl moving
      have answer : s.legAnswer w t.number t.current = (.done, .nothing) :=
        (State.legAnswer_named active rfl).trans (if_pos ((Trip.isMoving_iff current).mpr ⟨rfl, moving⟩))
      have runs := execLegComplete_taken (s := s) t.number t.current drive length
      rw [answer, State.takeLegComplete_moving ((congrArg Pipe.active (s.answered_pipe h _ w)).trans active) current moving] at runs
      have inState := s.answered_isIn h (.done, .nothing) w .stopping
      refine ⟨fun stopping => ?_, fun away inspection => ?_, fun away other => ?_⟩
      · rw [runs, State.legEnds_stopping (inState.trans (State.isIn_iff.mpr stopping))]
      · rw [runs, State.legEnds_moving (by rw [inState]; exact mt State.isIn_iff.mp away), if_pos inspection]
      · rw [runs, State.legEnds_moving (by rw [inState]; exact mt State.isIn_iff.mp away), if_neg other]
  · refine congrArg Host.Outcome.next ((if_pos ?_).trans ?_)
    · exact State.settleDue_iff.mpr ⟨x, timer, due⟩
    · exact congrArg (fun u : State => u.settle w) (State.settleEnds_of (s := s.begin) active current)

end Sys2Proof.Machine

/-! PROOFS. The landing test, re-levels, and what follows a landed leg (O45). -/

namespace Sys2Proof.Machine

/-! ## What the landing test examines (R119) -/

theorem Position.inWindow_iff {p : Position} {target : Int} {window : Nat} :
    p.inWindow target window = true ↔
      ∃ e, p.estimate = some e ∧ target - window ≤ e - p.band ∧ e + p.band ≤ target + window := by
  unfold Position.inWindow Position.interval
  cases p.estimate <;> simp [Interval.within, around]

theorem State.examined_cage {s : State} {t : Trip} {l : Leg} {st : Fin 16} {x : Int} (plain : t.isRockCycle = false)
    (kind : t.kind ≠ .rePair) (station : t.station = some st) (target : l.target .cage = some x) :
    s.examined t l = [⟨.cage, x, (s.work.stations[st]).window⟩] := by
  unfold State.examined
  rw [plain, if_neg Bool.false_ne_true]
  split
  · next e _ => exact absurd e kind
  · next found _ =>
    rw [station] at found
    obtain ⟨rfl⟩ := found
    rw [target]
    rfl
  · next found _ =>
    rw [station] at found
    cases found

theorem State.examined_free {s : State} {t : Trip} {r : RePair} (l : Leg) (kind : t.kind = .rePair) (repair : s.repair = some r) :
    s.examined t l = [s.examineSkip r.free r.pocket.point] := by
  have plain : t.isRockCycle = false := by
    unfold Trip.isRockCycle
    rw [kind]
    rfl
  unfold State.examined
  rw [plain, if_neg Bool.false_ne_true, kind, repair]

theorem State.examined_cycle {s : State} {t : Trip} {l : Leg} {k : Skip} {p : Pocket} (cycle : t.isRockCycle = true)
    (current : t.leg = some l) (rising : skipOf l.leading = some k) (paired : s.pairing = .paired p) :
    s.examined t l = [s.examineSkip k .tip, s.examineSkip k.other p.point] := by
  have found : t.rising = some k := by
    unfold Trip.rising
    rw [current]
    exact rising
  unfold State.examined
  rw [if_pos cycle, found, paired]
  rfl

/-! ## One conveyance (R119 to R123) -/

theorem State.relevel_failed {s : State} {w : Winder} {l : Leg} (spent : 3 ≤ l.relevels) (t : Trip) (targets : List LegMotion)
    (c : Conveyance) : s.relevel w t l targets c = s.failLanding w t c := if_pos spent

theorem State.landingTest_single {s : State} {w : Winder} {t : Trip} {l : Leg} {e : Examined} (examined : s.examined t l = [e]) :
    s.landingTest w t l =
      if 0 < s.excess e then s.failLanding w t e.conveyance
      else if s.lands e = true then s.landLeg w t
      else s.relevel w t l l.motions e.conveyance := by
  unfold State.landingTest
  rw [examined]
  dsimp only [State.widest]
  rw [List.all_cons, List.all_nil, Bool.and_true]
  rfl

/-- The landing test of one conveyance whose band is no greater than its window (R119). -/
theorem State.landingTest_certain {s : State} {w : Winder} {t : Trip} {l : Leg} {e : Examined} (examined : s.examined t l = [e])
    (narrow : (s.position e.conveyance).band ≤ e.window) :
    s.landingTest w t l =
      if s.lands e = true then s.landLeg w t else s.relevel w t l l.motions e.conveyance :=
  (State.landingTest_single examined).trans (if_neg (by unfold State.excess; omega))

theorem State.lands_of_absent {s : State} {e : Examined} (absent : (s.position e.conveyance).estimate = none) :
    ¬ s.lands e = true := fun inside => by
  obtain ⟨x, found, -⟩ := Position.inWindow_iff.mp inside
  rw [absent] at found
  cases found

theorem State.lands_iff_of_estimate {s : State} {e : Examined} {x : Int} (estimate : (s.position e.conveyance).estimate = some x) :
    s.lands e = true ↔
      e.target - e.window ≤ x - (s.position e.conveyance).band ∧ x + (s.position e.conveyance).band ≤ e.target + e.window := by
  refine Position.inWindow_iff.trans ?_
  rw [estimate]
  exact ⟨fun ⟨_, rfl, bounds⟩ => bounds, fun bounds => ⟨x, rfl, bounds⟩⟩

/-- A re-level writes the targets, the class, the count and the direction of the leg, and nothing else (R122). -/
theorem State.relevelLeg_eq (s : State) (l : Leg) (targets : List LegMotion) :
    s.relevelLeg l targets =
      { l with motions := targets, cls := .creep, relevels := l.relevels + 1, direction := (s.relevelLeg l targets).direction } := by
  unfold State.relevelLeg
  dsimp only
  split <;> rfl

theorem State.relevelLeg_direction {s : State} {l : Leg} {targets : List LegMotion} {e x : Int}
    (estimate : (s.position l.leading).estimate = some e)
    (target : (targets.find? (fun m => m.conveyance == l.leading)).map (·.target) = some x) :
    (s.relevelLeg l targets).direction = directionTo e x l.direction := by
  have found : ({ l with motions := targets, cls := .creep, relevels := l.relevels + 1 } : Leg).target l.leading = some x := target
  unfold State.relevelLeg
  dsimp only
  rw [estimate, found]

/-! ## A pair (R119, R120, R124) -/

/-- The skip reported of a missed pair: that outside its window, the rising one where both are (R124). -/
def State.missedOf (s : State) (r d : Examined) : Conveyance := if s.lands r then d.conveyance else r.conveyance

theorem State.landingTest_wide {s : State} {w : Winder} {t : Trip} {l : Leg} {r d : Examined} (examined : s.examined t l = [r, d])
    (wide : 0 < s.excess r ∨ 0 < s.excess d) :
    s.landingTest w t l = s.failLanding w t (if s.excess r < s.excess d then d.conveyance else r.conveyance) := by
  have worst : 0 < s.excess (if s.excess r < s.excess d then d else r) := by split <;> omega
  unfold State.landingTest
  rw [examined]
  dsimp only [State.widest]
  exact (if_pos worst).trans (congrArg _ (apply_ite Examined.conveyance ..))

theorem State.landingTest_pair {s : State} {w : Winder} {t : Trip} {l : Leg} {r d : Examined} (examined : s.examined t l = [r, d])
    (rising : s.excess r = 0) (descending : s.excess d = 0) :
    s.landingTest w t l = if s.lands r = true ∧ s.lands d = true then s.landLeg w t else s.missPair t l r d := by
  have worst : ¬0 < s.excess (if s.excess r < s.excess d then d else r) := by split <;> omega
  have all : [r, d].all s.lands = true ↔ s.lands r = true ∧ s.lands d = true := by simp
  unfold State.landingTest
  rw [examined]
  dsimp only [State.widest]
  exact (if_neg worst).trans (if_congr all rfl rfl)

theorem State.missPair_absent {s : State} {r d : Examined}
    (absent : (s.position r.conveyance).estimate = none ∨ (s.position d.conveyance).estimate = none) (t : Trip) (l : Leg) :
    s.missPair t l r d = s.failLanding .rock t (s.missedOf r d) := by
  unfold State.missPair
  dsimp only
  split
  · next er ed rising descending =>
    rw [rising, descending] at absent
    rcases absent with absent | absent <;> cases absent
  · rfl

theorem sameSense_iff {a b : Int} : sameSense a b = true ↔ (0 < a ∧ 0 < b) ∨ (a < 0 ∧ b < 0) := by
  simp [sameSense]

theorem State.missPair_of {s : State} {r d : Examined} {er ed : Int} (rising : (s.position r.conveyance).estimate = some er)
    (descending : (s.position d.conveyance).estimate = some ed) (t : Trip) (l : Leg) :
    let a := er - r.target
    let b := d.target - ed
    let m := if a.natAbs ≤ b.natAbs then a else b
    let targets := l.motions.map (fun x => { x with target := if x.conveyance = r.conveyance then er - m else ed + m })
    s.missPair t l r d =
      if (0 < a ∧ 0 < b) ∨ (a < 0 ∧ b < 0) then s.relevel .rock t l targets (s.missedOf r d)
      else s.failLanding .rock t (s.missedOf r d) := by
  intro a b m targets
  have moved (x : LegMotion) :
      movedTarget r.conveyance (if x.conveyance = r.conveyance then er else ed) x.conveyance m =
        if x.conveyance = r.conveyance then er - m else ed + m := by
    unfold movedTarget
    by_cases same : x.conveyance = r.conveyance
    · rw [if_pos same, if_pos same, if_pos same]
    · rw [if_neg same, if_neg same, if_neg same]
  unfold State.missPair
  dsimp only
  rw [rising, descending]
  refine if_congr sameSense_iff ?_ rfl
  refine congrArg (fun motions => s.relevel .rock t l motions (s.missedOf r d)) ?_
  exact List.map_congr_left fun x _ => congrArg (fun target => { x with target := target }) (moved x)

/-! ## What follows a landed leg (R121) -/

/-- A winder that leaves a motion trip: its trip has ended, and it stands in IDLE, or in PARKED and held where a hold was
pending (R87, R98). -/
theorem State.endAndPark_spec {s : State} {w : Winder} {t : Trip} (active : (s.pipe w).active = some t)
    (moving : (s.winder w).state ≠ .parked ∧ (s.winder w).state ≠ .idle) (o : TripOutcome) :
    let u := s.endAndPark w o
    (u.pipe w).settle = none ∧ (u.pipe w).active = none ∧ (u.pipe w).latest = some ⟨t.number, o⟩ ∧
      (u.pipe w).prior = (s.pipe w).latest ∧ u.counters.get w = (s.counters.get w).tripEnded o ∧
      (u.winder w).state = (if (s.winder w).holdPending = true then .parked else .idle) ∧
      ((s.winder w).holdPending = true → (u.winder w).held = true) ∧ (u.winder w).holdPending = false := by
  intro u
  obtain ⟨a, ha⟩ : ∃ a, a = s.endActive w o := ⟨_, rfl⟩
  have parked : u = a.park w := by rw [ha]; rfl
  have winder : a.winder w = s.winder w := by rw [ha, State.endActive_winders]
  have pipe : a.pipe w = { s.pipe w with
      active := none, offer := none, settle := none, prior := (s.pipe w).latest, latest := some ⟨t.number, o⟩ } := by
    rw [ha, State.endActive_pipe s w t o active]
  have counters : a.counters.get w = (s.counters.get w).tripEnded o := by
    rw [ha, State.endActive_of active]
    exact PerWinder.get_set_self ..
  have changed (st : WinderState) (other : (s.winder w).state ≠ st) :
      ((a.changeState w st).pipe w = { a.pipe w with settle := none }) ∧
        (a.changeState w st).counters = a.counters ∧
        (a.changeState w st).winder w = (s.winder w).entered st a.now := by
    have away : (a.winder w).state ≠ st := by rw [winder]; exact other
    refine ⟨State.changeState_pipe a w st away, ?_, ?_⟩
    · rw [State.changeState_eq away]
    · rw [State.changeState_winder a w st away, winder]
  obtain ⟨pipeParked, countersParked, winderParked⟩ := changed .parked moving.1
  obtain ⟨pipeIdle, countersIdle, winderIdle⟩ := changed .idle moving.2
  clear_value u
  subst parked
  unfold State.park
  rw [winder]
  by_cases held : (s.winder w).holdPending = true
  · rw [if_pos held, if_pos held, State.withWinder_pipe, State.withWinder_winder_self, pipeParked, winderParked]
    refine ⟨rfl, ?_, ?_, ?_, ?_, rfl, fun _ => rfl, rfl⟩
    · rw [pipe]
    · rw [pipe]
    · rw [pipe]
    · rw [← counters]
      exact congrArg (fun c => c.get w) countersParked
  · rw [if_neg held, if_neg held, pipeIdle, winderIdle]
    refine ⟨rfl, ?_, ?_, ?_, ?_, rfl, fun pending => absurd pending held, Bool.eq_false_iff.mpr held⟩
    · rw [pipe]
    · rw [pipe]
    · rw [pipe]
    · rw [← counters]
      exact congrArg (fun c => c.get w) countersIdle

theorem Trip.landedOutcome_eq (t : Trip) :
    t.landedOutcome = if ∃ l ∈ t.legs, 0 < l.relevels then .completedRelevelled else .completed := by
  unfold Trip.landedOutcome
  exact if_congr (by simp) rfl rfl

theorem Counters.tripEnded_landed (c : Counters) (t : Trip) :
    (c.tripEnded t.landedOutcome).completed = saturate (c.completed + 1) := by
  unfold Trip.landedOutcome
  split <;> rfl

/-- The state in which the leg is Landed and its settle timer idle. -/
def State.legLanded (s : State) (w : Winder) (t : Trip) : State :=
  s.withPipe w (fun p => { p with active := some t.landed, settle := none })

/-- The state in which the next leg of a landed trip is current. -/
def State.nextLeg (s : State) (w : Winder) : State :=
  s.withPipe w (fun p => { p with active := p.active.map (fun t => { t with current := t.current + 1 }) })

theorem State.landLeg_last {s : State} {w : Winder} {t : Trip} (kind : t.kind ≠ .rePair) (last : t.legs.length ≤ t.current) :
    s.landLeg w t = (s.legLanded w t).endAndPark w t.landedOutcome := (if_neg kind).trans (if_pos last)

theorem State.landLeg_next {s : State} {w : Winder} {t : Trip} (kind : t.kind ≠ .rePair) (more : t.current < t.legs.length) :
    s.landLeg w t =
      if (s.winder w).holdPending then ((s.legLanded w t).nextLeg w).endAndPark w .heldPartial
      else ((s.legLanded w t).nextLeg w).changeState w .dwelling := (if_neg kind).trans (if_neg (not_le.mpr more))

theorem State.legLanded_pipe (s : State) (w : Winder) (t : Trip) :
    (s.legLanded w t).pipe w = { s.pipe w with active := some t.landed, settle := none } := State.withPipe_pipe_self ..

theorem State.nextLeg_pipe (s : State) (w : Winder) (t : Trip) :
    ((s.legLanded w t).nextLeg w).pipe w =
      { s.pipe w with active := some { t.landed with current := t.current + 1 }, settle := none } := by
  unfold State.nextLeg
  rw [State.withPipe_pipe_self, State.legLanded_pipe]
  rfl

/-- The free move of a re-pair has landed: the Closing phase begins (R121, R140). -/
theorem State.landLeg_free {s : State} {t : Trip} {r : RePair} (kind : t.kind = .rePair)
    (settling : (s.winder .rock).state = .settling) (repair : s.repair = some r) :
    let u := s.landLeg .rock t
    (u.winder .rock).state = .clutching ∧ (u.winder .rock).permit = false ∧
      (u.winder .rock).holdPending = (s.winder .rock).holdPending ∧
      u.repair = some { r with phase := .closing } ∧ u.clutchTimer = some (s.now + 20000#32) ∧
      u.pipes = s.pipes.set .rock
        { s.pipe .rock with
          active := some { t with legs := t.legs.modify (t.current - 1) (fun l => { l with state := .landed }) }
          settle := none } ∧
      u.sent = s.sent ++ [.order .rock (s.drives.get .rock).tagCount .clutchClose] ∧
      (∀ c ∈ conveyancesOf .rock, (u.position c).armed = true ∧ (u.position c).motionRef = s.drumDepth.get (drumOf c)) ∧
      u.pairing = s.pairing ∧ u.queues = s.queues ∧ u.faults = s.faults ∧ u.counters = s.counters ∧
      u.winder .service = s.winder .service := by
  intro u
  have away : ((s.legLanded .rock t).winder .rock).state ≠ .clutching := by
    rw [show (s.legLanded .rock t).winder .rock = s.winder .rock from rfl, settling]
    decide
  have closed : u = (s.legLanded .rock t).beginClosing := if_pos kind
  have closing : s.repair.map (fun r => { r with phase := .closing }) = some { r with phase := .closing } := by
    rw [repair]
    rfl
  have position (c : Conveyance) (mem : c ∈ conveyancesOf .rock) :
      u.position c = { s.position c with motionRef := s.drumDepth.get (drumOf c), armed := true } := by
    rw [closed]
    unfold State.beginClosing
    rw [State.changeState_eq away]
    exact State.armWinder_position _ mem
  refine ⟨?_, ?_, ?_, ?_, ?_, ?_, ?_, fun c mem => ⟨?_, ?_⟩, ?_, ?_, ?_, ?_, ?_⟩
  iterate 3
    rw [closed]
    unfold State.beginClosing
    rw [State.changeState_eq away]
    rfl
  · rw [← closing, closed]
    unfold State.beginClosing
    rw [State.changeState_eq away]
    rfl
  iterate 3
    rw [closed]
    unfold State.beginClosing
    rw [State.changeState_eq away]
    rfl
  · rw [position c mem]
  · rw [position c mem]
  iterate 5
    rw [closed]
    unfold State.beginClosing
    rw [State.changeState_eq away]
    rfl

theorem State.landLeg_spec {s : State} {w : Winder} {t : Trip} (kind : t.kind ≠ .rePair)
    (settling : (s.winder w).state = .settling) :
    let u := s.landLeg w t
    let outcome : TripOutcome := if ∃ l ∈ t.legs, 0 < l.relevels then .completedRelevelled else .completed
    (u.pipe w).settle = none ∧
    (t.legs.length ≤ t.current →
      (u.pipe w).active = none ∧ (u.pipe w).latest = some ⟨t.number, outcome⟩ ∧ (u.pipe w).prior = (s.pipe w).latest ∧
      (u.counters.get w).completed = saturate ((s.counters.get w).completed + 1) ∧
      (u.winder w).state = (if (s.winder w).holdPending = true then .parked else .idle) ∧
      ((s.winder w).holdPending = true → (u.winder w).held = true) ∧ (u.winder w).holdPending = false) ∧
    (t.current < t.legs.length → (s.winder w).holdPending = true →
      (u.pipe w).active = none ∧ (u.pipe w).latest = some ⟨t.number, .heldPartial⟩ ∧
      (u.winder w).state = .parked ∧ (u.winder w).held = true ∧ (u.winder w).holdPending = false) ∧
    (t.current < t.legs.length → (s.winder w).holdPending = false →
      (u.winder w).state = .dwelling ∧
      ∃ x, (u.pipe w).active = some x ∧ x.number = t.number ∧ x.current = t.current + 1 ∧
        x.legs = t.legs.modify (t.current - 1) (fun l => { l with state := .landed })) := by
  intro u outcome
  have moving : (s.winder w).state ≠ .parked ∧ (s.winder w).state ≠ .idle := by
    rw [settling]
    decide
  have away : (((s.legLanded w t).nextLeg w).winder w).state ≠ .dwelling := by
    rw [show ((s.legLanded w t).nextLeg w).winder w = s.winder w from rfl, settling]
    decide
  have ended := State.endAndPark_spec (s := s.legLanded w t) (t := t.landed) (by rw [State.legLanded_pipe]) moving t.landedOutcome
  have held := State.endAndPark_spec (s := (s.legLanded w t).nextLeg w) (t := { t.landed with current := t.current + 1 })
    (by rw [State.nextLeg_pipe]) moving .heldPartial
  have dwells := State.changeState_pipe _ w _ away
  rw [State.nextLeg_pipe] at dwells
  have dwelling := State.changeState_winder _ w _ away
  obtain ⟨endedSettle, endedActive, endedLatest, endedPrior, endedCounters, endedState, endedHeld, endedPending⟩ := ended
  obtain ⟨heldSettle, heldActive, heldLatest, -, -, heldState, heldHeld, heldPending⟩ := held
  have final (last : t.legs.length ≤ t.current) : u = (s.legLanded w t).endAndPark w t.landedOutcome := State.landLeg_last kind last
  have next (more : t.current < t.legs.length) : u =
      if (s.winder w).holdPending then ((s.legLanded w t).nextLeg w).endAndPark w .heldPartial
      else ((s.legLanded w t).nextLeg w).changeState w .dwelling := State.landLeg_next kind more
  clear_value u
  refine ⟨?_, fun last => ?_, fun more pending => ?_, fun more clear => ?_⟩
  · rcases Nat.lt_or_ge t.current t.legs.length with more | last
    · rw [next more]
      split
      · exact heldSettle
      · rw [dwells]
    · rw [final last]
      exact endedSettle
  · rw [final last]
    refine ⟨endedActive, ?_, ?_, ?_, endedState, endedHeld, endedPending⟩
    · rw [endedLatest, Trip.landedOutcome_eq]
      rfl
    · rw [endedPrior, State.legLanded_pipe]
    · rw [endedCounters]
      exact Counters.tripEnded_landed _ t
  · rw [next more, if_pos pending]
    exact ⟨heldActive, heldLatest, heldState.trans (if_pos pending), heldHeld pending, heldPending⟩
  · rw [next more, clear, if_neg Bool.false_ne_true, dwells, dwelling]
    exact ⟨rfl, _, rfl, rfl, rfl, rfl⟩

/-- Settles O45. -/
theorem landingTestAndWhatFollows : Obligations.LandingTestAndWhatFollows := by
  refine ⟨fun s w t l c target window p examined record => ?_,
    fun s t l => ⟨fun st x plain kind station target => State.examined_cage plain kind station target,
      fun r kind repair => State.examined_free l kind repair⟩,
    fun s t l k p cycle current rising paired => ?_,
    fun s w t l targets c => ⟨s.relevelLeg_eq l targets, fun e x estimate target => ?_, fun spent => State.relevel_failed spent ..,
      fun left => if_neg (not_le.mpr left)⟩,
    fun s w t _ kind settling => State.landLeg_spec kind settling,
    fun s t r kind settling repair => State.landLeg_free kind settling repair⟩
  · subst record
    have leg := s.relevelLeg_eq l l.motions
    intro fail
    refine ⟨fun wide => ?_, fun narrow absent left => ?_, fun narrow absent spent => ?_, fun e narrow estimate => ⟨fun inside => ?_, ?_⟩⟩
    · exact (State.landingTest_single examined).trans (if_pos (Nat.sub_pos_of_lt wide))
    · exact (State.landingTest_certain examined narrow).trans (if_neg (State.lands_of_absent absent))
    · exact ((State.landingTest_certain examined narrow).trans (if_neg (State.lands_of_absent absent))).trans
        (State.relevel_failed spent ..)
    · exact (State.landingTest_certain examined narrow).trans (if_pos ((State.lands_iff_of_estimate estimate).mpr inside))
    · intro outside
      have missed := (State.landingTest_certain examined narrow (w := w)).trans
        (if_neg (mt (State.lands_iff_of_estimate estimate).mp outside))
      exact ⟨fun spent => missed.trans (State.relevel_failed spent ..), fun _ => ⟨missed, by rw [leg], by rw [leg], by rw [leg]⟩⟩
  · intro r d tip low excess inside fail
    have examined := State.examined_cycle cycle current rising paired
    have rises : s.lands (s.examineSkip k .tip) = true ↔ inside r tip := Position.inWindow_iff
    have descends : s.lands (s.examineSkip k.other p.point) = true ↔ inside d low := Position.inWindow_iff
    have missedIn (h : inside r tip) : s.missedOf (s.examineSkip k .tip) (s.examineSkip k.other p.point) = d :=
      if_pos (rises.mpr h)
    have missedOut (h : ¬inside r tip) : s.missedOf (s.examineSkip k .tip) (s.examineSkip k.other p.point) = r :=
      if_neg (mt rises.mp h)
    have above : s.excess (s.examineSkip k .tip) = excess r tip := rfl
    have below : s.excess (s.examineSkip k.other p.point) = excess d low := rfl
    have wideTest := State.landingTest_wide (w := .rock) examined
    have pairTest := State.landingTest_pair (w := .rock) examined
    rw [above, below] at wideTest pairTest
    refine ⟨wideTest, fun narrow narrow' => ⟨fun up down => ?_, fun absent => ?_, ?_⟩⟩
    · exact (pairTest narrow narrow').trans (if_pos ⟨rises.mpr up, descends.mpr down⟩)
    · have out : ¬(s.lands (s.examineSkip k .tip) = true ∧ s.lands (s.examineSkip k.other p.point) = true) := fun both =>
        absent.elim (fun a => State.lands_of_absent a both.1) (fun a => State.lands_of_absent a both.2)
      have failed := ((pairTest narrow narrow').trans (if_neg out)).trans
        (State.missPair_absent absent t l)
      exact ⟨fun h => failed.trans (congrArg _ (missedIn h)), fun h => failed.trans (congrArg _ (missedOut h))⟩
    · intro missed er ed out estimate estimate' whenIn whenOut a b m targets
      have same : s.missedOf (s.examineSkip k .tip) (s.examineSkip k.other p.point) = missed := by
        by_cases h : inside r tip
        · exact (missedIn h).trans (whenIn h).symm
        · exact (missedOut h).trans (whenOut h).symm
      have apart := (pairTest narrow narrow').trans
        (if_neg fun both => out ⟨rises.mp both.1, descends.mp both.2⟩)
      have taken := apart.trans (State.missPair_of estimate estimate' t l)
      rw [same] at taken
      exact ⟨fun sense => taken.trans (if_pos sense), fun opposed => taken.trans (if_neg opposed)⟩
  · rw [State.relevelLeg_direction estimate target]
    exact directionTo_spec _

end Sys2Proof.Machine

/-! PROOFS. RELEASE, HOLD and CLEAR HELD (O46, O47). -/

namespace Sys2Proof.Machine

/-! ## RELEASE (R99) -/

theorem State.heard_releaseTests (s : State) (h : Head) (k : Kind) (w : Winder) :
    (s.heard h k).releaseTests w = s.releaseTests w := by
  rw [State.heard_eq]
  rfl

theorem takeRelease_parked {s : State} {w : Winder} (parked : (s.winder w).state = .parked) :
    takeRelease w s = s.tested (s.releaseTests w) (fun s => ((s.released w).settle w, done)) :=
  if_pos (State.isIn_iff.mpr parked)

theorem takeRelease_pending {s : State} {w : Winder} (away : (s.winder w).state ≠ .parked) (pending : (s.winder w).holdPending = true) :
    takeRelease w s = ((s.withWinder w (fun r => { r with holdPending := false })).settle w, done) :=
  (if_neg (mt State.isIn_iff.mp away)).trans (if_pos pending)

theorem takeRelease_refused {s : State} {w : Winder} (away : (s.winder w).state ≠ .parked) (clear : (s.winder w).holdPending = false) :
    takeRelease w s = (s, refuse .winderState) :=
  (if_neg (mt State.isIn_iff.mp away)).trans (if_neg (by rw [clear]; exact Bool.false_ne_true))

theorem State.withWinder_eq {s : State} {winders : PerWinder WinderRecord} (same : s.winders = winders) (w : Winder)
    (f : WinderRecord → WinderRecord) :
    s.withWinder w f = { s with winders := winders.set w (f (winders.get w)) } := by
  subst same
  rfl

/-- The tests of RELEASE in PARKED, as propositions (R99). -/
theorem State.releaseTests_same (s : State) (w : Winder) :
    List.Forall₂ SameTest
      [(s.unconfigured = true, .unconfigured), ((s.monitor w).running = false, .monitorStopped),
       (s.emergencyLine.get w = true, .emergencyStop), (s.reports.get w = none ∨ (s.winder w).silent ≠ .clear, .driveSilent),
       (∃ c ∈ conveyancesOf w, (s.position c).state = .lost, .positionLost), ((s.winder w).held = true, .held)]
      (s.releaseTests w) := by
  refine .cons ⟨Iff.rfl, rfl⟩ (.cons ⟨not_true_iff.symm, rfl⟩ (.cons ⟨Iff.rfl, rfl⟩ (.cons ⟨?_, rfl⟩ (.cons ⟨?_, rfl⟩
    (.cons ⟨Iff.rfl, rfl⟩ .nil)))))
  · rw [Bool.or_eq_true, Option.isNone_iff_eq_none, bne_iff_ne]
  · rw [List.any_eq_true]
    exact exists_congr fun c => and_congr_right fun _ => beq_iff_eq.symm

/-- Every check of a winder's conveyances is armed at an entry to IDLE (R29). -/
theorem State.enterIdle_position {s : State} {w : Winder} {c : Conveyance} (other : (s.winder w).state ≠ .idle)
    (mem : c ∈ conveyancesOf w) :
    (s.changeState w .idle).position c = { s.position c with motionRef := s.drumDepth.get (drumOf c), armed := true } := by
  rw [State.changeState_eq other]
  exact State.armWinder_position _ mem

theorem State.changeState_winder_ne_eq (s : State) {v w : Winder} (st : WinderState) (other : v ≠ w) :
    (s.changeState w st).winder v = s.winder v := by
  by_cases same : (s.winder w).state = st
  · rw [State.changeState_self s w st same]
  · rw [State.changeState_eq same]
    exact PerWinder.get_set_ne _ _ other

/-- A winder released and the end of the event: what they leave (R99). -/
theorem State.released_spec {s : State} {w : Winder} (parked : (s.winder w).state = .parked) :
    let t := (s.released w).settle w
    (t.winder w).state = .idle ∧ (t.winder w).permit = false ∧ (t.winder w).brakeDemand = false ∧
      (t.winder w).recovery = s.restricted.get w ∧
      (t.winder w).mode =
        (if s.restricted.get w = true ∨ s.commissioning = true then .inspection else (s.winder w).mode) ∧
      (∀ c ∈ conveyancesOf w, (t.position c).armed = true ∧ (t.position c).motionRef = s.drumDepth.get (drumOf c)) ∧
      (∀ v, v ≠ w → t.winder v = s.winder v) := by
  intro t
  have other : (s.winder w).state ≠ .idle := by
    rw [parked]
    decide
  have still := (s.released w).settle_still w
  have mode (x : WinderRecord) (same : x.mode = (s.winder w).mode) :
      (if s.restricted.get w || s.commissioning then Mode.inspection else x.mode) =
        if s.restricted.get w = true ∨ s.commissioning = true then .inspection else (s.winder w).mode := by
    rw [same]
    exact if_congr (Bool.or_eq_true ..).to_iff rfl rfl
  have winder : t.winder w =
      { (s.winder w).entered .idle s.now with
        recovery := s.restricted.get w
        mode := if s.restricted.get w || s.commissioning then .inspection else ((s.winder w).entered .idle s.now).mode } := by
    have changed := State.changeState_winder s w _ other
    rw [← changed]
    exact (congrArg (fun p => p.get w) still.winders).trans (State.withWinder_winder_self ..)
  have away (v : Winder) (apart : v ≠ w) : t.winder v = s.winder v := by
    rw [← s.changeState_winder_ne_eq .idle apart]
    exact (congrArg (fun p => p.get v) still.winders).trans (State.withWinder_winder_ne _ _ _ apart)
  have position (c : Conveyance) (mem : c ∈ conveyancesOf w) :
      t.position c = { s.position c with motionRef := s.drumDepth.get (drumOf c), armed := true } := by
    rw [← State.enterIdle_position other mem]
    exact congrArg (fun p => p.get c) still.positions
  clear_value t
  refine ⟨?_, ?_, ?_, ?_, ?_, fun c mem => ⟨?_, ?_⟩, away⟩
  · rw [winder]
    rfl
  · rw [winder]
    rfl
  · rw [winder]
    rfl
  · rw [winder]
  · rw [winder]
    exact mode _ rfl
  · rw [position c mem]
  · rw [position c mem]

/-- Settles O46. -/
theorem releaseFollowsItsTests : Obligations.ReleaseFollowsItsTests := by
  intro s h n w hw a cmd heard no silent lost
  have winder : (s.heard h .release).winder w = s.winder w := s.heard_winder ..
  have state : ((s.heard h .release).winder w).state = (s.winder w).state := congrArg WinderRecord.state winder
  have pending : ((s.heard h .release).winder w).holdPending = (s.winder w).holdPending := congrArg WinderRecord.holdPending winder
  refine ⟨fun away clear => ?_, fun away held => ?_, fun parked => ?_⟩
  · exact State.answers_of_winderRequest hw rfl a (takeRelease_refused (state ▸ away) (pending.trans clear))
  · refine State.answers_of_winderRequest hw rfl a ((takeRelease_pending (state ▸ away) (pending.trans held)).trans ?_)
    rw [State.withWinder_eq (s.heard_winders ..)]
    rfl
  · have tests := State.inOrder_of_winderRequest (c := cmd) (block := takeRelease)
      (taken := s.Answers cmd h .release (((s.heard h .release).released w).settle w) (.done, .nothing)) hw rfl a
      ((takeRelease_parked (state.trans parked)).trans (by rw [State.heard_releaseTests])) (s.releaseTests_same w)
      (fun _ answers => answers)
    obtain ⟨unconfigured, tests⟩ := tests
    refine ⟨unconfigured, fun configured stopped => ?_, fun configured running => ?_⟩
    · exact (tests (by rw [configured]; decide)).1 stopped
    · obtain ⟨emergency, tests⟩ := (tests (by rw [configured]; decide)).2 (by rw [running]; decide)
      refine ⟨emergency, fun released quiet => ?_, fun released heardFrom gone => ?_, fun released heardFrom found held => ?_,
        fun released heardFrom found clear => ?_⟩
      · exact (tests (by rw [released]; decide)).1 quiet
      · exact ((tests (by rw [released]; decide)).2 heardFrom).1 gone
      · exact (((tests (by rw [released]; decide)).2 heardFrom).2 found).1 held
      · have answers := (((tests (by rw [released]; decide)).2 heardFrom).2 found).2 (by rw [clear]; decide)
        refine answers.completes (by decide) ?_
        obtain ⟨idle, permit, brake, recovery, mode, positions, others⟩ := State.released_spec (state.trans parked)
        rw [State.heard_restricted, State.heard_commissioning, winder] at mode
        rw [State.heard_restricted] at recovery
        rw [State.heard_drumDepth] at positions
        exact ⟨idle, permit, brake, recovery, mode, positions, fun v apart => (others v apart).trans (s.heard_winder ..),
          List.getLast?_concat⟩

/-! ## HOLD and CLEAR HELD (R100) -/

/-- A winder put into PARKED and held: the rest of its pipeline stands, and nothing is sent (R100). -/
theorem State.parkHeld_spec (s : State) (w : Winder) :
    let u := s.parkHeld w
    (u.winder w).state = .parked ∧ (u.winder w).held = true ∧
      (u.winder w).permit = (if (s.winder w).state = .parked then (s.winder w).permit else false) ∧
      u.pipe w = { s.pipe w with settle := (u.pipe w).settle } ∧ u.queues = s.queues ∧ u.ended = s.ended ∧ u.sent = s.sent := by
  intro u
  by_cases parked : (s.winder w).state = .parked
  · have same : u = s.withWinder w (fun r => { r with held := true }) :=
      congrArg (fun t : State => t.withWinder w (fun r => { r with held := true })) (State.changeState_self s w _ parked)
    have winder : u.winder w = { s.winder w with held := true } := by
      rw [same]
      exact State.withWinder_winder_self ..
    refine ⟨by rw [winder]; exact parked, by rw [winder], by rw [winder, if_pos parked], ?_⟩
    rw [same]
    exact ⟨rfl, rfl, rfl, rfl⟩
  · have winder : u.winder w = { (s.winder w).entered .parked s.now with held := true } := by
      rw [← State.changeState_winder s w _ parked]
      exact State.withWinder_winder_self ..
    have pipe : u.pipe w = { s.pipe w with settle := none } := State.changeState_pipe s w _ parked
    refine ⟨by rw [winder]; rfl, by rw [winder], by rw [winder, if_neg parked]; rfl, by rw [pipe], ?_⟩
    have changed : u = (s.changeState w .parked).withWinder w (fun r => { r with held := true }) := rfl
    rw [changed, State.changeState_eq parked]
    exact ⟨rfl, rfl, rfl⟩

/-- A withdrawal from the state that a request finds is a withdrawal from the state before it. -/
theorem State.heard_withdrawn {s t : State} {h : Head} {k : Kind} {w : Winder} (withdrawn : (s.heard h k).Withdrawn t w) :
    s.Withdrawn t w :=
  withdrawn.of_same
    ⟨congrArg Pipe.staged (s.heard_pipe h k w).symm, congrArg (fun q => q.get w) (s.heard_queues h k).symm,
      (s.heard_pairing h k).symm, (s.heard_now h k).symm⟩
    ⟨rfl, rfl, rfl, rfl⟩

theorem State.Withdrawn.parkHeld {s t : State} {w : Winder} (withdrawn : s.Withdrawn t w) : s.Withdrawn (t.parkHeld w) w := by
  obtain ⟨-, -, -, pipe, queues, ended, -⟩ := t.parkHeld_spec w
  exact withdrawn.of_same ⟨rfl, rfl, rfl, rfl⟩
    ⟨by rw [pipe], by rw [pipe], congrArg (fun q => q.get w) queues, congrArg (fun q => q.get w) ended⟩

theorem State.Withdrawn.withSent {s t : State} {w : Winder} (withdrawn : s.Withdrawn t w) (l : List Sent) :
    s.Withdrawn { t with sent := l } w := withdrawn.of_same ⟨rfl, rfl, rfl, rfl⟩ ⟨rfl, rfl, rfl, rfl⟩

theorem takeHold_refused {s : State} {w : Winder} (st : (s.winder w).state = .tripped ∨ (s.winder w).state = .lockout) :
    takeHold w s = (s, refuse .winderState) := by
  unfold takeHold
  rcases st with st | st <;> rw [st]

/-- The states in which HOLD is pending until the motion has ended (R100). -/
theorem takeHold_moving {s : State} {w : Winder}
    (st : (s.winder w).state = .running ∨ (s.winder w).state = .settling ∨ (s.winder w).state = .stopping ∨
      (s.winder w).state = .clutching) :
    takeHold w s =
      if (s.winder w).holdPending then (s, done)
      else ((s.withWinder w (fun r => { r with holdPending := true })).withdrawStaged w .waiting, done) := by
  unfold takeHold
  rcases st with st | st | st | st <;> rw [st]

theorem takeHold_resting {s : State} {w : Winder} (st : (s.winder w).state = .parked ∨ (s.winder w).state = .idle) :
    takeHold w s = ((s.withdrawStaged w .waiting).parkHeld w, done) := by
  unfold takeHold
  rcases st with st | st <;> rw [st]

theorem takeHold_dwelling {s : State} {w : Winder} (st : (s.winder w).state = .dwelling) :
    takeHold w s = (((s.endActive w .heldPartial).withdrawStaged w .waiting).parkHeld w, done) := by
  unfold takeHold
  rw [st]

/-- A HOLD in DWELLING: the trip ends HELD PARTIAL, and the staged one is withdrawn after it (R100; log 38). -/
theorem State.holdDwelling_spec {s : State} {w : Winder} {a : Trip} (active : (s.pipe w).active = some a) :
    let t := ((s.endActive w .heldPartial).withdrawStaged w .waiting).parkHeld w
    (t.winder w).state = .parked ∧ (t.winder w).held = true ∧ (t.pipe w).active = none ∧
      (t.pipe w).staged = none ∧ (t.pipe w).offer = none ∧ s.Withdrawn t w ∧
      ((s.pipe w).staged = none → (t.pipe w).latest = some ⟨a.number, .heldPartial⟩) ∧ t.sent = s.sent := by
  intro t
  have pipe := State.endActive_pipe s w a .heldPartial active
  have frame : (s.endActive w .heldPartial).pairing = s.pairing ∧ (s.endActive w .heldPartial).now = s.now := by
    rw [State.endActive_of active]
    exact ⟨rfl, rfl⟩
  have queues := s.endActive_queues w .heldPartial
  have sent := s.endActive_sent w .heldPartial
  obtain ⟨x, hx⟩ : ∃ x, x = s.endActive w .heldPartial := ⟨_, rfl⟩
  rw [← hx] at pipe frame queues sent
  have ended : t = (x.withdrawStaged w .waiting).parkHeld w := by rw [hx]
  obtain ⟨staged, slot⟩ := x.withdrawStaged_slots w .waiting
  have inactive : (x.pipe w).active = none := by rw [pipe]
  have offer : ((x.withdrawStaged w .waiting).pipe w).offer = none := by
    cases found : (x.pipe w).staged with
    | none =>
      rw [State.withdrawStaged_none x w .waiting found, pipe]
    | some y => exact State.withdrawStaged_offer found inactive .waiting
  have withdrawn : s.Withdrawn (x.withdrawStaged w .waiting) w :=
    (x.withdrawStaged_withdrawn w).of_same
      ⟨by rw [pipe], congrArg (fun q => q.get w) queues.symm, frame.1.symm, frame.2.symm⟩ ⟨rfl, rfl, rfl, rfl⟩
  obtain ⟨parked, held, -, slots, -, -, kept⟩ := (x.withdrawStaged w .waiting).parkHeld_spec w
  rw [ended]
  refine ⟨parked, held, ?_, ?_, ?_, withdrawn.parkHeld, fun unstaged => ?_, ?_⟩
  · rw [slots]
    exact slot.trans inactive
  · rw [slots]
    exact staged
  · rw [slots]
    exact offer
  · have none : (x.pipe w).staged = none := by
      rw [pipe]
      exact unstaged
    rw [slots, State.withdrawStaged_none x w .waiting none, pipe]
  · rw [kept, State.withdrawStaged_sent, sent]

/-- Settles O47. -/
theorem holdActsByTheState : Obligations.HoldActsByTheState := by
  intro s h n w hw
  refine ⟨fun a => ?_, fun a => ?_⟩
  · intro cmd st pending
    have winder : (s.heard h .hold).winder w = s.winder w := s.heard_winder ..
    have state : ((s.heard h .hold).winder w).state = st := congrArg WinderRecord.state winder
    have sentNothing : (s.heard h .hold).sent = [] := s.heard_sent ..
    refine ⟨fun refused => ?_, fun moving held => ?_, fun moving clear => ?_, fun resting => ?_, fun dwelling t active => ?_⟩
    · exact State.answers_of_winderRequest hw rfl a (takeHold_refused (by rw [state]; exact refused))
    · refine State.answers_of_winderRequest hw rfl a ((takeHold_moving (by rw [state]; exact moving)).trans (if_pos ?_))
      rw [winder]
      exact held
    · have taken : takeHold w (s.heard h .hold) = (pending.withdrawStaged w .waiting, done) := by
        rw [takeHold_moving (by rw [state]; exact moving), if_neg (by rw [winder, clear]; decide),
          State.withWinder_eq (s.heard_winders ..)]
        rfl
      have answers := State.answers_of_winderRequest hw (c := cmd) rfl a taken
      refine ⟨answers.completes (by decide) ?_, answers⟩
      have requeues := pending.withdrawStaged_requeues w .waiting
      obtain ⟨staged, slot⟩ := pending.withdrawStaged_slots w .waiting
      have withdrawn : s.Withdrawn (pending.withdrawStaged w .waiting) w :=
        State.heard_withdrawn (h := h) (k := .hold)
          ((pending.withdrawStaged_withdrawn w).of_same ⟨rfl, rfl, rfl, rfl⟩ ⟨rfl, rfl, rfl, rfl⟩)
      have kept : (pending.winder w) = { s.winder w with holdPending := true } := PerWinder.get_set_self ..
      refine ⟨?_, staged, withdrawn.withSent _, slot.trans (congrArg Pipe.active (s.heard_pipe ..)), ?_, ?_, ?_⟩
      · rw [← kept, requeues]
        rfl
      · rw [requeues]
        exact s.heard_positions ..
      · rw [requeues]
        exact s.heard_work ..
      · exact congrArg (· ++ [s.replyTo h .hold (.done, .nothing)]) ((pending.withdrawStaged_sent w .waiting).trans sentNothing)
    · have answers := State.answers_of_winderRequest hw (c := cmd) rfl a (takeHold_resting (by rw [state]; exact resting))
      refine answers.completes (by decide) ?_
      obtain ⟨x, hx⟩ : ∃ x, x = (s.heard h .hold).withdrawStaged w .waiting := ⟨_, rfl⟩
      have requeues := (s.heard h .hold).withdrawStaged_requeues w .waiting
      have staged := ((s.heard h .hold).withdrawStaged_slots w .waiting).1
      have withdrawn := State.heard_withdrawn ((s.heard h .hold).withdrawStaged_withdrawn w)
      have sent := ((s.heard h .hold).withdrawStaged_sent w .waiting).trans sentNothing
      rw [← hx] at requeues staged withdrawn sent ⊢
      have record : x.winder w = s.winder w := by
        rw [← winder, requeues]
        rfl
      obtain ⟨parked, held, permit, slots, -, -, kept⟩ := x.parkHeld_spec w
      rw [record] at permit
      exact ⟨parked, held, permit, (congrArg Pipe.staged slots).trans staged, withdrawn.parkHeld.withSent _,
        congrArg (· ++ [s.replyTo h .hold (.done, .nothing)]) (kept.trans sent)⟩
    · have answers := State.answers_of_winderRequest hw (c := cmd) rfl a (takeHold_dwelling (by rw [state]; exact dwelling))
      refine answers.completes (by decide) ?_
      obtain ⟨parked, held, empty, unstaged, offer, withdrawn, latest, sent⟩ :=
        State.holdDwelling_spec ((congrArg Pipe.active (s.heard_pipe h .hold w)).trans active)
      rw [State.heard_pipe] at latest
      exact ⟨parked, held, empty, unstaged, offer, (State.heard_withdrawn withdrawn).withSent _, latest,
        congrArg (· ++ [s.replyTo h .hold (.done, .nothing)]) (sent.trans sentNothing)⟩
  · refine State.answers_of_winderRequest hw rfl a ?_
    rw [State.withWinder_eq (s.heard_winders ..)]
    rfl

end Sys2Proof.Machine

/-! PROOFS. STOP, and the report at rest that ends a stop (O48). -/

namespace Sys2Proof.Machine

/-! ## The end of a stop (R102) -/

theorem State.atRest_iff {s : State} {w : Winder} : s.atRest w = true ↔ ∀ c ∈ conveyancesOf w, (s.position c).rest = true := by
  unfold State.atRest
  rw [List.all_eq_true]

theorem State.stopAtRest_iff {s : State} {st : WinderState} {w : Winder} :
    (st == .stopping && s.isIn w .stopping && s.atRest w) = true ↔
      st = .stopping ∧ (s.winder w).state = .stopping ∧ ∀ c ∈ conveyancesOf w, (s.position c).rest = true := by
  rw [Bool.and_eq_true, Bool.and_eq_true, beq_iff_eq, State.isIn_iff, State.atRest_iff, and_assoc]

theorem StopCause.outcome_getD (cause : Option StopCause) :
    (cause.getD .request).outcome = if cause = some .bar then .stoppedBar else .stopped := by
  rcases cause with _ | _ | _ <;> rfl

/-! ## STOP by the state of the winder (R101, R139) -/

theorem State.stopWinder_quiet {s : State} {w : Winder}
    (st : (s.winder w).state = .stopping ∨ (s.winder w).state = .parked ∨ (s.winder w).state = .tripped ∨
      (s.winder w).state = .lockout) : s.stopWinder w = s := by
  unfold State.stopWinder
  rcases st with st | st | st | st <;> rw [st]

theorem State.stopWinder_landing {s : State} {w : Winder} (st : (s.winder w).state = .settling ∨ (s.winder w).state = .dwelling) :
    s.stopWinder w = s.endAndPark w .stopped := by
  unfold State.stopWinder
  rcases st with st | st <;> rw [st]

theorem State.stopWinder_idle {s : State} {w : Winder} (st : (s.winder w).state = .idle) :
    s.stopWinder w = s.withdrawStaged w .waiting := by
  unfold State.stopWinder
  rw [st]

theorem State.stopWinder_running {s : State} {w : Winder} (st : (s.winder w).state = .running) :
    s.stopWinder w = s.enterStopping w .request := by
  unfold State.stopWinder
  rw [st]

theorem State.stopWinder_clutching {s : State} {w : Winder} (st : (s.winder w).state = .clutching) :
    s.stopWinder w = (s.withWinder w (fun r => { r with stopPending := true })).stopFreeMove := by
  unfold State.stopWinder
  rw [st]

theorem State.stopFreeMove_winders (s : State) : s.stopFreeMove.winders = s.winders ∧ s.stopFreeMove.sent = s.sent := by
  unfold State.stopFreeMove
  split
  · split
    · exact ⟨rfl, rfl⟩
    · exact ⟨rfl, rfl⟩
  · exact ⟨rfl, rfl⟩

/-- A free move on offer is offered no further, and its clutch timer runs (R139). -/
theorem State.stopFreeMove_offered {s : State} {r : RePair} (repair : s.repair = some r) (free : r.phase = .freeMove)
    (offered : (s.pipe .rock).offer ≠ none) :
    s.stopFreeMove =
      { s with
        pipes := s.pipes.set .rock { s.pipe .rock with offer := none }
        repair := some { r with offerEnd := some .stopped }
        clutchTimer := some (s.clutchTimer.getD (s.now + 20000#32)) } := by
  have marked : s.repair.map (fun r => { r with offerEnd := some .stopped }) = some { r with offerEnd := some .stopped } := by
    rw [repair]
    rfl
  unfold State.stopFreeMove
  rw [repair]
  dsimp only
  rw [if_pos ⟨free, Option.isSome_iff_ne_none.mpr offered⟩, State.endFreeOffer_eq, marked]

theorem State.stopFreeMove_kept {s : State} {r : RePair} (repair : s.repair = some r)
    (kept : r.phase ≠ .freeMove ∨ (s.pipe .rock).offer = none) : s.stopFreeMove = s := by
  unfold State.stopFreeMove
  rw [repair]
  refine if_neg fun both => kept.elim (fun other => other both.1) fun none => ?_
  rw [none] at both
  exact Bool.noConfusion both.2

/-- What STOP does in CLUTCHING (R101, R139). -/
theorem State.stopClutching_spec {s : State} {w : Winder} (clutching : (s.winder w).state = .clutching) :
    let t := (s.withWinder w (fun r => { r with stopPending := true })).stopFreeMove
    (t.winder w).stopPending = true ∧ (t.winder w).state = .clutching ∧
      (∀ r, w = .rock → s.repair = some r → r.phase = .freeMove →
        (t.pipe .rock).offer = none ∧
        ((s.pipe .rock).offer ≠ none →
          t.clutchTimer = some (s.clutchTimer.getD (s.now + 20000#32)) ∧
          t.repair = some { r with offerEnd := some .stopped }) ∧
        ((s.pipe .rock).offer = none → t.clutchTimer = s.clutchTimer ∧ t.repair = s.repair)) ∧
      (∀ r, w = .rock → s.repair = some r → r.phase ≠ .freeMove →
        t.clutchTimer = s.clutchTimer ∧ t.repair = s.repair ∧ t.pipes = s.pipes) ∧
      t.sent = s.sent := by
  intro t
  obtain ⟨x, hx⟩ : ∃ x, x = s.withWinder w (fun r => { r with stopPending := true }) := ⟨_, rfl⟩
  have stopped : t = x.stopFreeMove := by rw [hx]
  have winder : x.winder w = { s.winder w with stopPending := true } := by
    rw [hx]
    exact State.withWinder_winder_self ..
  have kept : x.repair = s.repair ∧ x.pipes = s.pipes ∧ x.clutchTimer = s.clutchTimer ∧ x.now = s.now ∧ x.sent = s.sent := by
    rw [hx]
    exact ⟨rfl, rfl, rfl, rfl, rfl⟩
  obtain ⟨repair, pipes, timer, now, sent⟩ := kept
  have pipe : x.pipe .rock = s.pipe .rock := congrArg (fun p => p.get .rock) pipes
  obtain ⟨winders, unsent⟩ := x.stopFreeMove_winders
  have record : t.winder w = { s.winder w with stopPending := true } := by
    rw [← winder, stopped]
    exact congrArg (fun p => p.get w) winders
  refine ⟨by rw [record], by rw [record]; exact clutching, fun r _ found free => ⟨?_, fun offered => ?_, fun none => ?_⟩,
    fun r _ found other => ?_, ?_⟩
  · by_cases offered : (x.pipe .rock).offer = none
    · rw [stopped, State.stopFreeMove_kept (repair.trans found) (.inr offered)]
      exact offered
    · rw [stopped, State.stopFreeMove_offered (repair.trans found) free offered]
      rfl
  · rw [stopped, State.stopFreeMove_offered (repair.trans found) free (by rw [pipe]; exact offered), timer, now]
    exact ⟨rfl, rfl⟩
  · rw [stopped, State.stopFreeMove_kept (repair.trans found) (.inr ((congrArg Pipe.offer pipe).trans none))]
    exact ⟨timer, repair⟩
  · rw [stopped, State.stopFreeMove_kept (repair.trans found) (.inl other)]
    exact ⟨timer, repair, pipes⟩
  · rw [stopped, unsent, sent]

theorem State.stop_answers {s t : State} {h : Head} {n : Nat} {w : Winder} (hw : winderCode n = some w)
    (a : s.admits h .stop 1 (some n)) (stopped : ((s.heard h .stop).stopWinder w).settle w = t) :
    s.Answers (.stop h n) h .stop t (.done, .nothing) :=
  State.answers_of_winderRequest hw rfl a (congrArg (fun u : State => (u, done)) stopped)

/-- Settles O48. -/
theorem stopActsByTheState : Obligations.StopActsByTheState := by
  refine ⟨fun s st w => ⟨fun ends => ?_, fun other => if_neg (mt State.stopAtRest_iff.mp other)⟩, ?_⟩
  · exact (if_pos (State.stopAtRest_iff.mpr ends)).trans (congrArg (s.endAndPark w) (StopCause.outcome_getD _))
  · intro s h n w hw a cmd heard st
    have state : (heard.winder w).state = st := congrArg WinderRecord.state (s.heard_winder ..)
    have unsent : heard.sent = [] := s.heard_sent ..
    refine ⟨fun quiet => ?_, fun landing => ?_, fun clutching => ?_, fun idle => ?_, fun running below trip active => ?_⟩
    · exact State.stop_answers hw a (congrArg (fun u : State => u.settle w) (State.stopWinder_quiet (by rw [state]; exact quiet)))
    · exact State.stop_answers hw a (congrArg (fun u : State => u.settle w) (State.stopWinder_landing (by rw [state]; exact landing)))
    · have inClutching : (heard.winder w).state = .clutching := state.trans clutching
      obtain ⟨pending, still, freeMove, other, sent⟩ := State.stopClutching_spec inClutching
      have quiet := State.settle_quiet _ w (by rw [still]; rfl)
      refine (State.stop_answers hw a
        ((congrArg (fun u : State => u.settle w) (State.stopWinder_clutching inClutching)).trans quiet)).completes (by decide) ?_
      rw [State.heard_repair, State.heard_pipe, State.heard_clutchTimer, State.heard_now] at freeMove
      rw [State.heard_repair, State.heard_clutchTimer, State.heard_pipes] at other
      exact ⟨pending, still, freeMove, other, congrArg (· ++ [s.replyTo h .stop (.done, .nothing)]) (sent.trans unsent)⟩
    · exact State.stop_answers hw a (congrArg (fun u : State => u.settle w) (State.stopWinder_idle (state.trans idle)))
    · have inRunning : (heard.winder w).state = .running := state.trans running
      have critical : ({ heard with winders := heard.winders.set w { heard.winder w with state := .stopping } } : State).belowCritical w =
          true := by
        rw [← below, show heard = s.heard h .stop from rfl, State.heard_eq]
        rfl
      obtain ⟨stopping, permit, cause, started, kept, unstaged, withdrawn, later, sent⟩ :=
        State.enterStopping_spec .request inRunning critical ((congrArg Pipe.active (s.heard_pipe ..)).trans active)
      have quiet := State.settle_quiet _ w (by rw [stopping]; rfl)
      refine (State.stop_answers hw a
        ((congrArg (fun u : State => u.settle w) (State.stopWinder_running inRunning)).trans quiet)).completes (by decide) ?_
      rw [unsent, show heard.drives = s.drives from s.heard_drives .., List.nil_append] at sent
      refine ⟨stopping, permit, cause, started.trans (congrArg some (s.heard_now ..)), kept, unstaged,
        (State.heard_withdrawn withdrawn).withSent _, ?_, List.getLast?_concat⟩
      rw [sent]
      rfl

end Sys2Proof.Machine

/-! PROOFS. WINDER RESET, SET MODE, the acknowledgements, and what a change of state sets (O49 to O51). -/

namespace Sys2Proof.Machine

/-! ## WINDER RESET (R73, R103) -/

theorem State.heard_console_assembly {h : Head} (console : h.link = .console) (s : State) (k : Kind) :
    (s.heard h k).assembly = s.assembly := by
  rw [State.heard_eq]
  refine if_neg fun both => ?_
  rw [console] at both
  cases both.1

theorem console_of_winderReset {s : State} {h : Head} {n : Nat} (a : s.admits h .winderReset 1 (some n)) : h.link = .console :=
  beq_iff_eq.mp (State.listed_of_admits a)

theorem State.emptySuppression_position (s : State) (w : Winder) (c : Conveyance) :
    (s.emptySuppression w).position c = if ownerOf c = w then { s.position c with suppressed := [] } else s.position c := by
  cases w <;> cases c <;> rfl

/-- The records with the suppression lists of a winder's conveyances emptied (R52). -/
def unsuppressed (w : Winder) (p : PerConveyance Position) : PerConveyance Position :=
  let q := p.set (firstConveyance w) { p.get (firstConveyance w) with suppressed := [] }
  q.set (secondConveyance w) { q.get (secondConveyance w) with suppressed := [] }

theorem State.emptySuppression_eq (s : State) (w : Winder) :
    s.emptySuppression w = { s with positions := unsuppressed w s.positions } := rfl

theorem State.resetWinder_eq (s : State) (w : Winder) :
    s.resetWinder w =
      { s with
        queues := s.queues.set w []
        ended := s.ended.set w []
        assembly := if w = .service then none else s.assembly
        pipes := s.pipes.set w { s.pipe w with latest := none, prior := none }
        monitors := s.monitors.set w { s.monitor w with overIndication := false, underIndication := false }
        winders := s.winders.set w { s.winder w with held := false, recovery := false, slowCap := none }
        positions := unsuppressed w s.positions } := by
  unfold State.resetWinder
  rw [State.emptySuppression_eq]
  rfl

/-- The flag of the reply: an open assembly is abandoned by the reset of the service winder (R68, R169). -/
theorem resetFlag_eq (w : Winder) (assembly : Option Assembly) :
    (assembly.isSome && (if w = .service then none else assembly).isNone) = (decide (w = .service) && assembly.isSome) := by
  cases w <;> cases assembly <;> rfl

theorem State.answering_winderReset {s t : State} {h : Head} {w : Winder} (console : h.link = .console)
    (assembly : t.assembly = if w = .service then none else s.assembly) (sent : t.sent = []) :
    (s.answering t h .winderReset (.done, .nothing)).sent =
      [.reply h.link (kindNumber .winderReset + 128) h.tag ⟨.done, decide (w = .service) && s.assembly.isSome, .nothing⟩] := by
  have quiet : s.abandoning h .winderReset = false := by
    unfold State.abandoning abandons
    rw [console]
    rfl
  have flag : (s.abandoning h .winderReset || blockAbandons .winderReset s t) = (decide (w = .service) && s.assembly.isSome) := by
    rw [quiet, ← resetFlag_eq, ← assembly]
    rfl
  unfold State.answering
  rw [flag]
  show t.sent ++ [_] = _
  rw [sent]
  rfl

/-- Settles O49. -/
theorem winderResetClearsWhatItNames : Obligations.WinderResetClearsWhatItNames := by
  intro s h n w hw a
  have state : ((s.heard h .winderReset).winder w).state = (s.winder w).state := congrArg WinderRecord.state (s.heard_winder ..)
  have console := console_of_winderReset a
  refine ⟨fun away => ?_, fun parked => ?_⟩
  · have test : (!(s.heard h .winderReset).isIn w .parked) = true := by
      rw [not_true_iff, State.isIn_eq_false, state]
      exact away
    refine State.answers_of_winderRequest hw rfl a (State.tested_some ?_ _)
    rw [test]
    rfl
  · have test : (!(s.heard h .winderReset).isIn w .parked) = false := by
      rw [State.isIn_iff.mpr (state.trans parked)]
      rfl
    have answers : s.Answers (.winderReset h n) h .winderReset ((s.heard h .winderReset).resetWinder w) (.done, .nothing) :=
      State.answers_of_winderRequest hw rfl a (State.tested_none (by rw [test]; rfl) _)
    refine ⟨_, answers, ?_⟩
    have assembly := State.heard_console_assembly console s .winderReset
    have sent := State.answering_winderReset (s := s) (t := (s.heard h .winderReset).resetWinder w) (h := h) (w := w) console
      (by rw [State.resetWinder_eq, ← assembly]) (by rw [State.resetWinder_eq]; exact s.heard_sent ..)
    obtain ⟨t, ht⟩ : ∃ t, t = s.answering ((s.heard h .winderReset).resetWinder w) h .winderReset (.done, .nothing) := ⟨_, rfl⟩
    have reset : t = { (s.heard h .winderReset).resetWinder w with sent := t.sent } := by
      rw [ht]
      rfl
    rw [← ht] at sent ⊢
    rw [State.resetWinder_eq] at reset
    have pipe : t.pipe w = { s.pipe w with latest := none, prior := none } := by
      rw [reset, ← s.heard_pipe h .winderReset w]
      exact PerWinder.get_set_self ..
    have monitor : t.monitor w = { s.monitor w with overIndication := false, underIndication := false } := by
      rw [reset, ← s.heard_monitor h .winderReset w]
      exact PerWinder.get_set_self ..
    have winder : t.winder w = { s.winder w with held := false, recovery := false, slowCap := none } := by
      rw [reset, ← s.heard_winder h .winderReset w]
      exact PerWinder.get_set_self ..
    refine ⟨?_, ?_, ?_, pipe, monitor, winder, fun c => ?_, fun v apart => ⟨?_, ?_, ?_⟩, sent, ?_⟩
    · rw [reset, State.heard_queues]
    · rw [reset, State.heard_ended]
    · rw [reset]
    · rw [reset, ← s.heard_position h .winderReset c]
      exact (s.heard h .winderReset).emptySuppression_position w c
    · rw [reset, ← s.heard_pipe h .winderReset v]
      exact PerWinder.get_set_ne _ _ apart
    · rw [reset, ← s.heard_monitor h .winderReset v]
      exact PerWinder.get_set_ne _ _ apart
    · rw [reset, ← s.heard_winder h .winderReset v]
      exact PerWinder.get_set_ne _ _ apart
    · rw [reset, State.heard_eq]

/-! ## SET MODE, ACKNOWLEDGE TRIP and RELEASE LOCKOUT (R104 to R106) -/

theorem State.inMotion_of_rest {s : State} {w : Winder} (rest : (s.winder w).state = .parked ∨ (s.winder w).state = .idle) :
    s.inMotion w = false := by
  unfold State.inMotion
  rcases rest with st | st <;> rw [st] <;> rfl

/-- A mode set at rest with no slow cap sent: the cap is handed on as 0 and nothing is compared (R47, R104). -/
theorem State.changeMode_of_rest {s : State} {w : Winder} (m : Mode) (rest : (s.winder w).state = .parked ∨ (s.winder w).state = .idle)
    (unsent : (s.winder w).slowCap = none) :
    s.changeMode w m =
      ({ s with
        caps := s.caps.set w ⟨0, none⟩
        winders := s.winders.set w { s.winder w with mode := m } } : State).settle w := by
  obtain ⟨x, hx⟩ : ∃ x, x = s.withWinder w (fun r => { r with mode := m }) := ⟨_, rfl⟩
  have winder : x.winder w = { s.winder w with mode := m } := by
    rw [hx]
    exact State.withWinder_winder_self ..
  have still : x.inMotion w = false := State.inMotion_of_rest (by rw [winder]; exact rest)
  have handed : x.handCap w = { x with caps := x.caps.set w ⟨0, none⟩ } := by
    unfold State.handCap
    rw [State.capOf_of_rest still]
  have compared : x.handAndCompare w = { x with caps := x.caps.set w ⟨0, none⟩ } := by
    unfold State.handAndCompare
    rw [State.compare_of_rest (s := x.handCap w) still, State.followCap_of_none, handed]
    exact (congrArg WinderRecord.slowCap winder).trans unsent
  unfold State.changeMode
  rw [← hx, compared, hx]
  rfl

theorem State.heard_modeTests (s : State) (h : Head) (k : Kind) (w : Winder) (m : Mode) :
    (s.heard h k).modeTests w m = s.modeTests w m := by
  rw [State.heard_eq]
  rfl

theorem State.modeTests_same (s : State) (w : Winder) (m : Mode) :
    List.Forall₂ SameTest
      [((s.winder w).state ≠ .parked ∧ (s.winder w).state ≠ .idle, .winderState),
       ((s.winder w).state = .idle ∧ (s.pipe w).staged ≠ none, .stagedBusy),
       (s.commissioning = true ∧ m ≠ .inspection, .commissioning), ((s.winder w).recovery = true ∧ m ≠ .inspection, .recovery)]
      (s.modeTests w m) := by
  refine .cons ⟨?_, rfl⟩ (.cons ⟨?_, rfl⟩ (.cons ⟨?_, rfl⟩ (.cons ⟨?_, rfl⟩ .nil)))
  · rw [Bool.and_eq_true, not_true_iff, not_true_iff, State.isIn_eq_false, State.isIn_eq_false]
  · rw [Bool.and_eq_true, State.isIn_iff, Option.isSome_iff_ne_none]
  · rw [Bool.and_eq_true, bne_iff_ne]
  · rw [Bool.and_eq_true, bne_iff_ne]

theorem State.setMode_inOrder {s : State} {h : Head} {n k : Nat} {w : Winder} {m : Mode} (hw : winderCode n = some w)
    (code : modeCode k = some m) (a : s.admits h .setMode 2 (some n)) :
    TestsInOrder (fun r => s.Reads (.setMode h n k) h .setMode (.refused r, .nothing))
      [((s.winder w).state ≠ .parked ∧ (s.winder w).state ≠ .idle, .winderState),
       ((s.winder w).state = .idle ∧ (s.pipe w).staged ≠ none, .stagedBusy),
       (s.commissioning = true ∧ m ≠ .inspection, .commissioning), ((s.winder w).recovery = true ∧ m ≠ .inspection, .recovery)]
      (s.Answers (.setMode h n k) h .setMode ((s.heard h .setMode).changeMode w m) (.done, .nothing)) := by
  refine State.inOrder_of_winderRequest (block := takeSetMode k) (act := fun s => (s.changeMode w m, done)) hw rfl a ?_
    (s.modeTests_same w m) (fun _ answers => answers)
  unfold takeSetMode
  rw [code]
  dsimp only
  rw [State.heard_modeTests]

theorem modeCode_of_le {k : Nat} (beyond : 3 ≤ k) : modeCode k = none := by
  match k, beyond with
  | k + 3, _ => rfl

theorem State.restedHere_iff {s : State} {w : Winder} :
    (!s.restedHere w) = true ↔ ¬((s.winder w).reportInState = true ∧ s.latestAtRest w = true) := by
  unfold State.restedHere
  rw [not_true_iff, ← Bool.not_eq_true, Bool.and_eq_true]

theorem State.acknowledge_inOrder {s : State} {h : Head} {n : Nat} {w : Winder} (hw : winderCode n = some w)
    (a : s.admits h .acknowledgeTrip 1 (some n)) :
    TestsInOrder (fun r => s.Reads (.acknowledgeTrip h n) h .acknowledgeTrip (.refused r, .nothing))
      [((s.winder w).state ≠ .tripped, .winderState), (s.emergencyLine.get w = true, .emergencyStop),
       (¬((s.winder w).reportInState = true ∧ s.latestAtRest w = true), .notAtRest)]
      (s.Answers (.acknowledgeTrip h n) h .acknowledgeTrip ((s.heard h .acknowledgeTrip).changeState w .parked) (.done, .nothing)) := by
  refine State.inOrder_of_winderRequest (block := takeAcknowledge) (act := fun s => (s.changeState w .parked, done))
    (table := [(!s.isIn w .tripped, .winderState), (s.emergencyLine.get w, .emergencyStop), (!s.restedHere w, .notAtRest)])
    hw rfl a ?_ (.cons ⟨?_, rfl⟩ (.cons ⟨Iff.rfl, rfl⟩ (.cons ⟨State.restedHere_iff.symm, rfl⟩ .nil))) (fun _ answers => answers)
  · rw [State.heard_eq]
    rfl
  · rw [not_true_iff, State.isIn_eq_false]

theorem State.releaseLockout_inOrder {s : State} {h : Head} {n : Nat} {w : Winder} (hw : winderCode n = some w)
    (a : s.admits h .releaseLockout 1 (some n)) :
    TestsInOrder (fun r => s.Reads (.releaseLockout h n) h .releaseLockout (.refused r, .nothing))
      [((s.winder w).state ≠ .lockout, .winderState), (s.maintenanceKey = false, .keyNotActive),
       (¬((s.winder w).reportInState = true ∧ s.latestAtRest w = true), .notAtRest)]
      (s.Answers (.releaseLockout h n) h .releaseLockout ((s.heard h .releaseLockout).changeState w .parked) (.done, .nothing)) := by
  refine State.inOrder_of_winderRequest (block := takeReleaseLockout) (act := fun s => (s.changeState w .parked, done))
    (table := [(!s.isIn w .lockout, .winderState), (!s.maintenanceKey, .keyNotActive), (!s.restedHere w, .notAtRest)])
    hw rfl a ?_ (.cons ⟨?_, rfl⟩ (.cons ⟨not_true_iff.symm, rfl⟩ (.cons ⟨State.restedHere_iff.symm, rfl⟩ .nil)))
    (fun _ answers => answers)
  · rw [State.heard_eq]
    rfl
  · rw [not_true_iff, State.isIn_eq_false]

/-- Settles O50. -/
theorem modeAcknowledgeAndLockout : Obligations.ModeAcknowledgeAndLockout := by
  intro s h n w hw
  refine ⟨fun k m code a => ?_, fun k beyond a => ?_, fun a => ?_, fun a => ?_⟩
  · intro cmd no st
    obtain ⟨moving, tests⟩ := State.setMode_inOrder hw code a
    refine ⟨fun parked idle => moving ⟨parked, idle⟩, fun idle busy => ?_, fun rest => ?_⟩
    · exact (tests fun both => both.2 idle).1 ⟨idle, busy⟩
    · have resting : st = .parked ∨ st = .idle := rest.imp id And.left
      obtain ⟨commissioning, tests⟩ := (tests fun both => resting.elim both.1 both.2).2 fun both =>
        rest.elim (fun parked => by rw [show (s.winder w).state = .parked from parked] at both; cases both.1)
          (fun free => both.2 free.2)
      refine ⟨fun on other => commissioning ⟨on, other⟩, fun off recovery other => ?_, fun allowed unsent => ?_⟩
      · exact (tests fun both => by rw [off] at both; cases both.1).1 ⟨recovery, other⟩
      · have answers := (tests fun both => allowed.elim both.2 fun off => by rw [off.1] at both; cases both.1).2
          fun both => allowed.elim both.2 fun off => by rw [off.2] at both; cases both.1
        have state : ((s.heard h .setMode).winder w).state = st := congrArg WinderRecord.state (s.heard_winder ..)
        rw [State.changeMode_of_rest m (by rw [state]; exact resting) ((congrArg WinderRecord.slowCap (s.heard_winder ..)).trans unsent),
          State.heard_caps, State.heard_winders, State.heard_winder] at answers
        exact answers
  · refine State.answers_of_winderRequest hw rfl a ?_
    unfold takeSetMode
    rw [modeCode_of_le beyond]
    rfl
  · obtain ⟨away, tests⟩ := State.acknowledge_inOrder hw a
    refine ⟨away, fun tripped line => ?_, fun tripped clear moving => ?_, fun tripped clear rested => ?_⟩
    · exact (tests (not_not_intro tripped)).1 line
    · exact ((tests (not_not_intro tripped)).2 (by rw [clear]; decide)).1 moving
    · exact ((tests (not_not_intro tripped)).2 (by rw [clear]; decide)).2 (not_not_intro rested)
  · obtain ⟨away, tests⟩ := State.releaseLockout_inOrder hw a
    refine ⟨away, fun locked idle => ?_, fun locked active moving => ?_, fun locked active rested => ?_⟩
    · exact (tests (not_not_intro locked)).1 idle
    · exact ((tests (not_not_intro locked)).2 (by rw [active]; decide)).1 moving
    · exact ((tests (not_not_intro locked)).2 (by rw [active]; decide)).2 (not_not_intro rested)

/-! ## What a change of state sets (R29, R30, R96, R97, R145 to R147) -/

theorem State.changeState_monitor {s : State} {w : Winder} {st : WinderState} (other : (s.winder w).state ≠ st) :
    (s.changeState w st).monitor w = (s.monitor w).entered (s.work.envelope.get w).mode st := by
  rw [State.changeState_eq other]
  exact PerWinder.get_set_self ..

theorem Monitor.entered_stopping_follow (m : Monitor) :
    m.entered .follow .stopping =
      { m with underCondition := false, underTimer := none, underIndication := false
               overIndication := m.overIndication && m.overCondition } := by
  unfold Monitor.entered Monitor.followConditions
  dsimp only
  rw [Bool.and_false]

theorem Monitor.entered_rest_follow (m : Monitor) {st : WinderState} (rest : st ≠ .running ∧ st ≠ .stopping) :
    m.entered .follow st =
      { m with overCondition := false, underCondition := false, underTimer := none
               critical := if st = .parked then false else m.critical, overIndication := false, underIndication := false } := by
  unfold Monitor.entered Monitor.followConditions
  dsimp only
  rw [Bool.and_false, Bool.and_false]
  cases st
  case running => exact absurd rfl rest.1
  case stopping => exact absurd rfl rest.2
  all_goals rfl

theorem Monitor.entered_rest_latched (m : Monitor) {st : WinderState} (rest : st ≠ .running ∧ st ≠ .stopping) :
    m.entered .latched st =
      { m with overCondition := false, underCondition := false, underTimer := none
               critical := if st = .parked then false else m.critical } := by
  cases st
  case running => exact absurd rfl rest.1
  case stopping => exact absurd rfl rest.2
  all_goals rfl

theorem IndicationMode.eq_latched {m : IndicationMode} (other : ¬m = .follow) : m = .latched := by
  cases m
  · exact absurd rfl other
  · rfl

theorem WinderState.isMotion_iff {st : WinderState} : st.isMotion = true ↔ st = .running ∨ st = .stopping := by
  cases st <;> decide

theorem WinderState.demandsBrake_iff {st : WinderState} : st.demandsBrake = true ↔ st = .tripped ∨ st = .lockout := by
  cases st <;> decide

theorem State.enterRest_position {s : State} {w : Winder} {st : WinderState} {c : Conveyance} (other : (s.winder w).state ≠ st)
    (rest : st = .parked ∨ st = .idle ∨ st = .settling ∨ st = .dwelling ∨ st = .clutching) (mem : c ∈ conveyancesOf w) :
    (s.changeState w st).position c = { s.position c with motionRef := s.drumDepth.get (drumOf c), armed := true } := by
  rw [State.changeState_eq other]
  rcases rest with rfl | rfl | rfl | rfl | rfl <;> exact State.armWinder_position _ mem

theorem State.disarmWinder_armed (s : State) {w : Winder} {c : Conveyance} (mem : c ∈ conveyancesOf w) :
    ((s.disarmWinder w).position c).armed = false := by
  unfold State.disarmWinder State.disarmMotion
  rcases mem_conveyancesOf_cases mem with ⟨rfl, other⟩ | ⟨rfl, other⟩
  · rw [State.withPosition_position_ne _ _ _ other, State.withPosition_position_self]
  · rw [State.withPosition_position_self]

theorem State.armAtRunning_armed (s : State) (w : Winder) (c : Conveyance) :
    ((s.armAtRunning w c).position c).armed = !(s.moved w).contains c := by
  unfold State.armAtRunning State.disarmMotion State.armMotion
  cases (s.moved w).contains c
  · rw [if_neg Bool.false_ne_true, State.withPosition_position_self]
    rfl
  · rw [if_pos rfl, State.withPosition_position_self]
    rfl

theorem State.armAtRunning_ne (s : State) (w : Winder) {c d : Conveyance} (other : d ≠ c) :
    (s.armAtRunning w c).position d = s.position d := by
  unfold State.armAtRunning
  split <;> exact State.withPosition_position_ne _ _ _ other

theorem State.armAtRunning_moved (s : State) (w : Winder) (c : Conveyance) : (s.armAtRunning w c).moved w = s.moved w := by
  unfold State.armAtRunning
  split <;> rfl

/-- At an entry to RUNNING the check of every conveyance that the leg does not move is armed, and of the others none (R30). -/
theorem State.enterRunning_armed {s : State} {w : Winder} {c : Conveyance} (other : (s.winder w).state ≠ .running)
    (mem : c ∈ conveyancesOf w) : ((s.changeState w .running).position c).armed = !(s.moved w).contains c := by
  rw [State.changeState_eq other]
  show (((State.armAtRunning (s.withWinder w _) w (firstConveyance w)).armAtRunning w (secondConveyance w)).position c).armed = _
  rcases mem_conveyancesOf_cases mem with ⟨rfl, apart⟩ | ⟨rfl, apart⟩
  · rw [State.armAtRunning_ne _ _ apart, State.armAtRunning_armed]
    rfl
  · rw [State.armAtRunning_armed, State.armAtRunning_moved]
    rfl

theorem State.changeState_caps_ne (s : State) {v w : Winder} (st : WinderState) (other : v ≠ w) :
    (s.changeState w st).caps.get v = s.caps.get v := by
  have armed := (s.withWinder w (fun r => r.entered st s.now)).motionAtEntry_eq w st
  unfold State.changeState
  split
  · rfl
  · refine (PerWinder.get_set_ne _ _ other).trans ?_
    rw [armed]
    rfl

/-- Settles O51. -/
theorem changeOfStateSetsWhatFollowsIt : Obligations.ChangeOfStateSetsWhatFollowsIt := by
  intro s w st other u m follow
  have monitor : u.monitor w = m.entered (s.work.envelope.get w).mode st := State.changeState_monitor other
  have winder : u.winder w = (s.winder w).entered st s.now := State.changeState_winder s w st other
  have frame := State.changeState_eq other
  refine ⟨?_, ?_, fun away halted => ⟨fun on => ?_, fun off => ?_⟩, ?_, ?_, ?_, ?_, ?_, ?_, ?_, ?_, ?_, ?_, fun away halted => ⟨?_, ?_⟩,
    fun rest c mem => ⟨?_, ?_⟩, ?_, ?_, fun v apart => ⟨?_, ?_, ?_, ?_⟩, fun c apart => ?_, ?_⟩
  · rintro rfl
    exact monitor
  · rintro rfl
    refine ⟨fun on => ?_, fun off => ?_⟩
    · rw [monitor, show (s.work.envelope.get w).mode = .follow from on, Monitor.entered_stopping_follow]
    · rw [monitor, IndicationMode.eq_latched off]
      rfl
  · rw [monitor, show (s.work.envelope.get w).mode = .follow from on, Monitor.entered_rest_follow m ⟨away, halted⟩]
  · rw [monitor, IndicationMode.eq_latched off, Monitor.entered_rest_latched m ⟨away, halted⟩]
  · rw [winder]
    rfl
  · rw [winder]
    exact WinderState.isMotion_iff
  · rw [winder]
    exact WinderState.demandsBrake_iff
  iterate 7
    rw [winder]
    rfl
  · exact State.changeState_cap other (Bool.eq_false_iff.mpr fun motion => (WinderState.isMotion_iff.mp motion).elim away halted)
  · rw [winder]
    exact if_neg fun motion => (WinderState.isMotion_iff.mp motion).elim away halted
  · rw [State.enterRest_position other rest mem]
  · rw [State.enterRest_position other rest mem]
  · rintro rfl c mem
    rw [State.enterRunning_armed other mem, not_true_iff, ← Bool.not_eq_true, List.contains_iff_mem]
  · rintro rfl c mem
    show ((s.changeState w .tripped).position c).armed = false
    rw [State.changeState_eq other]
    exact State.disarmWinder_armed _ mem
  · exact State.changeState_winder_ne_eq s st apart
  · rw [show u = _ from frame]
    exact PerWinder.get_set_ne _ _ apart
  · rw [show u = _ from frame]
    exact PerWinder.get_set_ne _ _ apart
  · exact State.changeState_caps_ne s st apart
  · exact (s.changeState_steady st).other c apart
  · have same : u = _ := frame
    clear_value u
    rw [same]

end Sys2Proof.Machine

/-! PROOFS. The input lines, drive faults, and what a fault does (O52 to O54). -/

namespace Sys2Proof.Machine

/-! ## The input lines and DRIVE FAULT (R106, R107, R112, R181) -/

theorem State.admits_of_drive {s : State} {h : Head} {w : Winder} {k : Kind} {n : Nat} (drive : driveWinder h.link = some w)
    (listed : kindListed k h.link = true) (length : h.length = n)
    (plain : ¬(k = .addWorkZone ∨ k = .removeWorkZone ∨ k = .barStation ∨ k = .clearBars)) : s.admits h k n none := by
  have console : h.link ≠ .console := by
    rintro e
    rw [e] at drive
    cases drive
  refine State.admits_iff.mpr ?_
  unfold State.turnedAway
  rw [if_neg (by simp [listed]), if_neg (not_not.mpr length), if_neg (by simp), if_neg (by simp [console]),
    if_neg (fun both => plain both.2)]

theorem State.lineAsserted_again {s : State} {w : Winder} (asserted : s.emergencyLine.get w = true) : s.lineAsserted w = s :=
  if_pos asserted

theorem State.lineAsserted_rising {s : State} {w : Winder} (clear : s.emergencyLine.get w = false) :
    s.lineAsserted w = ({ s with emergencyLine := s.emergencyLine.set w true } : State).emergencyStop w :=
  if_neg (by rw [clear]; decide)

theorem State.emergencyStop_eq (s : State) (w : Winder) :
    s.emergencyStop w =
      if (s.winder w).state = .lockout then s
      else s.deliver ⟨.emergencyStop, .trip, w, s.leading w, s.activeNumber w, none, none⟩ :=
  if_congr State.isIn_iff rfl rfl

theorem execDriveFault_taken {s : State} {h : Head} {w : Winder} (code : Nat) (drive : driveWinder h.link = some w)
    (length : h.length = 1) :
    exec (.driveFault h code) s =
      .next ((s.answering (s.heard h .driveFault) h .driveFault (.done, .nothing)).raiseDriveFault w code) := by
  have listed : kindListed .driveFault h.link = true := by
    revert drive
    cases h.link <;> decide +revert
  show execDriveFault h code s = _
  unfold execDriveFault
  rw [drive]
  dsimp only
  rw [driveRequest_admitted (State.admits_of_drive drive listed length (by decide))]
  rfl

theorem State.takeDriveState_clear {s : State} {w : Winder} {r : Report} (clear : r.drive ≠ .fault) :
    s.takeDriveState w r = s.withWinder w (fun x => { x with driveFaultLatch := false }) := by
  unfold State.takeDriveState
  split
  · next fault => exact absurd fault clear
  · rfl
  · rfl

theorem State.takeDriveState_fault {s : State} {w : Winder} {r : Report} (fault : r.drive = .fault) :
    s.takeDriveState w r = if (s.winder w).driveFaultLatch then s else s.raiseDriveFault w r.faultCode := by
  unfold State.takeDriveState
  rw [fault]

/-- Settles O52. -/
theorem inputLinesAndDriveFaults : Obligations.InputLinesAndDriveFaults := by
  refine ⟨fun s w => ⟨fun asserted => ?_, fun clear => ?_, rfl, fun level => ⟨rfl, rfl⟩⟩, fun s h code w drive length => ?_,
    fun s w r => ⟨fun clear => State.takeDriveState_clear clear,
      fun fault latched => (State.takeDriveState_fault fault).trans (if_pos latched),
      fun fault unlatched => (State.takeDriveState_fault fault).trans (if_neg (by rw [unlatched]; decide))⟩⟩
  · exact congrArg Host.Outcome.next (State.lineAsserted_again (s := s.begin) asserted)
  · exact congrArg Host.Outcome.next ((State.lineAsserted_rising (s := s.begin) clear).trans (State.emergencyStop_eq _ w))
  · rw [execDriveFault_taken code drive length]
    have winders : (s.answering (s.heard h .driveFault) h .driveFault (.done, .nothing)).winders = s.winders := by
      rw [State.answering_eq _ _ _ (by decide)]
      exact s.heard_winders ..
    unfold State.raiseDriveFault
    rw [State.withWinder_eq winders]
    rfl

/-! ## Faults recorded (R153 to R156) -/

/-- Between two states the primary record, the fault list and the overflow count stand. -/
def State.Unrecorded (s t : State) : Prop := t.primary = s.primary ∧ t.faults = s.faults ∧ t.overflow = s.overflow

theorem State.Unrecorded.trans {s t u : State} (h : s.Unrecorded t) (k : t.Unrecorded u) : s.Unrecorded u :=
  ⟨k.1.trans h.1, k.2.1.trans h.2.1, k.2.2.trans h.2.2⟩

theorem State.changeState_unrecorded (s : State) (w : Winder) (st : WinderState) : s.Unrecorded (s.changeState w st) := by
  by_cases same : (s.winder w).state = st
  · rw [State.changeState_self s w st same]
    exact ⟨rfl, rfl, rfl⟩
  · rw [State.changeState_eq same]
    exact ⟨rfl, rfl, rfl⟩

theorem State.endActive_unrecorded (s : State) (w : Winder) (o : TripOutcome) : s.Unrecorded (s.endActive w o) := by
  cases active : (s.pipe w).active with
  | none =>
    rw [State.endActive_none s w o active]
    exact ⟨rfl, rfl, rfl⟩
  | some t =>
    rw [State.endActive_of active]
    exact ⟨rfl, rfl, rfl⟩

theorem State.withdrawStaged_unrecorded (s : State) (w : Winder) (st : CallState) : s.Unrecorded (s.withdrawStaged w st) := by
  rw [s.withdrawStaged_requeues w st]
  exact ⟨rfl, rfl, rfl⟩

/-- The suppression lists emptied and BRAKE sent, as both entries end (R52, R108). -/
theorem State.braked_eq (s : State) (w : Winder) :
    (s.emptySuppression w).sendOrder w .brake =
      { s with
        positions := unsuppressed w s.positions
        drives := s.drives.set w ((s.drives.get w).send s.now .brake)
        sent := s.sent ++ [.order w (s.drives.get w).tagCount .brake] } := rfl

theorem State.braked_unrecorded (s : State) (w : Winder) : s.Unrecorded ((s.emptySuppression w).sendOrder w .brake) := by
  rw [State.braked_eq]
  exact ⟨rfl, rfl, rfl⟩

theorem State.withWinder_unrecorded (s : State) (w : Winder) (f : WinderRecord → WinderRecord) : s.Unrecorded (s.withWinder w f) :=
  ⟨rfl, rfl, rfl⟩

theorem State.tripWinder_unrecorded (s : State) (w : Winder) : s.Unrecorded (s.tripWinder w) :=
  ((((s.changeState_unrecorded w .tripped).trans (State.endActive_unrecorded _ w .aborted)).trans
    (State.withdrawStaged_unrecorded _ w .waiting)).trans (State.withWinder_unrecorded _ w _)).trans (State.braked_unrecorded _ w)

theorem State.lockWinder_unrecorded (s : State) (w : Winder) : s.Unrecorded (s.lockWinder w) :=
  (s.changeState_unrecorded w .lockout).trans (State.braked_unrecorded _ w)

theorem State.handTrip_unrecorded (s : State) (f : FaultReport) : s.Unrecorded (s.handTrip f) := by
  unfold State.handTrip
  split
  · exact ⟨rfl, rfl, rfl⟩
  · split
    · exact s.lockWinder_unrecorded _
    · exact ⟨rfl, rfl, rfl⟩
  all_goals exact s.tripWinder_unrecorded _

theorem State.deliver_trip {s : State} {f : FaultReport} (trip : f.severity = .trip) :
    s.deliver f = (s.record (s.entryOf f)).handTrip f := by
  unfold State.deliver
  rw [trip]

/-- A fault delivered leaves the primary record, the list and the overflow count as the entry leaves them. -/
theorem State.deliver_unrecorded (s : State) (f : FaultReport) : (s.record (s.entryOf f)).Unrecorded (s.deliver f) := by
  by_cases trip : f.severity = .trip
  · rw [State.deliver_trip trip]
    exact State.handTrip_unrecorded _ f
  · rw [State.deliver_minor s f trip]
    exact ⟨rfl, rfl, rfl⟩

theorem firstConveyance_eq (w : Winder) : firstConveyance w = if w = .service then .cage else .skip0 := by cases w <;> rfl

/-- Settles O53. -/
theorem faultsAreRecorded : Obligations.FaultsAreRecorded := by
  intro s f u e p
  have record : s.position (f.conveyance.getD (firstConveyance f.winder)) = p := by rw [firstConveyance_eq]
  obtain ⟨primary, faults, overflow⟩ := s.deliver_unrecorded f
  rw [State.record_eq] at primary faults overflow
  refine ⟨rfl, rfl, rfl, rfl, congrArg Position.estimate record, congrArg Position.band record, fun absent => ?_, fun present => ?_,
    rfl, rfl, rfl, rfl, fun named => ?_, fun unnamed => ?_, fun filled => ?_, fun empty => ?_, fun room => ⟨?_, ?_⟩,
    fun full => ⟨?_, ?_⟩, fun minor => s.deliver_minor_eq f minor⟩
  · refine if_neg ?_
    rw [record, absent]
    decide
  · rw [← record]
    refine if_pos ?_
    rw [record]
    exact Option.isSome_iff_ne_none.mpr present
  · obtain ⟨number, found⟩ := Option.ne_none_iff_exists'.mp named
    show f.trip.orElse _ = f.trip
    rw [found]
    rfl
  · show f.trip.orElse _ = _
    rw [unnamed]
    rfl
  · obtain ⟨x, found⟩ := Option.ne_none_iff_exists'.mp filled
    refine primary.trans ?_
    show primaryAfter s.primary _ = _
    rw [found]
    rfl
  · refine primary.trans ?_
    show primaryAfter s.primary _ = _
    rw [empty]
    rfl
  · exact faults.trans (if_pos room)
  · exact overflow.trans (if_pos room)
  · exact faults.trans (if_neg (not_lt.mpr full))
  · exact overflow.trans (if_neg (not_lt.mpr full))

/-! ## What a Trip fault leaves of the other winder (R108) -/

/-- Between two states what is kept for a winder `v` alone stands. -/
structure State.Spares (v : Winder) (s t : State) : Prop where
  winder : t.winder v = s.winder v
  pipe : t.pipe v = s.pipe v
  drive : t.drives.get v = s.drives.get v
  monitor : t.monitor v = s.monitor v
  cap : t.caps.get v = s.caps.get v
  ended : t.ended.get v = s.ended.get v
  counters : t.counters.get v = s.counters.get v
  restricted : t.restricted.get v = s.restricted.get v

theorem State.Spares.refl (v : Winder) (s : State) : State.Spares v s s := ⟨rfl, rfl, rfl, rfl, rfl, rfl, rfl, rfl⟩

theorem State.Spares.trans {v : Winder} {s t u : State} (h : State.Spares v s t) (k : State.Spares v t u) : State.Spares v s u :=
  ⟨k.winder.trans h.winder, k.pipe.trans h.pipe, k.drive.trans h.drive, k.monitor.trans h.monitor, k.cap.trans h.cap,
    k.ended.trans h.ended, k.counters.trans h.counters, k.restricted.trans h.restricted⟩

section Spares

variable {v w : Winder}

theorem State.changeState_spares (s : State) (st : WinderState) (other : v ≠ w) : State.Spares v s (s.changeState w st) := by
  have cap := s.changeState_caps_ne st other
  by_cases same : (s.winder w).state = st
  · rw [State.changeState_self s w st same]
    exact .refl v s
  · refine ⟨State.changeState_winder_ne_eq s st other, ?_, ?_, ?_, cap, ?_, ?_, ?_⟩
    all_goals rw [State.changeState_eq same]
    · exact PerWinder.get_set_ne _ _ other
    · exact PerWinder.get_set_ne _ _ other

theorem State.endActive_spares (s : State) (o : TripOutcome) (other : v ≠ w) : State.Spares v s (s.endActive w o) := by
  cases active : (s.pipe w).active with
  | none =>
    rw [State.endActive_none s w o active]
    exact .refl v s
  | some t =>
    rw [State.endActive_of active]
    refine ⟨rfl, PerWinder.get_set_ne _ _ other, rfl, rfl, rfl, ?_, PerWinder.get_set_ne _ _ other, rfl⟩
    unfold State.endedWith
    split
    · rfl
    · exact PerWinder.get_set_ne _ _ other

theorem State.discardStaged_spares (s : State) (o : TripOutcome) (other : v ≠ w) : State.Spares v s (s.discardStaged w o) := by
  cases staged : (s.pipe w).staged with
  | none =>
    rw [State.discardStaged_none staged]
    exact .refl v s
  | some t =>
    rw [State.discardStaged_of staged]
    refine ⟨rfl, PerWinder.get_set_ne _ _ other, rfl, rfl, rfl, ?_, PerWinder.get_set_ne _ _ other, rfl⟩
    unfold State.endedWith
    split
    · rfl
    · exact PerWinder.get_set_ne _ _ other

theorem State.returnCall_spares (s : State) (c : Call) (st : CallState) (other : v ≠ w) : State.Spares v s (s.returnCall w c st) := by
  cases found : mergingEntry (s.queues.get w) c.work with
  | none =>
    rw [State.returnCall_apart found]
    exact ⟨rfl, rfl, rfl, rfl, rfl, rfl, rfl, rfl⟩
  | some e =>
    rw [State.returnCall_absorbing found]
    exact ⟨rfl, rfl, rfl, rfl, rfl, PerWinder.get_set_ne _ _ other, rfl, rfl⟩

theorem State.withPipe_spares (s : State) (f : Pipe → Pipe) (other : v ≠ w) : State.Spares v s (s.withPipe w f) :=
  ⟨rfl, PerWinder.get_set_ne _ _ other, rfl, rfl, rfl, rfl, rfl, rfl⟩

theorem State.withWinder_spares (s : State) (f : WinderRecord → WinderRecord) (other : v ≠ w) :
    State.Spares v s (s.withWinder w f) :=
  ⟨PerWinder.get_set_ne _ _ other, rfl, rfl, rfl, rfl, rfl, rfl, rfl⟩

theorem State.sendOrder_spares (s : State) (o : Order) (other : v ≠ w) : State.Spares v s (s.sendOrder w o) :=
  ⟨rfl, rfl, PerWinder.get_set_ne _ _ other, rfl, rfl, rfl, rfl, rfl⟩

theorem State.emptySuppression_spares (s : State) (v w : Winder) : State.Spares v s (s.emptySuppression w) :=
  ⟨rfl, rfl, rfl, rfl, rfl, rfl, rfl, rfl⟩

theorem State.withdrawStaged_spares (s : State) (st : CallState) (other : v ≠ w) : State.Spares v s (s.withdrawStaged w st) := by
  unfold State.withdrawStaged
  split
  · exact (s.withPipe_spares _ other).trans (State.returnCall_spares _ _ _ other)
  · exact s.discardStaged_spares _ other

theorem State.tripWinder_spares (s : State) (other : v ≠ w) : State.Spares v s (s.tripWinder w) :=
  (((((s.changeState_spares .tripped other).trans (State.endActive_spares _ .aborted other)).trans
    (State.withdrawStaged_spares _ .waiting other)).trans (State.withWinder_spares _ _ other)).trans
    (State.emptySuppression_spares _ v w)).trans (State.sendOrder_spares _ .brake other)

theorem State.lockWinder_spares (s : State) (other : v ≠ w) : State.Spares v s (s.lockWinder w) :=
  ((s.changeState_spares .lockout other).trans (State.emptySuppression_spares _ v w)).trans
    (State.sendOrder_spares _ .brake other)

theorem State.handTrip_spares (s : State) {f : FaultReport} (other : v ≠ f.winder) : State.Spares v s (s.handTrip f) := by
  unfold State.handTrip
  split
  · exact .refl v s
  · split
    · exact s.lockWinder_spares other
    · exact .refl v s
  all_goals exact s.tripWinder_spares other

theorem State.record_spares (s : State) (e : FaultEntry) (v : Winder) : State.Spares v s (s.record e) := by
  rw [State.record_eq]
  exact ⟨rfl, rfl, rfl, rfl, rfl, rfl, rfl, rfl⟩

end Spares

/-! ## What a Trip fault does to its winder (R108, R157) -/

theorem FaultReport.escalates_iff {f : FaultReport} :
    f.escalates = true ↔
      f.kind = .overwind ∨ f.kind = .workZoneEntry ∨ f.kind = .unpermittedMotion ∨
        (f.kind = .driveFault ∧ ∃ code, f.detail = some code ∧ 16 ≤ code ∧ code ≤ 31) := by
  have brake : f.detail.any brakeClass = true ↔ ∃ code, f.detail = some code ∧ 16 ≤ code ∧ code ≤ 31 := by
    rw [Option.any_eq_true]
    exact exists_congr fun code => and_congr_right fun _ => decide_eq_true_iff
  unfold FaultReport.escalates
  rw [← brake]
  cases f.kind <;> simp

theorem State.handTrip_quiet {s : State} {f : FaultReport}
    (quiet : (s.winder f.winder).state = .lockout ∨ ((s.winder f.winder).state = .tripped ∧ ¬f.escalates = true)) :
    s.handTrip f = s := by
  unfold State.handTrip
  rcases quiet with st | ⟨st, minor⟩
  · rw [st]
  · rw [st]
    exact if_neg minor

theorem State.handTrip_lock {s : State} {f : FaultReport} (tripped : (s.winder f.winder).state = .tripped)
    (grave : f.escalates = true) : s.handTrip f = s.lockWinder f.winder := by
  unfold State.handTrip
  rw [tripped]
  exact if_pos grave

theorem State.handTrip_trip {s : State} {f : FaultReport}
    (other : (s.winder f.winder).state ≠ .tripped ∧ (s.winder f.winder).state ≠ .lockout) :
    s.handTrip f = s.tripWinder f.winder := by
  unfold State.handTrip
  split
  · next st => exact absurd st other.2
  · next st => exact absurd st other.1
  all_goals rfl

/-- The entry to LOCKOUT from TRIPPED (R52, R108, R157). -/
theorem State.lockWinder_spec {s : State} {w : Winder} (tripped : (s.winder w).state = .tripped) :
    let u := s.lockWinder w
    (u.winder w).state = .lockout ∧ (u.winder w).permit = false ∧ (u.winder w).brakeDemand = true ∧
      (∀ c ∈ conveyancesOf w, u.position c = { s.position c with suppressed := [] }) ∧ u.queues = s.queues ∧
      u.sent = s.sent ++ [.order w (s.drives.get w).tagCount .brake] := by
  intro u
  have other : (s.winder w).state ≠ .lockout := by
    rw [tripped]
    decide
  obtain ⟨x, hx⟩ : ∃ x, x = s.changeState w .lockout := ⟨_, rfl⟩
  have braked : u = (x.emptySuppression w).sendOrder w .brake := by
    rw [hx]
    rfl
  have winder : x.winder w = (s.winder w).entered .lockout s.now := by rw [hx, State.changeState_winder s w _ other]
  have kept : x.positions = s.positions ∧ x.queues = s.queues ∧ x.sent = s.sent ∧ x.drives = s.drives := by
    rw [hx, State.changeState_eq other]
    exact ⟨rfl, rfl, rfl, rfl⟩
  obtain ⟨positions, queues, sent, drives⟩ := kept
  have position (c : Conveyance) (mem : c ∈ conveyancesOf w) : u.position c = { s.position c with suppressed := [] } := by
    rw [braked]
    refine (x.emptySuppression_position w c).trans ((if_pos (mem_conveyancesOf.mp mem)).trans ?_)
    unfold State.position
    rw [positions]
  rw [State.braked_eq] at braked
  have record : u.winder w = (s.winder w).entered .lockout s.now := by
    rw [braked, ← winder]
    rfl
  refine ⟨by rw [record]; rfl, by rw [record]; rfl, by rw [record]; rfl, position, ?_, ?_⟩
  · rw [braked]
    exact queues
  · rw [braked, sent, drives]

theorem State.withdrawStaged_settle (s : State) (w : Winder) (st : CallState) :
    ((s.withdrawStaged w st).pipe w).settle = (s.pipe w).settle := by
  unfold State.withdrawStaged
  split
  · rw [State.returnCall_pipe, State.withPipe_pipe_self, Pipe.unstage_eq]
  · cases staged : (s.pipe w).staged with
    | none => rw [State.discardStaged_none staged]
    | some t =>
      rw [State.discardStaged_of staged]
      show ((s.pipes.set w _).get w).settle = _
      rw [PerWinder.get_set_self]

/-- The state in which the trip of a winder that trips has ended, before its staged one is withdrawn. -/
def State.abortedIn (s : State) (w : Winder) : State := (s.changeState w .tripped).endActive w .aborted

theorem State.abortedIn_pipe {s : State} {w : Winder} (other : (s.winder w).state ≠ .tripped) :
    ((s.abortedIn w).pipe w).active = none ∧ ((s.abortedIn w).pipe w).settle = none ∧
      ((s.abortedIn w).pipe w).staged = (s.pipe w).staged ∧
      (∀ a, (s.pipe w).active = some a →
        ((s.abortedIn w).pipe w).latest = some ⟨a.number, .aborted⟩ ∧ ((s.abortedIn w).pipe w).prior = (s.pipe w).latest ∧
        ((s.abortedIn w).counters.get w).aborted = saturate ((s.counters.get w).aborted + 1)) := by
  have pipe := State.changeState_pipe s w .tripped other
  have counters : (s.changeState w .tripped).counters = s.counters := by rw [State.changeState_eq other]
  unfold State.abortedIn
  cases active : (s.pipe w).active with
  | none =>
    have empty : ((s.changeState w .tripped).pipe w).active = none := by
      rw [pipe]
      exact active
    rw [State.endActive_none (s.changeState w .tripped) w .aborted empty, pipe]
    exact ⟨active, rfl, rfl, fun a found => absurd found.symm (Option.some_ne_none a)⟩
  | some t =>
    have slot : ((s.changeState w .tripped).pipe w).active = some t := by
      rw [pipe]
      exact active
    rw [State.endActive_pipe _ w t .aborted slot, pipe, State.endActive_of slot]
    refine ⟨rfl, rfl, rfl, fun a found => ?_⟩
    obtain ⟨rfl⟩ := found
    refine ⟨rfl, rfl, ?_⟩
    rw [← counters]
    exact congrArg Counters.aborted (PerWinder.get_set_self ..)

theorem State.abortedIn_frame {s : State} {w : Winder} (other : (s.winder w).state ≠ .tripped) :
    (s.abortedIn w).winder w = (s.winder w).entered .tripped s.now ∧ (s.abortedIn w).queues = s.queues ∧
      (s.abortedIn w).pairing = s.pairing ∧ (s.abortedIn w).now = s.now ∧ (s.abortedIn w).drives = s.drives ∧
      (s.abortedIn w).sent = s.sent ∧ (∀ c ∈ conveyancesOf w, ((s.abortedIn w).position c).armed = false) := by
  have winder := State.changeState_winder s w .tripped other
  have ended := State.endActive_winders (s.changeState w .tripped) w w .aborted
  have positions := (s.changeState w .tripped).endActive_positions w .aborted
  have armed (c : Conveyance) (mem : c ∈ conveyancesOf w) : ((s.changeState w .tripped).position c).armed = false := by
    rw [State.changeState_eq other]
    exact State.disarmWinder_armed _ mem
  have frame : ∀ x : State, (x.endActive w .aborted).pairing = x.pairing ∧ (x.endActive w .aborted).now = x.now ∧
      (x.endActive w .aborted).drives = x.drives := fun x => by
    cases active : (x.pipe w).active with
    | none =>
      rw [State.endActive_none x w _ active]
      exact ⟨rfl, rfl, rfl⟩
    | some t =>
      rw [State.endActive_of active]
      exact ⟨rfl, rfl, rfl⟩
  obtain ⟨pairing, now, drives⟩ := frame (s.changeState w .tripped)
  have queues := (s.changeState w .tripped).endActive_queues w .aborted
  have sent := (s.changeState w .tripped).endActive_sent w .aborted
  have entered := State.changeState_eq (st := .tripped) other
  unfold State.abortedIn
  refine ⟨ended.trans winder, queues.trans ?_, pairing.trans ?_, now.trans ?_, drives.trans ?_, sent.trans ?_, fun c mem => ?_⟩
  iterate 5 rw [entered]
  · rw [← armed c mem]
    exact congrArg (fun p : PerConveyance Position => (p.get c).armed) positions

/-- The entry to TRIPPED (R108): the trip aborted, the staged one withdrawn, the checks disarmed, and BRAKE sent. -/
theorem State.tripWinder_spec {s : State} {w : Winder} (other : (s.winder w).state ≠ .tripped) :
    let u := s.tripWinder w
    (u.winder w).state = .tripped ∧ (u.winder w).permit = false ∧ (u.winder w).brakeDemand = true ∧
      (u.winder w).holdPending = false ∧ (u.winder w).stopPending = false ∧ (u.winder w).slowCap = none ∧
      (u.winder w).mode = (s.winder w).mode ∧ (u.winder w).held = (s.winder w).held ∧
      (u.winder w).recovery = (s.winder w).recovery ∧
      (u.pipe w).active = none ∧ (u.pipe w).staged = none ∧ (u.pipe w).settle = none ∧
      (∀ c ∈ conveyancesOf w, (u.position c).armed = false ∧ (u.position c).suppressed = []) ∧
      (∀ a, (s.pipe w).active = some a → (s.pipe w).staged = none →
        (u.pipe w).latest = some ⟨a.number, .aborted⟩ ∧ (u.pipe w).prior = (s.pipe w).latest ∧
        (u.counters.get w).aborted = saturate ((s.counters.get w).aborted + 1)) ∧
      s.Withdrawn u w ∧
      u.sent = s.sent ++ [.order w (s.drives.get w).tagCount .brake] := by
  intro u
  obtain ⟨inactive, settle, slot, aborted⟩ := State.abortedIn_pipe other
  obtain ⟨winder, queues, pairing, now, drives, sent, armed⟩ := State.abortedIn_frame other
  have entered : u = (((State.withdrawStaged (s.abortedIn w) w .waiting).withWinder w
      (fun r => { r with holdPending := false, stopPending := false, slowCap := none })).emptySuppression w).sendOrder w .brake := rfl
  generalize s.abortedIn w = b at *
  obtain ⟨c, hc⟩ : ∃ c, c = b.withdrawStaged w .waiting := ⟨_, rfl⟩
  have requeues := b.withdrawStaged_requeues w .waiting
  obtain ⟨unstaged, kept⟩ := b.withdrawStaged_slots w .waiting
  have settled := b.withdrawStaged_settle w .waiting
  have withdrawn := b.withdrawStaged_withdrawn w
  rw [← hc] at entered requeues unstaged kept settled withdrawn
  have same : c.winder w = b.winder w ∧ c.positions = b.positions ∧ c.drives = b.drives ∧ c.sent = b.sent ∧ c.counters = b.counters := by
    rw [requeues]
    exact ⟨rfl, rfl, rfl, rfl, rfl⟩
  obtain ⟨sameWinder, samePositions, sameDrives, sameSent, sameCounters⟩ := same
  clear requeues
  obtain ⟨d, hd⟩ : ∃ d, d = c.withWinder w (fun r => { r with holdPending := false, stopPending := false, slowCap := none }) :=
    ⟨_, rfl⟩
  have dWinder : d.winder w =
      { (s.winder w).entered .tripped s.now with holdPending := false, stopPending := false, slowCap := none } := by
    rw [hd, State.withWinder_winder_self, sameWinder, winder]
  have kept' : d.pipe w = c.pipe w ∧ d.positions = c.positions ∧ d.drives = c.drives ∧ d.sent = c.sent ∧ d.counters = c.counters ∧
      d.queues = c.queues ∧ d.ended = c.ended := by
    rw [hd]
    exact ⟨rfl, rfl, rfl, rfl, rfl, rfl, rfl⟩
  obtain ⟨dPipe, dPositions, dDrives, dSent, dCounters, dQueues, dEnded⟩ := kept'
  rw [← hd] at entered
  clear hd
  have position (x : Conveyance) (mem : x ∈ conveyancesOf w) : u.position x = { b.position x with suppressed := [] } := by
    rw [entered]
    refine (d.emptySuppression_position w x).trans ((if_pos (mem_conveyancesOf.mp mem)).trans ?_)
    unfold State.position
    rw [dPositions, samePositions]
  rw [State.braked_eq] at entered
  have record : u.winder w =
      { (s.winder w).entered .tripped s.now with holdPending := false, stopPending := false, slowCap := none } := by
    rw [← dWinder, entered]
    rfl
  have pipe : u.pipe w = c.pipe w := by
    rw [← dPipe, entered]
    rfl
  have counters : u.counters = b.counters := by rw [entered, dCounters, sameCounters]
  have later : u.queues = c.queues ∧ u.ended = c.ended := by
    rw [entered]
    exact ⟨dQueues, dEnded⟩
  have frames : u.sent = b.sent ++ [.order w (b.drives.get w).tagCount .brake] := by
    rw [entered, dSent, dDrives, sameSent, sameDrives]
  clear_value u
  refine ⟨?_, ?_, ?_, ?_, ?_, ?_, ?_, ?_, ?_, ?_, ?_, ?_, fun d mem => ⟨?_, ?_⟩, fun a active empty => ?_, ?_, ?_⟩
  · exact (congrArg WinderRecord.state record :)
  · exact (congrArg WinderRecord.permit record :)
  · exact (congrArg WinderRecord.brakeDemand record :)
  · exact (congrArg WinderRecord.holdPending record :)
  · exact (congrArg WinderRecord.stopPending record :)
  · exact (congrArg WinderRecord.slowCap record :)
  · exact (congrArg WinderRecord.mode record :)
  · exact (congrArg WinderRecord.held record :)
  · exact (congrArg WinderRecord.recovery record :)
  · rw [pipe, kept]
    exact inactive
  · rw [pipe]
    exact unstaged
  · rw [pipe, settled]
    exact settle
  · rw [position d mem]
    exact armed d mem
  · rw [position d mem]
  · obtain ⟨latest, prior, count⟩ := aborted a active
    have same : c = b := hc.trans (State.withdrawStaged_none b w .waiting (slot.trans empty))
    rw [pipe, same, counters]
    exact ⟨latest, prior, count⟩
  · exact withdrawn.of_same ⟨slot.symm, congrArg (fun q => q.get w) queues.symm, pairing.symm, now.symm⟩
      ⟨by rw [pipe], by rw [pipe], congrArg (fun q => q.get w) later.1, congrArg (fun q => q.get w) later.2⟩
  · rw [frames, sent, drives]

/-- Settles O54. -/
theorem tripFaultsActByTheState : Obligations.TripFaultsActByTheState := by
  intro s f trip w u st grave
  have delivered : u = (s.record (s.entryOf f)).handTrip f := State.deliver_trip trip
  have keeps := s.deliver_keeps f
  have steady : State.Steady w s u := s.deliver_steady rfl
  have queues : State.QueuesApart w s u := s.deliver_queuesApart rfl
  obtain ⟨primary, faults, overflow, recorded⟩ : ∃ p l n, s.record (s.entryOf f) = { s with primary := p, faults := l, overflow := n } :=
    ⟨_, _, _, s.record_eq _⟩
  refine ⟨fun v other => ?_, fun quiet => ?_, fun tripped serious => ?_, fun untripped unlocked => ?_⟩
  · have spares : State.Spares v s u := by
      rw [delivered]
      exact (s.record_spares _ v).trans (State.handTrip_spares _ other)
    exact ⟨spares.winder, spares.pipe, spares.drive, spares.monitor, spares.cap, queues v other, spares.ended, spares.counters,
      congrArg (fun p => p.get v) keeps.reports, spares.restricted, congrArg (fun p => p.get v) keeps.lastCallId,
      fun c mem => steady.other c (by rw [mem_conveyancesOf.mp mem]; exact other)⟩
  · have same : u = { s with primary := primary, faults := faults, overflow := overflow } := by
      rw [delivered, recorded]
      exact State.handTrip_quiet (quiet.imp id (And.imp id (mt FaultReport.escalates_iff.mp)))
    rw [same]
  · have locked : u = ({ s with primary := primary, faults := faults, overflow := overflow } : State).lockWinder w := by
      rw [delivered, recorded]
      exact State.handTrip_lock tripped (FaultReport.escalates_iff.mpr serious)
    rw [locked]
    exact State.lockWinder_spec (s := { s with primary := primary, faults := faults, overflow := overflow }) tripped
  · have entered : u = ({ s with primary := primary, faults := faults, overflow := overflow } : State).tripWinder w := by
      rw [delivered, recorded]
      exact State.handTrip_trip ⟨untripped, unlocked⟩
    rw [entered]
    exact State.tripWinder_spec (s := { s with primary := primary, faults := faults, overflow := overflow }) untripped

end Sys2Proof.Machine

/-! PROOFS. Skip contents and the readiness of a rock cycle (O55). -/

namespace Sys2Proof.Machine

/-! ## Codes and conditions (R129, R132, R133) -/

theorem contentsCode_eq_some {code : Nat} {mass : Option Nat} {c : Contents} :
    contentsCode code mass = some c ↔
      (code = 0 ∧ c = .empty) ∨ (code = 1 ∧ ∃ m, mass = some m ∧ m ≤ 65535 ∧ c = .loaded m) ∨
        (code = 2 ∧ c = .suspect) ∨ (code = 3 ∧ c = .unknown) := by
  match code with
  | 0 => simp [contentsCode, eq_comm]
  | 1 =>
    have loads (m : Nat) : (if m ≤ 65535 then some (Contents.loaded m) else none) = some c ↔ m ≤ 65535 ∧ c = .loaded m := by
      by_cases fits : m ≤ 65535
      · simp [fits, eq_comm]
      · simp [fits]
    simp [contentsCode, Option.bind_eq_some_iff, loads]
  | 2 => simp [contentsCode, eq_comm]
  | 3 => simp [contentsCode, eq_comm]
  | n + 4 => simp [contentsCode]

theorem contentsCode_eq_none {code : Nat} {mass : Option Nat}
    (bad : 4 ≤ code ∨ (code = 1 ∧ (mass = none ∨ ∃ m, mass = some m ∧ 65535 < m))) : contentsCode code mass = none := by
  rw [Option.eq_none_iff_forall_ne_some]
  intro c found
  rcases contentsCode_eq_some.mp found with ⟨rfl, -⟩ | ⟨rfl, m, rfl, fits, -⟩ | ⟨rfl, -⟩ | ⟨rfl, -⟩
  · omega
  · rcases bad with bad | ⟨-, absent | ⟨x, heavy, beyond⟩⟩
    · omega
    · cases absent
    · obtain ⟨rfl⟩ := heavy
      omega
  · omega
  · omega

theorem Trip.isRockCycle_iff {t : Trip} : t.isRockCycle = true ↔ t.kind = .rockCycle ∨ (t.kind = .manual ∧ t.cls = .rock) := by
  unfold Trip.isRockCycle
  rw [Bool.or_eq_true, Bool.and_eq_true, beq_iff_eq, beq_iff_eq, beq_iff_eq]

theorem State.standsAt_iff {s : State} {k : Skip} {point : RockPoint} :
    let p := s.position k.conveyance
    let e := s.work.rockPoints.get point
    s.standsAt k point = true ↔
      p.state = .valid ∧ ∃ x, p.estimate = some x ∧ e.depth - e.window ≤ x - p.band ∧ x + p.band ≤ e.depth + e.window := by
  intro p e
  unfold State.standsAt
  rw [Bool.and_eq_true, beq_iff_eq, Position.inWindow_iff]

theorem State.restsAt_eq_false {s : State} {k : Skip} {point : RockPoint} :
    (!s.restsAt k point) = true ↔ (s.position k.conveyance).rest = false ∨ s.standsAt k point = false := by
  unfold State.restsAt
  rw [not_true_iff, Bool.and_eq_false_iff]

/-- With the skips paired, a skip not at rest at its pocket (R130). -/
theorem State.restsAtPocket_eq_false {s : State} {k : Skip} (paired : ¬s.pairing = .unpaired) :
    (!s.restsAtPocket k) = true ↔
      (s.position k.conveyance).rest = false ∨ (∃ p, s.pairing = .paired p ∧ s.standsAt k p.point = false) := by
  unfold State.restsAtPocket
  cases pairing : s.pairing with
  | unpaired => exact absurd pairing paired
  | paired p =>
    refine (State.restsAt_eq_false (point := p.point)).trans (or_congr_right ?_)
    exact ⟨fun away => ⟨p, rfl, away⟩, fun ⟨q, same, away⟩ => by
      obtain ⟨rfl⟩ := same
      exact away⟩

theorem SkipRecord.isLoaded_iff {r : SkipRecord} : r.isLoaded = true ↔ ∃ m, r.contents = .loaded m := by
  unfold SkipRecord.isLoaded
  cases r.contents <;> simp

theorem State.skipsInUse_iff {s : State} :
    s.skipsInUse = true ↔
      (s.pipe .rock).active ≠ none ∨ ∃ t, (s.pipe .rock).staged = some t ∧ t.isRockCycle = true ∧ t.granted = true := by
  unfold State.skipsInUse
  rw [Bool.or_eq_true, Option.isSome_iff_ne_none, Option.any_eq_true]
  simp only [Bool.and_eq_true]

/-! ## The ready flag of a staged cycle (R82, R133) -/

theorem State.formReadiness_eq (s : State) :
    s.formReadiness = { s with pipes := s.pipes.set .rock { s.pipe .rock with staged := (s.pipe .rock).staged.map s.readied } } := rfl

theorem State.formReadiness_granted {s : State} {t : Trip} (staged : (s.pipe .rock).staged = some t) (granted : t.granted = true) :
    s.formReadiness = s := by
  have kept : s.readied t = t := by
    unfold State.readied
    rw [granted, Bool.not_true, Bool.and_false]
  have pipe : ({ s.pipe .rock with staged := (s.pipe .rock).staged.map s.readied } : Pipe) = s.pipes.get .rock := by
    rw [staged, Option.map_some, kept, ← staged]
    rfl
  rw [State.formReadiness_eq, pipe, PerWinder.set_get]

theorem State.readied_cycle {s : State} {t : Trip} {l : Leg} {k : Skip} (cycle : t.isRockCycle = true) (leg : t.leg = some l)
    (rising : skipOf l.leading = some k) (ungranted : t.granted = false) :
    s.readied t = { t with ready := s.rockReady k && !s.cycleActive } := by
  have found : t.rising = some k := by
    unfold Trip.rising
    rw [leg]
    exact rising
  unfold State.readied
  rw [cycle, ungranted, found]
  rfl

theorem State.formReadiness_cycle {s : State} {t : Trip} {l : Leg} {k : Skip} (staged : (s.pipe .rock).staged = some t)
    (cycle : t.isRockCycle = true) (leg : t.leg = some l) (rising : skipOf l.leading = some k) (ungranted : t.granted = false) :
    (s.formReadiness.pipe .rock).staged = some { t with ready := s.rockReady k && !s.cycleActive } := by
  show (s.pipe .rock).staged.map s.readied = _
  rw [staged, Option.map_some, State.readied_cycle cycle leg rising ungranted]

/-! ## The commands of the skips (R128, R130 to R132) -/

theorem State.setContents_eq {s : State} {skips : PerSkip SkipRecord} {now : Time} (same : s.skips = skips) (at_ : s.now = now)
    (k : Skip) (c : Contents) :
    s.setContents k c = ({ s with skips := skips.set k ⟨c, now⟩ } : State).formReadiness := by
  subst same at_
  rfl

/-- The tests of LOADED (R130). -/
def State.loadedTests (s : State) (k : Skip) (mass : Nat) : List (Bool × Reason) :=
  [(!between 0 65535 mass, .outOfRange), (s.pairing == .unpaired, .unpaired), (!s.restsAtPocket k, .skipState),
   ((s.skips.get k).isLoaded, .skipState)]

theorem State.heard_loadedTests (s : State) (h : Head) (x : Kind) (k : Skip) (mass : Nat) :
    (s.heard h x).loadedTests k mass = s.loadedTests k mass := by
  rw [State.heard_eq]
  rfl

theorem State.loaded_inOrder {s : State} {h : Head} {n : Nat} {k : Skip} (skip : skipCode n = some k) (mass : Nat)
    (a : s.admits h .loaded 3 none) :
    TestsInOrder (fun r => s.Reads (.loaded h n mass) h .loaded (.refused r, .nothing))
      [(65535 < mass, .outOfRange),
       (s.pairing = .unpaired, .unpaired),
       ((s.position k.conveyance).rest = false ∨ (∃ p, s.pairing = .paired p ∧ s.standsAt k p.point = false), .skipState),
       ((∃ m, (s.skips.get k).contents = .loaded m), .skipState)]
      (s.Answers (.loaded h n mass) h .loaded
        ((({ s.heard h .loaded with skips := s.skips.set k ⟨.loaded mass, s.now⟩ } : State).formReadiness).settle .rock)
        (.done, .nothing)) := by
  have heavy : 65535 < mass ↔ (!between 0 65535 mass) = true := by
    rw [not_true_iff, between_eq_false]
    omega
  have tests := State.inOrder_of_request (c := .loaded h n mass) (table := s.loadedTests k mass)
    (tests := [(65535 < mass, .outOfRange), (s.pairing = .unpaired, .unpaired), ((!s.restsAtPocket k) = true, .skipState),
      ((∃ m, (s.skips.get k).contents = .loaded m), .skipState)])
    (act := fun s => ((s.setContents k (.loaded mass)).settle .rock, done))
    (taken := s.Answers (.loaded h n mass) h .loaded
        ((({ s.heard h .loaded with skips := s.skips.set k ⟨.loaded mass, s.now⟩ } : State).formReadiness).settle .rock)
        (.done, .nothing)) rfl a
    (by
      rw [← State.heard_loadedTests s h .loaded]
      show takeLoaded n mass _ = _
      unfold takeLoaded
      rw [skip]
      rfl)
    (.cons ⟨heavy, rfl⟩ (.cons ⟨beq_iff_eq.symm, rfl⟩ (.cons ⟨Iff.rfl, rfl⟩
      (.cons ⟨SkipRecord.isLoaded_iff.symm, rfl⟩ .nil))))
    (fun _ answers => by
      rw [State.setContents_eq (s.heard_skips ..) (s.heard_now ..)] at answers
      exact answers)
  obtain ⟨range, tests⟩ := tests
  refine ⟨range, fun fits => ?_⟩
  obtain ⟨unpaired, tests⟩ := tests fits
  refine ⟨unpaired, fun paired => ?_⟩
  obtain ⟨away, tests⟩ := tests paired
  exact ⟨fun gone => away ((State.restsAtPocket_eq_false paired).mpr gone),
    fun here => tests (mt (State.restsAtPocket_eq_false paired).mp here)⟩

theorem takeTipped_of {n : Nat} {k : Skip} (skip : skipCode n = some k) (s : State) :
    takeTipped n s = s.tested [(!s.restsAt k .tip, .skipState)] (fun s => ((s.setContents k .empty).settle .rock, done)) := by
  unfold takeTipped
  rw [skip]

theorem State.heard_restsAt (s : State) (h : Head) (x : Kind) (k : Skip) (point : RockPoint) :
    (s.heard h x).restsAt k point = s.restsAt k point := by
  rw [State.heard_eq]
  rfl

theorem takeSetSkipContents_of {n code : Nat} {mass : Option Nat} {k : Skip} {c : Contents} (skip : skipCode n = some k)
    (contents : contentsCode code mass = some c) (s : State) :
    takeSetSkipContents n code mass s =
      s.tested [(s.skipsInUse, .skipInUse)] (fun s => ((s.setContents k c).settle .rock, done)) := by
  unfold takeSetSkipContents
  rw [skip, contents]

theorem takeSetSkipContents_refused {n code : Nat} {mass : Option Nat} (s : State)
    (bad : skipCode n = none ∨ contentsCode code mass = none) : takeSetSkipContents n code mass s = (s, refuse .outOfRange) := by
  unfold takeSetSkipContents
  split
  · next k c skip contents =>
    rw [skip, contents] at bad
    rcases bad with bad | bad <;> cases bad
  · rfl

theorem State.heard_skipsInUse (s : State) (h : Head) (x : Kind) : (s.heard h x).skipsInUse = s.skipsInUse := by
  rw [State.heard_eq]
  rfl

theorem State.setSkipContents_answers {s t : State} {h : Head} {n code : Nat} {mass : Option Nat} {r : Code × Answer}
    (a : s.admits h .setSkipContents (2 + optionalSize 2 (Presence.of mass)) none)
    (taken : takeSetSkipContents n code mass (s.heard h .setSkipContents) = (t, r)) :
    s.Answers (.setSkipContents h n code (.of mass)) h .setSkipContents t r := by
  refine State.answers_of_request rfl a ?_
  rw [withRead_of]
  exact taken

/-- Settles O55. -/
theorem skipContentsAndReadiness : Obligations.SkipContentsAndReadiness := by
  refine ⟨fun s h n k skip => ⟨fun mass a => State.loaded_inOrder skip mass a, fun a => ⟨fun rest stands => ?_, fun away => ?_⟩,
      fun code mass bad a => State.setSkipContents_answers a (takeSetSkipContents_refused _ (.inr (contentsCode_eq_none bad))),
      fun code mass c contents a => ⟨fun used => ?_, fun free => ?_⟩⟩,
    fun s t l k staged cycle leg rising => ⟨fun granted => State.formReadiness_granted staged granted,
      fun ungranted => ⟨_, State.formReadiness_cycle staged cycle leg rising ungranted, s.readyToRise_iff k⟩⟩,
    fun t => Trip.isRockCycle_iff, fun code mass c => contentsCode_eq_some, fun s k point => State.standsAt_iff,
    fun s h n beyond => ⟨fun mass a => State.answers_of_request rfl a ?_, fun a => State.answers_of_request rfl a ?_,
      fun code mass a => State.setSkipContents_answers a (takeSetSkipContents_refused _ (.inl (skipCode_of_le beyond)))⟩⟩
  · have test : (!(s.heard h .tipped).restsAt k .tip) = false := by
      rw [State.heard_restsAt]
      unfold State.restsAt
      rw [rest, stands]
      rfl
    refine State.answers_of_request rfl a ((takeTipped_of skip _).trans ?_)
    rw [test, State.tested_none rfl, State.setContents_eq (s.heard_skips ..) (s.heard_now ..)]
    rfl
  · have test : (!(s.heard h .tipped).restsAt k .tip) = true := by
      rw [State.heard_restsAt]
      exact State.restsAt_eq_false.mpr away
    refine State.answers_of_request rfl a ((takeTipped_of skip _).trans ?_)
    rw [test]
    exact State.tested_some rfl _
  · refine State.setSkipContents_answers a ((takeSetSkipContents_of skip contents _).trans ?_)
    rw [State.heard_skipsInUse, State.skipsInUse_iff.mpr used]
    exact State.tested_some rfl _
  · have test : s.skipsInUse = false := Bool.eq_false_iff.mpr (mt State.skipsInUse_iff.mp free)
    refine State.setSkipContents_answers a ((takeSetSkipContents_of skip contents _).trans ?_)
    rw [State.heard_skipsInUse, test, State.tested_none rfl, State.setContents_eq (s.heard_skips ..) (s.heard_now ..)]
    rfl
  · unfold takeLoaded
    rw [skipCode_of_le beyond]
    rfl
  · unfold takeTipped
    rw [skipCode_of_le beyond]
    rfl

end Sys2Proof.Machine

/-! PROOFS. The re-pair, the clutch, and what becoming Unpaired does (O56). -/

namespace Sys2Proof.Machine

/-! ## Becoming Unpaired (R69, R135) -/

/-- A queue with every entry Held-pairing (R69). -/
def heldQueue (q : List Call) : List Call := q.map (fun c => { c with state := .heldPairing })

/-- The state once the pairing is Unpaired and the calls are held, before the staged slot is looked at. -/
def State.heldUnpaired (s : State) : State :=
  { s with pairing := .unpaired, pairBeyond := false, queues := s.queues.set .rock (heldQueue (s.queues.get .rock)) }

theorem State.unpair_of_unpaired {s : State} (unpaired : s.pairing = .unpaired) : s.unpair = s := if_pos unpaired

theorem State.unpair_of_paired {s : State} (paired : s.pairing ≠ .unpaired) :
    s.unpair = s.heldUnpaired.unstageCycle.formReadiness := if_neg paired

theorem State.unstageCycle_cycle {s : State} {t : Trip} (staged : (s.pipe .rock).staged = some t) (cycle : t.isRockCycle = true) :
    s.unstageCycle = s.withdrawStaged .rock .waiting := if_pos (by rw [staged]; exact cycle)

theorem State.unstageCycle_other {s : State} (other : ∀ t, (s.pipe .rock).staged = some t → t.isRockCycle = false) :
    s.unstageCycle = s := by
  refine if_neg fun found => ?_
  obtain ⟨t, staged, cycle⟩ := (Option.any_eq_true _ _).mp found
  rw [other t staged] at cycle
  exact Bool.noConfusion cycle

theorem State.formReadiness_other {s : State} (other : ∀ t, (s.pipe .rock).staged = some t → t.isRockCycle = false) :
    s.formReadiness = s := by
  have kept : (s.pipe .rock).staged.map s.readied = (s.pipe .rock).staged := by
    cases staged : (s.pipe .rock).staged with
    | none => rfl
    | some t =>
      have same : s.readied t = t := by
        unfold State.readied
        rw [other t staged]
        rfl
      rw [Option.map_some, same]
  have pipe : ({ s.pipe .rock with staged := (s.pipe .rock).staged.map s.readied } : Pipe) = s.pipes.get .rock := by
    rw [kept]
    rfl
  rw [State.formReadiness_eq, pipe, PerWinder.set_get]

/-- With no rock cycle staged, becoming Unpaired touches the pairing and the queue alone (R69, R135). -/
theorem State.unpair_other {s : State} (paired : s.pairing ≠ .unpaired)
    (other : ∀ t, (s.pipe .rock).staged = some t → t.isRockCycle = false) : s.unpair = s.heldUnpaired := by
  rw [State.unpair_of_paired paired, State.unstageCycle_other (s := s.heldUnpaired) other,
    State.formReadiness_other (s := s.heldUnpaired) other]

theorem State.unpair_cycle {s : State} {t : Trip} (paired : s.pairing ≠ .unpaired) (staged : (s.pipe .rock).staged = some t)
    (cycle : t.isRockCycle = true) : s.unpair = s.heldUnpaired.withdrawStaged .rock .waiting := by
  have empty := (s.heldUnpaired.withdrawStaged_slots .rock .waiting).1
  rw [State.unpair_of_paired paired, State.unstageCycle_cycle (s := s.heldUnpaired) staged cycle]
  exact State.formReadiness_other fun x found => by
    rw [empty] at found
    cases found

theorem State.unpair_active (s : State) : (s.unpair.pipe .rock).active = (s.pipe .rock).active := by
  by_cases unpaired : s.pairing = .unpaired
  · rw [State.unpair_of_unpaired unpaired]
  · rw [State.unpair_of_paired unpaired]
    show (s.heldUnpaired.unstageCycle.pipe .rock).active = _
    unfold State.unstageCycle
    split
    · exact (s.heldUnpaired.withdrawStaged_slots .rock .waiting).2
    · rfl

theorem State.unpair_pairBeyond {s : State} (paired : s.pairing ≠ .unpaired) : s.unpair.pairBeyond = false := by
  rw [State.unpair_of_paired paired]
  show s.heldUnpaired.unstageCycle.pairBeyond = false
  unfold State.unstageCycle
  split
  · exact (s.heldUnpaired.withdrawStaged_still .rock .waiting).pairBeyond
  · rfl

theorem State.unpair_winders (s : State) : s.unpair.winders = s.winders := by rw [State.unpair_eq]

theorem State.unpair_positions (s : State) : s.unpair.positions = s.positions := by rw [State.unpair_eq]

theorem State.unpair_sent (s : State) : s.unpair.sent = s.sent := by rw [State.unpair_eq]

theorem heldQueue_merges {q : List Call} {work : CallWork} (apart : ∀ x ∈ q, x.work.merges work = false) :
    ∀ x ∈ heldQueue q, x.work.merges work = false := by
  intro x mem
  obtain ⟨y, member, rfl⟩ := List.mem_map.mp mem
  exact apart y member

/-- A cycle whose call returns while the skips are Unpaired stands Held-pairing at the head (R62, R69). -/
theorem State.returnCall_heldPairing {s : State} {c : Call} {k : Skip} (unpaired : s.pairing = .unpaired) (cycle : c.work = .cycle k)
    (apart : ∀ x ∈ s.queues.get .rock, x.work.merges c.work = false) :
    (s.returnCall .rock c .waiting).queues.get .rock = { c with state := .heldPairing } :: s.queues.get .rock := by
  have held : s.returnedState c.work .waiting = .heldPairing :=
    State.returnedState_eq (fun _ => rfl) (fun other => absurd ⟨⟨k, cycle⟩, rfl, unpaired⟩ other)
  rw [State.returnCall_apart (mergingEntry_eq_none.mpr apart), held]
  rfl

/-! ## The leg of a free move (R137) -/

theorem State.freeLeg_direction {s : State} {k : Skip} {x : Int} (estimate : (s.position k.conveyance).estimate = some x) (p : Pocket)
    (number : Nat) :
    (x < (s.work.rockPoints.get p.point).depth → (s.freeLeg k p number).direction = .descending) ∧
      ((s.work.rockPoints.get p.point).depth < x → (s.freeLeg k p number).direction = .ascending) := by
  have origin : s.estimateOrigin k.conveyance = x := by
    unfold State.estimateOrigin
    rw [estimate]
    rfl
  have direction : (s.freeLeg k p number).direction =
      directionTo (s.estimateOrigin k.conveyance) (s.work.rockPoints.get p.point).depth (tieDirection number) := rfl
  rw [direction, origin]
  exact directionTo_spec _

theorem State.freeLeg_uncoupled (s : State) (k : Skip) (p : Pocket) (number : Nat) : (s.freeLeg k p number).isCoupled = false := by
  cases k <;> rfl

/-! ## The clutch with a re-pair in hand (R138 to R140) -/

theorem State.takeClutch_within {s : State} {r : RePair} (repair : s.repair = some r) (c : Clutch) :
    s.takeClutch c = ({ s with clutch := some c } : State).clutchWithin r c := by
  unfold State.takeClutch
  dsimp only
  rw [repair]

theorem State.clutchWithin_openingOpened {s : State} {r : RePair} (phase : r.phase = .opening) :
    s.clutchWithin r .opened = s.openingConfirmed r := by
  unfold State.clutchWithin
  rw [phase]

theorem State.clutchWithin_openingOther {s : State} {r : RePair} {c : Clutch} (phase : r.phase = .opening)
    (other : c = .closed ∨ c = .moving) : s.clutchWithin r c = s := by
  unfold State.clutchWithin
  rw [phase]
  rcases other with rfl | rfl <;> rfl

theorem State.clutchWithin_closingOther {s : State} {r : RePair} {c : Clutch} (phase : r.phase = .closing)
    (other : c = .opened ∨ c = .moving) : s.clutchWithin r c = s := by
  unfold State.clutchWithin
  rw [phase]
  rcases other with rfl | rfl <;> rfl

theorem State.clutchWithin_closingClosed {s : State} {r : RePair} (phase : r.phase = .closing) :
    s.clutchWithin r .closed = s.closingConfirmed r := by
  unfold State.clutchWithin
  rw [phase]

theorem State.clutchWithin_freeOther {s : State} {r : RePair} {c : Clutch} (phase : r.phase = .freeMove)
    (other : c = .closed ∨ c = .moving) : s.clutchWithin r c = s.clutchFault := by
  unfold State.clutchWithin
  rw [phase]
  rcases other with rfl | rfl <;> rfl

theorem State.clutchWithin_freeOpened {s : State} {r : RePair} (phase : r.phase = .freeMove) :
    s.clutchWithin r .opened = s.freeConfirmed r := by
  unfold State.clutchWithin
  rw [phase]

theorem State.freeConfirmed_iff {s : State} :
    (s.isIn .rock .clutching && (s.pipe .rock).offer.isNone) = true ↔
      (s.winder .rock).state = .clutching ∧ (s.pipe .rock).offer = none := by
  rw [Bool.and_eq_true, State.isIn_iff, Option.isNone_iff_eq_none]

/-- "IDLE or PARKED" writes the winder's own parts alone (R98). -/
theorem State.park_eq (s : State) (w : Winder) :
    s.park w =
      { s with winders := (s.park w).winders, positions := (s.park w).positions, caps := (s.park w).caps
               monitors := (s.park w).monitors, pipes := (s.park w).pipes } := by
  have changed (st : WinderState) : s.changeState w st =
      { s with winders := (s.changeState w st).winders, positions := (s.changeState w st).positions
               caps := (s.changeState w st).caps, monitors := (s.changeState w st).monitors
               pipes := (s.changeState w st).pipes } := by
    by_cases same : (s.winder w).state = st
    · rw [State.changeState_self s w st same]
    · have eq := State.changeState_eq same
      generalize s.changeState w st = u at eq ⊢
      rw [eq]
  unfold State.park
  split
  · have eq := changed .parked
    generalize s.changeState w .parked = u at eq ⊢
    rw [eq]
    rfl
  · exact changed .idle

/-- The closing confirmation (R140). -/
theorem State.closingConfirmed_spec {s : State} {a : Trip} (r : RePair) (active : (s.pipe .rock).active = some a)
    (kind : a.kind = .rePair) (clutching : (s.winder .rock).state = .clutching) :
    let u := s.closingConfirmed r
    u.pairing = .paired r.pocket ∧ u.clutchTimer = none ∧ u.repair = none ∧ (u.pipe .rock).active = none ∧
      u.clutch = s.clutch ∧ u.pairBeyond = false ∧
      u.queues = s.queues.set .rock ((s.queues.get .rock).map (fun c =>
        if c.state = .heldPairing then { c with state := .waiting } else c)) ∧
      (u.winder .rock).state = (if (s.winder .rock).holdPending = true then .parked else .idle) ∧
      (u.pipe .rock).latest = some ⟨a.number,
        if ∃ l ∈ a.legs, 0 < l.relevels then .completedRelevelled else .completed⟩ := by
  intro u
  obtain ⟨x, hx⟩ : ∃ x, x = ({ s with clutchTimer := none } : State).pairWith r.pocket := ⟨_, rfl⟩
  have outcome : ((s.pipe .rock).active.map Trip.landedOutcome).getD .completed = a.landedOutcome := by
    rw [active]
    rfl
  have closed : u = x.endAndPark .rock a.landedOutcome := by
    rw [hx, ← outcome]
    rfl
  have kept : x.pairing = .paired r.pocket ∧ x.clutch = s.clutch ∧ x.pairBeyond = false ∧
      x.queues = s.queues.set .rock ((s.queues.get .rock).map (fun c =>
        if c.state = .heldPairing then { c with state := .waiting } else c)) ∧
      (x.pipe .rock).active = (s.pipe .rock).active ∧ x.winders = s.winders := by
    rw [hx]
    exact ⟨rfl, rfl, rfl, rfl, rfl, rfl⟩
  obtain ⟨pairing, clutch, beyond, queues, slot, winders⟩ := kept
  clear hx
  have winder : x.winder .rock = s.winder .rock := congrArg (fun p => p.get .rock) winders
  obtain ⟨-, empty, latest, -, -, state, -, -⟩ :=
    State.endAndPark_spec (slot.trans active) (by rw [winder, clutching]; decide) a.landedOutcome
  rw [winder] at state
  have frame := (x.endActive .rock a.landedOutcome).park_eq .rock
  have ended := State.endActive_of (slot.trans active) a.landedOutcome
  rw [if_pos kind, if_pos kind] at ended
  rw [show (x.endActive .rock a.landedOutcome).park .rock = u from closed.symm] at frame
  rw [← closed] at empty latest state
  clear_value u
  rw [Trip.landedOutcome_eq] at latest
  refine ⟨?_, ?_, ?_, empty, ?_, ?_, ?_, state, latest⟩
  · rw [frame, ended]
    exact pairing
  · rw [frame, ended]
  · rw [frame, ended]
  · rw [frame, ended]
    exact clutch
  · rw [frame, ended]
    exact beyond
  · rw [frame, ended]
    exact queues

/-! ## The clutch with no re-pair in hand (R136) -/

theorem State.takeClutch_outside {s : State} (idle : s.repair = none) (c : Clutch) :
    s.takeClutch c = ({ s with clutch := some c } : State).clutchOutside c := by
  unfold State.takeClutch
  dsimp only
  rw [idle]

theorem State.clutchOutside_kept {s : State} {c : Clutch} (kept : c = .closed ∨ s.pairing = .unpaired) :
    s.clutchOutside c = s.discardInspection c := by
  have test : ¬(c != .closed && s.pairing != .unpaired) = true := by
    rw [Bool.and_eq_true, bne_iff_ne, bne_iff_ne]
    exact fun both => kept.elim both.1 both.2
  exact congrArg (fun t : State => t.discardInspection c) (if_neg test)

theorem State.clutchOutside_changed {s : State} {c : Clutch} (unclosed : c ≠ .closed) (paired : s.pairing ≠ .unpaired) :
    s.clutchOutside c = s.unrequestedChange.discardInspection c := by
  have test : (c != .closed && s.pairing != .unpaired) = true := by
    rw [Bool.and_eq_true, bne_iff_ne, bne_iff_ne]
    exact ⟨unclosed, paired⟩
  exact congrArg (fun t : State => t.discardInspection c) (if_pos test)

theorem Trip.isCoupled_iff {t : Trip} : t.isCoupled = true ↔ ∃ l, t.leg = some l ∧ l.isCoupled = true := by
  unfold Trip.isCoupled
  rw [Option.any_eq_true]

theorem State.activeCoupled_iff {s : State} :
    (s.pipe .rock).active.any Trip.isCoupled = true ↔
      ∃ a l, (s.pipe .rock).active = some a ∧ a.leg = some l ∧ l.isCoupled = true := by
  rw [Option.any_eq_true]
  simp only [Trip.isCoupled_iff]
  exact ⟨fun ⟨a, active, l, rest⟩ => ⟨a, l, active, rest⟩, fun ⟨a, l, active, rest⟩ => ⟨a, active, l, rest⟩⟩

theorem State.unpair_clutchFault (s : State) :
    s.unpair.clutchFault =
      s.unpair.deliver ⟨.clutchFault, .trip, .rock, s.leading .rock, s.activeNumber .rock, none, none⟩ := by
  have active := s.unpair_active
  have leading : s.unpair.leading .rock = s.leading .rock := by
    unfold State.leading State.activeLeg
    rw [active]
  have number : s.unpair.activeNumber .rock = s.activeNumber .rock := by
    unfold State.activeNumber
    rw [active]
  unfold State.clutchFault State.leadingReport
  rw [leading, number]

theorem clutchDiffers_iff {t : Trip} {c : Clutch} :
    clutchDiffers t c = true ↔
      t.kind = .inspection ∧ ((∃ l, t.leg = some l ∧ l.isCoupled = true) → c ≠ .closed) ∧
        (¬(∃ l, t.leg = some l ∧ l.isCoupled = true) → c ≠ .opened) := by
  unfold clutchDiffers
  rw [Bool.and_eq_true, beq_iff_eq, bne_iff_ne, ← Trip.isCoupled_iff]
  refine and_congr_right fun _ => ?_
  cases t.isCoupled <;> simp

theorem State.misfit_iff {s : State} {c : Clutch} :
    (s.pipe .rock).staged.any (clutchDiffers · c) = true ↔
      ∃ t, (s.pipe .rock).staged = some t ∧ t.kind = .inspection ∧
        ((∃ l, t.leg = some l ∧ l.isCoupled = true) → c ≠ .closed) ∧
        (¬(∃ l, t.leg = some l ∧ l.isCoupled = true) → c ≠ .opened) := by
  rw [Option.any_eq_true]
  exact exists_congr fun t => and_congr_right fun _ => clutchDiffers_iff

/-! ## RE-PAIR (R137, R138) -/

/-- The tests of RE-PAIR as a table (R137). -/
def State.rePairTable (s : State) (p : Pocket) (k : Skip) : List (Bool × Reason) :=
  [(!s.isIn .rock .idle, .winderState), ((s.pipe .rock).staged.isSome, .stagedBusy), ((s.winder .rock).recovery, .recovery),
   (decide (s.pairing = .paired p), .samePairing), (decide (s.clutch = none ∨ s.clutch = some .moving), .clutchMoving),
   (!s.standsAt k.other .tip, .skipState), ((s.pathCheck .work (s.freePath p k) overNone).isSome, .workZone),
   ((s.pathCheck .inspect (s.freePath p k) overNone).isSome && (s.winder .rock).mode != .inspection, .inspectZone)]

theorem State.rePairTests_eq (s : State) (p : Pocket) (k : Skip) : s.rePairTests p k = firstFailing (s.rePairTable p k) := by
  unfold State.rePairTests State.rePairTable
  simp only [firstFailing, decide_eq_true_eq]

theorem State.heard_rePairTable (s : State) (h : Head) (x : Kind) (p : Pocket) (k : Skip) :
    (s.heard h x).rePairTable p k = s.rePairTable p k := by
  rw [State.heard_eq]
  rfl

theorem takeRePair_tested {n m : Nat} {p : Pocket} {k : Skip} (pocket : pocketCode n = some p) (skip : skipCode m = some k) (s : State) :
    takeRePair n m s =
      s.tested (s.rePairTable p k)
        (fun s => ((s.beginRePair p k).settle .rock, doneWith (.tripNumber (s.nextTrip .rock)))) := by
  unfold takeRePair State.tested
  rw [pocket, skip]
  dsimp only
  rw [State.rePairTests_eq] <;> rfl

theorem State.rePairTests_same (s : State) (p : Pocket) (k : Skip) :
    let path := s.path k.conveyance (s.estimateOrigin k.conveyance) [(s.work.rockPoints.get p.point).depth]
    List.Forall₂ SameTest
      [((s.winder .rock).state ≠ .idle, .winderState),
       ((s.pipe .rock).staged ≠ none, .stagedBusy),
       ((s.winder .rock).recovery = true, .recovery),
       (s.pairing = .paired p, .samePairing),
       (s.clutch = none ∨ s.clutch = some .moving, .clutchMoving),
       (s.standsAt k.other .tip = false, .skipState),
       (s.pathCheck .work [path] (fun _ _ => false) ≠ none, .workZone),
       (s.pathCheck .inspect [path] (fun _ _ => false) ≠ none ∧ (s.winder .rock).mode ≠ .inspection, .inspectZone)]
      (s.rePairTable p k) := by
  intro path
  refine .cons ⟨?_, rfl⟩ (.cons ⟨Option.isSome_iff_ne_none.symm, rfl⟩ (.cons ⟨Iff.rfl, rfl⟩ (.cons ⟨decide_eq_true_iff.symm, rfl⟩
    (.cons ⟨decide_eq_true_iff.symm, rfl⟩ (.cons ⟨not_true_iff.symm, rfl⟩ (.cons ⟨Option.isSome_iff_ne_none.symm, rfl⟩
    (.cons ⟨?_, rfl⟩ .nil)))))))
  · rw [not_true_iff, State.isIn_eq_false]
  · rw [Bool.and_eq_true, bne_iff_ne, Option.isSome_iff_ne_none]
    rfl

/-- The trip of a re-pair (R137). -/
def State.rePairTrip (s : State) (p : Pocket) (k : Skip) : Trip :=
  Trip.built (s.nextTrip .rock) .rePair .rePair [s.freeLeg k p (s.nextTrip .rock)]

/-- The state in which the re-pair has begun and the skips are Unpaired, before the clutch is looked at (R137). -/
def State.rePairBegun (s : State) (p : Pocket) (k : Skip) : State :=
  ((s.activate .rock (s.rePairTrip p k)).changeState .rock .clutching).unpair

theorem State.armMotion_measures (s : State) (c d : Conveyance) : ((s.armMotion c).position d).measures = (s.position d).measures :=
  s.withPosition_measures c rfl d

theorem State.enterClutching_measures (s : State) (c : Conveyance) :
    ((s.changeState .rock .clutching).position c).measures = (s.position c).measures := by
  by_cases same : (s.winder .rock).state = .clutching
  · rw [State.changeState_self s .rock _ same]
  · rw [State.changeState_eq same]
    exact (State.armMotion_measures _ _ c).trans (State.armMotion_measures _ _ c)

/-- What the beginning of a re-pair from IDLE with nothing staged leaves (R135, R137). -/
theorem State.rePairBegun_spec {s : State} (p : Pocket) (k : Skip) (idle : (s.winder .rock).state = .idle)
    (unstaged : (s.pipe .rock).staged = none) :
    let u := s.rePairBegun p k
    u.winder .rock = (s.winder .rock).entered .clutching s.now ∧ u.pairing = .unpaired ∧
      (u.pipe .rock).active = some (s.rePairTrip p k) ∧ (u.pipe .rock).lastTrip = s.nextTrip .rock ∧
      (s.pairing ≠ .unpaired → ∀ c ∈ u.queues.get .rock, c.state = .heldPairing) ∧
      (∀ c, (u.position c).measures = (s.position c).measures) ∧
      u.clutch = s.clutch ∧ u.drives = s.drives ∧ u.sent = s.sent ∧ u.now = s.now ∧ u.zones = s.zones := by
  intro u
  obtain ⟨v, hv⟩ : ∃ v, v = (s.activate .rock (s.rePairTrip p k)).changeState .rock .clutching := ⟨_, rfl⟩
  have away : ((s.activate .rock (s.rePairTrip p k)).winder .rock).state ≠ .clutching := by
    rw [show (s.activate .rock (s.rePairTrip p k)).winder .rock = s.winder .rock from rfl, idle]
    decide
  have winder : v.winder .rock = (s.winder .rock).entered .clutching s.now := by
    rw [hv, State.changeState_winder _ _ _ away]
    rfl
  have pipe : v.pipe .rock =
      { s.pipe .rock with active := some (s.rePairTrip p k), lastTrip := s.nextTrip .rock, settle := none } := by
    rw [hv, State.changeState_pipe _ _ _ away]
    rfl
  have measures (c : Conveyance) : (v.position c).measures = (s.position c).measures := by
    rw [hv, State.enterClutching_measures]
    rfl
  have kept : v.pairing = s.pairing ∧ v.queues = s.queues ∧ v.clutch = s.clutch ∧ v.drives = s.drives ∧ v.sent = s.sent ∧
      v.now = s.now ∧ v.zones = s.zones := by
    rw [hv, State.changeState_eq away]
    exact ⟨rfl, rfl, rfl, rfl, rfl, rfl, rfl⟩
  obtain ⟨pairing, queues, clutch, drives, sent, now, zones⟩ := kept
  have begun : u = v.unpair := by
    rw [hv]
    rfl
  have empty : ∀ t, (v.pipe .rock).staged = some t → t.isRockCycle = false := fun t found => by
    rw [pipe] at found
    exact absurd (unstaged.symm.trans found).symm (Option.some_ne_none t)
  have slots : u.pipe .rock = v.pipe .rock ∧ (s.pairing ≠ .unpaired → u.queues.get .rock = heldQueue (s.queues.get .rock)) := by
    rw [begun]
    by_cases unpaired : v.pairing = .unpaired
    · rw [State.unpair_of_unpaired unpaired]
      exact ⟨rfl, fun paired => absurd (pairing.symm.trans unpaired) paired⟩
    · rw [State.unpair_other unpaired empty, ← queues]
      exact ⟨rfl, fun _ => rfl⟩
  have frame := v.unpair_eq
  rw [← begun] at frame
  have record : u.winder .rock = v.winder .rock := by
    rw [frame]
    rfl
  have positions : u.positions = v.positions := by rw [frame]
  refine ⟨record.trans winder, ?_, ?_, ?_, fun paired c mem => ?_, fun c => ?_, ?_, ?_, ?_, ?_, ?_⟩
  · rw [begun]
    exact v.unpair_pairing
  · rw [slots.1, pipe]
  · rw [slots.1, pipe]
  · rw [slots.2 paired] at mem
    obtain ⟨x, -, rfl⟩ := List.mem_map.mp mem
    rfl
  · rw [← measures c]
    unfold State.position
    rw [positions]
  · rw [frame]
    exact clutch
  · rw [frame]
    exact drives
  · rw [frame]
    exact sent
  · rw [frame]
    exact now
  · rw [frame]
    exact zones

theorem State.beginRePair_closed {s : State} {p : Pocket} {k : Skip} (closed : (s.rePairBegun p k).clutch = some .closed) :
    s.beginRePair p k =
      ({ s.rePairBegun p k with repair := some ⟨.opening, p, k, none⟩ } : State).orderClutch .clutchOpen := by
  unfold State.rePairBegun State.rePairTrip at closed ⊢
  unfold State.beginRePair
  dsimp only
  rw [closed]

theorem State.beginRePair_opened {s : State} {p : Pocket} {k : Skip} (opened : (s.rePairBegun p k).clutch = some .opened) :
    s.beginRePair p k = ({ s.rePairBegun p k with repair := some ⟨.freeMove, p, k, none⟩ } : State).offerLeg .rock := by
  unfold State.rePairBegun State.rePairTrip at opened ⊢
  unfold State.beginRePair
  dsimp only
  rw [opened]

theorem State.path_congr_of_measures {s t : State} {c : Conveyance} (record : (t.position c).measures = (s.position c).measures)
    (origin : Int) (targets : List Int) : t.path c origin targets = s.path c origin targets := by
  have estimate : (t.position c).estimate = (s.position c).estimate := (congrArg Position.estimate record :)
  have band : (t.position c).band = (s.position c).band := (congrArg Position.band record :)
  unfold State.path
  dsimp only
  rw [estimate, band]

/-- The free move is offered over the path that RE-PAIR tested (R83, R137). -/
theorem State.freePaths_clear {s u : State} {p : Pocket} {k : Skip} {n : Nat}
    (measures : ∀ c, (u.position c).measures = (s.position c).measures) (now : u.now = s.now) (zones : u.zones = s.zones)
    (clear : s.pathCheck .work (s.freePath p k) overNone = none) :
    u.pathCheck .work (u.legPaths (s.freeLeg k p n)) (u.overOwn false) = none := by
  have estimate : (u.position k.conveyance).estimate = (s.position k.conveyance).estimate :=
    (congrArg Position.estimate (measures k.conveyance) :)
  have origin : u.estimateOrigin k.conveyance = s.estimateOrigin k.conveyance := by
    unfold State.estimateOrigin
    rw [estimate, now]
  have targets : targetsIn [s.freeLeg k p n] k.conveyance = [(s.work.rockPoints.get p.point).depth] := by cases k <;> rfl
  have paths : u.legPaths (s.freeLeg k p n) = s.freePath p k := by
    show [u.path k.conveyance (u.estimateOrigin k.conveyance) (targetsIn [s.freeLeg k p n] k.conveyance)] = _
    rw [origin, targets, State.path_congr_of_measures (measures k.conveyance)]
    rfl
  rw [paths, ← clear]
  unfold State.pathCheck
  rw [zones]
  rfl

theorem State.rePair_closed {s : State} {h : Head} {n m : Nat} {p : Pocket} {k : Skip}
    (idle : (s.winder .rock).state = .idle) (unstaged : (s.pipe .rock).staged = none) (closed : s.clutch = some .closed)
    (answers : s.Answers (.rePair h n m) h .rePair (((s.heard h .rePair).beginRePair p k).settle .rock)
      (.done, .tripNumber ((s.heard h .rePair).nextTrip .rock))) :
    let number := s.nextTrip .rock
    Completes (.rePair h n m) s (fun t =>
      (t.winder .rock).state = .clutching ∧ (t.winder .rock).permit = false ∧ t.pairing = .unpaired ∧
      t.repair = some ⟨.opening, p, k, none⟩ ∧ t.clutchTimer = some (s.now + 20000#32) ∧
      (t.pipe .rock).active = some (Trip.built number .rePair .rePair [s.freeLeg k p number]) ∧
      (t.pipe .rock).lastTrip = number ∧
      (s.pairing ≠ .unpaired → ∀ c ∈ t.queues.get .rock, c.state = .heldPairing) ∧
      t.sent = [.order .rock (s.drives.get .rock).tagCount .clutchOpen,
        s.replyTo h .rePair (.done, .tripNumber number)]) := by
  intro number
  obtain ⟨x, hx⟩ : ∃ x, x = s.heard h .rePair := ⟨_, rfl⟩
  have heard : x.winder .rock = s.winder .rock ∧ x.pipe .rock = s.pipe .rock ∧ x.clutch = s.clutch ∧ x.pairing = s.pairing ∧
      x.drives = s.drives ∧ x.sent = [] ∧ x.now = s.now ∧ x.rePairTrip p k = s.rePairTrip p k ∧ x.nextTrip .rock = number := by
    rw [hx, State.heard_eq]
    exact ⟨rfl, rfl, rfl, rfl, rfl, rfl, rfl, rfl, rfl⟩
  obtain ⟨winder, pipe, clutch, pairing, drives, sent, now, trip, next⟩ := heard
  rw [← hx] at answers
  clear hx
  obtain ⟨record, unpaired, active, last, held, -, still, orders, frames, clock, -⟩ :=
    State.rePairBegun_spec (s := x) p k (by rw [winder]; exact idle) (by rw [pipe]; exact unstaged)
  have begun := State.beginRePair_closed (still.trans (clutch.trans closed))
  rw [trip] at active
  rw [next] at last answers
  rw [pairing] at held
  generalize x.rePairBegun p k = b at *
  have quiet : (x.beginRePair p k).settle .rock = x.beginRePair p k := by
    refine State.settle_quiet _ .rock ?_
    rw [begun]
    show (b.winder .rock).state.stages = false
    rw [record]
    rfl
  rw [quiet, begun] at answers
  refine answers.completes (by decide) ⟨?_, ?_, unpaired, rfl, ?_, active, last, held, ?_⟩
  · exact congrArg WinderRecord.state record
  · exact congrArg WinderRecord.permit record
  · exact congrArg (fun t : Time => some (ahead t 20000)) (clock.trans now)
  · show (b.sent ++ [.order .rock (b.drives.get .rock).tagCount .clutchOpen]) ++ [_] = _
    rw [frames, sent, orders, drives]
    rfl

theorem State.rePair_opened {s : State} {h : Head} {n m : Nat} {p : Pocket} {k : Skip}
    (idle : (s.winder .rock).state = .idle) (unstaged : (s.pipe .rock).staged = none) (opened : s.clutch = some .opened)
    (clear : s.pathCheck .work (s.freePath p k) overNone = none)
    (answers : s.Answers (.rePair h n m) h .rePair (((s.heard h .rePair).beginRePair p k).settle .rock)
      (.done, .tripNumber ((s.heard h .rePair).nextTrip .rock))) :
    let number := s.nextTrip .rock
    Completes (.rePair h n m) s (fun t =>
      (t.winder .rock).state = .clutching ∧ t.pairing = .unpaired ∧ t.repair = some ⟨.freeMove, p, k, none⟩ ∧
      (∃ e, (t.pipe .rock).offer = some (.awaiting (s.drives.get .rock).tagCount e)) ∧
      t.sent.getLast? = some (s.replyTo h .rePair (.done, .tripNumber number))) := by
  intro number
  obtain ⟨x, hx⟩ : ∃ x, x = s.heard h .rePair := ⟨_, rfl⟩
  have heard : x.winder .rock = s.winder .rock ∧ x.pipe .rock = s.pipe .rock ∧ x.clutch = s.clutch ∧ x.drives = s.drives ∧
      x.pathCheck .work (x.freePath p k) overNone = s.pathCheck .work (s.freePath p k) overNone ∧ x.nextTrip .rock = number := by
    rw [hx, State.heard_eq]
    exact ⟨rfl, rfl, rfl, rfl, rfl, rfl⟩
  obtain ⟨winder, pipe, clutch, drives, check, next⟩ := heard
  rw [← hx] at answers
  clear hx
  obtain ⟨record, unpaired, active, -, -, measures, still, orders, -, clock, zones⟩ :=
    State.rePairBegun_spec (s := x) p k (by rw [winder]; exact idle) (by rw [pipe]; exact unstaged)
  have begun := State.beginRePair_opened (still.trans (clutch.trans opened))
  rw [next] at answers
  obtain ⟨b, hb⟩ : ∃ b : State, b = { x.rePairBegun p k with repair := some ⟨.freeMove, p, k, none⟩ } := ⟨_, rfl⟩
  rw [← hb] at begun
  have fields : b.winder .rock = (x.rePairBegun p k).winder .rock ∧ b.pairing = (x.rePairBegun p k).pairing ∧
      b.pipe .rock = (x.rePairBegun p k).pipe .rock ∧ b.repair = some ⟨.freeMove, p, k, none⟩ ∧
      b.drives = (x.rePairBegun p k).drives ∧ b.positions = (x.rePairBegun p k).positions ∧ b.now = (x.rePairBegun p k).now ∧
      b.zones = (x.rePairBegun p k).zones := by
    rw [hb]
    exact ⟨rfl, rfl, rfl, rfl, rfl, rfl, rfl, rfl⟩
  obtain ⟨bWinder, bPairing, bPipe, bRepair, bDrives, bPositions, bNow, bZones⟩ := fields
  have offered : (b.pipe .rock).onOffer = some (x.rePairTrip p k) := by
    unfold Pipe.onOffer
    rw [bPipe, active]
  have paths := State.freePaths_clear (s := x) (u := b) (p := p) (k := k) (n := x.nextTrip .rock)
    (fun c => by rw [← measures c]; unfold State.position; rw [bPositions]) (bNow.trans clock) (bZones.trans zones) (check.trans clear)
  have granted := State.offerLeg_granted offered (l := x.freeLeg k p (x.nextTrip .rock)) rfl
    (fun both => by rw [State.freeLeg_uncoupled] at both; cases both.1) paths (fun cycle => Bool.noConfusion cycle)
  obtain ⟨offer, -, -, winders, -⟩ := State.sendGrant_spec offered (l := x.freeLeg k p (x.nextTrip .rock)) rfl
  rw [← granted, ← begun] at offer winders
  have frame : (x.beginRePair p k).pairing = b.pairing ∧ (x.beginRePair p k).repair = b.repair := by
    rw [begun, granted]
    exact ⟨rfl, rfl⟩
  have state : ((x.beginRePair p k).winder .rock).state = .clutching := by
    have same : (x.beginRePair p k).winder .rock = b.winder .rock := congrArg (fun w => w.get .rock) winders
    rw [same, bWinder, record]
    rfl
  rw [State.settle_quiet _ .rock (by rw [state]; rfl)] at answers
  refine answers.completes (by decide) ⟨state, frame.1.trans (bPairing.trans unpaired), frame.2.trans bRepair,
    ⟨b.now + 500#32, ?_⟩, List.getLast?_concat⟩
  rw [← drives, ← orders, ← bDrives]
  exact offer

theorem takeRePair_refused {n m : Nat} (s : State) (bad : pocketCode n = none ∨ skipCode m = none) :
    takeRePair n m s = (s, refuse .outOfRange) := by
  unfold takeRePair
  split
  · next p k pocket skip =>
    rw [pocket, skip] at bad
    rcases bad with bad | bad <;> cases bad
  · rfl

theorem pocketCode_of_le {n : Nat} (beyond : 2 ≤ n) : pocketCode n = none := by
  match n, beyond with
  | n + 2, _ => rfl

theorem State.rePair_inOrder {s : State} {h : Head} {n m : Nat} {p : Pocket} {k : Skip} (pocket : pocketCode n = some p)
    (skip : skipCode m = some k) (a : s.admits h .rePair 2 none) {taken : Prop}
    (begun : (s.winder .rock).state = .idle → (s.pipe .rock).staged = none → s.pathCheck .work (s.freePath p k) overNone = none →
      s.Answers (.rePair h n m) h .rePair (((s.heard h .rePair).beginRePair p k).settle .rock)
        (.done, .tripNumber ((s.heard h .rePair).nextTrip .rock)) → taken) :
    let path := s.path k.conveyance (s.estimateOrigin k.conveyance) [(s.work.rockPoints.get p.point).depth]
    TestsInOrder (fun r => s.Reads (.rePair h n m) h .rePair (.refused r, .nothing))
      [((s.winder .rock).state ≠ .idle, .winderState),
       ((s.pipe .rock).staged ≠ none, .stagedBusy),
       ((s.winder .rock).recovery = true, .recovery),
       (s.pairing = .paired p, .samePairing),
       (s.clutch = none ∨ s.clutch = some .moving, .clutchMoving),
       (s.standsAt k.other .tip = false, .skipState),
       (s.pathCheck .work [path] (fun _ _ => false) ≠ none, .workZone),
       (s.pathCheck .inspect [path] (fun _ _ => false) ≠ none ∧ (s.winder .rock).mode ≠ .inspection, .inspectZone)] taken := by
  intro path
  refine State.inOrder_of_request (act := fun s => ((s.beginRePair p k).settle .rock, doneWith (.tripNumber (s.nextTrip .rock))))
    rfl a ?_ (s.rePairTests_same p k) fun pass answers => ?_
  · exact (takeRePair_tested pocket skip _).trans (by rw [State.heard_rePairTable])
  · have passed := firstFailing_eq_none.mp pass
    unfold State.rePairTable at passed
    have idle : (!s.isIn .rock .idle) = false := passed (_, _) List.mem_cons_self
    have staged : (s.pipe .rock).staged.isSome = false := passed (_, .stagedBusy) (.tail _ (.head _))
    have work : (s.pathCheck .work (s.freePath p k) overNone).isSome = false := passed (_, .workZone)
      (.tail _ (.tail _ (.tail _ (.tail _ (.tail _ (.tail _ (.head _)))))))
    refine begun ?_ ?_ ?_ answers
    · rw [Bool.not_eq_false'] at idle
      exact State.isIn_iff.mp idle
    · exact Option.not_isSome_iff_eq_none.mp (Bool.eq_false_iff.mp staged)
    · exact Option.not_isSome_iff_eq_none.mp (Bool.eq_false_iff.mp work)

/-- Settles O56. -/
theorem rePairGoesByTheClutch : Obligations.RePairGoesByTheClutch := by
  refine ⟨fun s h n m a => ⟨fun bad => ?_, fun p k pocket skip => ?_⟩, fun s r repair => ?_, fun s c idle => ?_,
    fun s => ⟨State.unpair_of_unpaired, fun paired => ?_⟩, fun s k p number => ⟨rfl, fun x estimate => State.freeLeg_direction estimate p number⟩⟩
  · exact State.answers_of_request rfl a (takeRePair_refused _ (bad.imp pocketCode_of_le skipCode_of_le))
  · exact State.rePair_inOrder pocket skip a fun idle unstaged clear answers =>
      ⟨fun closed => State.rePair_closed idle unstaged closed answers,
        fun opened => State.rePair_opened idle unstaged opened clear answers⟩
  · have within := State.takeClutch_within repair
    refine ⟨fun phase on => ?_, fun phase on => ?_, fun phase c other => (within c).trans (State.clutchWithin_openingOther phase other),
      fun phase c other => (within c).trans (State.clutchWithin_closingOther phase other),
      fun phase c other => (within c).trans (State.clutchWithin_freeOther phase other), fun phase a active kind clutching => ?_,
      fun phase => ?_⟩
    · exact (within .opened).trans ((State.clutchWithin_openingOpened phase).trans (if_neg (by
        show ¬(s.winder .rock).stopPending = true
        rw [on]
        decide)))
    · exact (within .opened).trans ((State.clutchWithin_openingOpened phase).trans (if_pos on))
    · rw [within, State.clutchWithin_closingClosed phase]
      exact State.closingConfirmed_spec (s := { s with clutch := some .closed }) r active kind clutching
    · intro b
      have confirmed := (within .opened).trans (State.clutchWithin_freeOpened phase)
      refine ⟨fun busy => ?_, fun clutching unoffered => ⟨fun stop => ?_, fun o on ended => ?_⟩⟩
      · refine confirmed.trans (if_neg fun both => ?_)
        obtain ⟨clutching, unoffered⟩ := State.freeConfirmed_iff.mp both
        exact busy.elim (fun away => away clutching) (fun offered => offered unoffered)
      · refine confirmed.trans ((if_pos (State.freeConfirmed_iff.mpr ⟨clutching, unoffered⟩)).trans ?_)
        exact congrArg (b.endAndPark .rock) (if_pos stop)
      · refine confirmed.trans ((if_pos (State.freeConfirmed_iff.mpr ⟨clutching, unoffered⟩)).trans ?_)
        refine congrArg (b.endAndPark .rock) ((if_neg ?_).trans ?_)
        · show ¬(s.winder .rock).stopPending = true
          rw [on]
          decide
        · rw [ended]
          rfl
  · intro b coupled
    have outside := State.takeClutch_outside idle c
    refine ⟨fun kept => outside.trans (State.clutchOutside_kept kept), fun unclosed paired => ⟨fun both => ?_, fun single => ?_⟩,
      fun misfit => if_pos (State.misfit_iff.mpr misfit), fun fits => if_neg (mt State.misfit_iff.mp fits)⟩
    · refine outside.trans ((State.clutchOutside_changed (s := b) unclosed paired).trans ?_)
      refine congrArg (fun t : State => t.discardInspection c) ?_
      exact (if_pos (State.activeCoupled_iff.mpr both)).trans (State.unpair_clutchFault b)
    · refine outside.trans ((State.clutchOutside_changed (s := b) unclosed paired).trans ?_)
      exact congrArg (fun t : State => t.discardInspection c) (if_neg (mt State.activeCoupled_iff.mp single))
  · intro u held
    refine ⟨s.unpair_pairing, State.unpair_pairBeyond paired, s.unpair_active, s.unpair_winders, s.unpair_positions, s.unpair_sent,
      fun other => State.unpair_other paired other, fun t staged cycle => ?_⟩
    have unpaired : u = s.heldUnpaired.withdrawStaged .rock .waiting := State.unpair_cycle paired staged cycle
    have queue : s.heldUnpaired.queues.get .rock = held := rfl
    rw [unpaired]
    refine ⟨(s.heldUnpaired.withdrawStaged_slots .rock .waiting).1, fun unsourced => ?_, fun c k source work apart => ?_⟩
    · obtain ⟨queues, latest⟩ := State.withdrawStaged_unsourced (s := s.heldUnpaired) staged unsourced .waiting
      exact ⟨(congrArg (fun q => q.get .rock) queues).trans queue, latest⟩
    · rw [State.withdrawStaged_of_source (s := s.heldUnpaired) staged source]
      exact State.returnCall_heldPairing rfl work (heldQueue_merges apart)

end Sys2Proof.Machine

/-! PROOFS. The conditions of the Envelope Monitor (O57). -/

namespace Sys2Proof.Machine

/-! ## The conditions against a speed and a cap (R144 to R146) -/

theorem overAfter_clear_iff {speed cap hysteresis : Nat} : overAfter false speed cap hysteresis = true ↔ cap < speed :=
  decide_eq_true_iff

theorem overClears_iff {speed cap hysteresis : Nat} :
    overClears speed cap hysteresis = true ↔ if cap ≤ hysteresis then speed = 0 else speed ≤ cap - hysteresis := by
  unfold overClears
  split
  · exact beq_iff_eq
  · rw [decide_eq_true_iff]
    omega

theorem overAfter_set_iff {speed cap hysteresis : Nat} :
    overAfter true speed cap hysteresis = false ↔ if cap ≤ hysteresis then speed = 0 else speed ≤ cap - hysteresis := by
  rw [← overClears_iff]
  exact Iff.of_eq (Bool.not_eq_false' _)

theorem underAfter_clear_iff {speed cap hysteresis u d a : Nat} :
    underAfter false speed cap hysteresis u d a = true ↔ speed < u ∧ a < d ∧ u + hysteresis ≤ cap := by
  show (decide (speed < u) && decide (a < d) && decide (u + hysteresis ≤ cap)) = true ↔ _
  rw [Bool.and_eq_true, Bool.and_eq_true, decide_eq_true_iff, decide_eq_true_iff, decide_eq_true_iff, and_assoc]

theorem underAfter_set_iff {speed cap hysteresis u d a : Nat} :
    underAfter true speed cap hysteresis u d a = false ↔ u + hysteresis ≤ speed ∨ d ≤ a ∨ cap < u + hysteresis := by
  show (!(decide (u + hysteresis ≤ speed) || decide (d ≤ a) || decide (cap < u + hysteresis))) = false ↔ _
  rw [Bool.not_eq_false', Bool.or_eq_true, Bool.or_eq_true, decide_eq_true_iff, decide_eq_true_iff, decide_eq_true_iff, or_assoc]

/-! ## What the active leg moves, and how fast (R143) -/

theorem State.activeLeg_eq_some {s : State} {w : Winder} {l : Leg} :
    s.activeLeg w = some l ↔ ∃ t, (s.pipe w).active = some t ∧ t.legs[t.current - 1]? = some l := by
  unfold State.activeLeg
  rw [Option.bind_eq_some_iff]
  rfl

theorem State.mem_moved {s : State} {w : Winder} {c : Conveyance} :
    c ∈ s.moved w ↔
      ∃ t l, (s.pipe w).active = some t ∧ t.legs[t.current - 1]? = some l ∧ ∃ m ∈ l.motions, m.conveyance = c := by
  have leg : c ∈ s.moved w ↔ ∃ l, s.activeLeg w = some l ∧ ∃ m ∈ l.motions, m.conveyance = c := by
    unfold State.moved
    cases s.activeLeg w with
    | none => simp
    | some l => simp [Leg.conveyances]
  rw [leg]
  simp only [State.activeLeg_eq_some]
  exact ⟨fun ⟨l, ⟨t, active, current⟩, motion⟩ => ⟨t, l, active, current, motion⟩,
    fun ⟨t, l, active, current, motion⟩ => ⟨l, ⟨t, active, current⟩, motion⟩⟩

theorem State.leading_eq_some {s : State} {w : Winder} {c : Conveyance} :
    s.leading w = some c ↔ ∃ t l, (s.pipe w).active = some t ∧ t.legs[t.current - 1]? = some l ∧ l.leading = c := by
  unfold State.leading
  rw [Option.map_eq_some_iff]
  simp only [State.activeLeg_eq_some]
  exact ⟨fun ⟨l, ⟨t, active, current⟩, leads⟩ => ⟨t, l, active, current, leads⟩,
    fun ⟨t, l, active, current, leads⟩ => ⟨l, ⟨t, active, current⟩, leads⟩⟩

theorem State.activeNumber_eq_some {s : State} {w : Winder} {n : Nat} :
    s.activeNumber w = some n ↔ ∃ t, (s.pipe w).active = some t ∧ t.number = n := Option.map_eq_some_iff

/-- The largest of a list's values and a bound. -/
theorem foldl_max_value {α : Type} (f : α → Nat) (xs : List α) (n : Nat) :
    let m := xs.foldl (fun m x => max m (f x)) n
    n ≤ m ∧ (∀ x ∈ xs, f x ≤ m) ∧ (m = n ∨ ∃ x ∈ xs, m = f x) := by
  induction xs generalizing n with
  | nil => exact ⟨Nat.le_refl n, fun x mem => absurd mem List.not_mem_nil, .inl rfl⟩
  | cons y ys ih =>
    obtain ⟨bound, members, attained⟩ := ih (max n (f y))
    refine ⟨(Nat.le_max_left ..).trans bound, fun x mem => ?_, ?_⟩
    · rcases List.mem_cons.mp mem with rfl | later
      · exact (Nat.le_max_right ..).trans bound
      · exact members x later
    · rcases attained with start | ⟨x, later, value⟩
      · rcases Nat.le_total n (f y) with up | down
        · exact .inr ⟨y, List.mem_cons_self, start.trans (Nat.max_eq_right up)⟩
        · exact .inl (start.trans (Nat.max_eq_left down))
      · exact .inr ⟨x, List.mem_cons_of_mem _ later, value⟩

/-! ## When a comparison is made (R143), and the further SLOW (R113) -/

theorem State.compare_idle {s : State} {w : Winder} (idle : (s.monitor w).running = false ∨ s.inMotion w = false) :
    s.compare w = s := by
  refine if_neg fun both => ?_
  rw [Bool.and_eq_true] at both
  rcases idle with off | rest
  · exact Bool.noConfusion (off.symm.trans both.1)
  · exact Bool.noConfusion (rest.symm.trans both.2)

theorem State.compare_made {s : State} {w : Winder} (running : (s.monitor w).running = true) (motion : s.inMotion w = true) :
    s.compare w =
      ((((s.withMonitor w (fun m => { m with speed := s.winderSpeed w, cap := s.caps.get w })).compareOver w).compareCritical
        w).compareUnder w) := if_pos (Bool.and_eq_true _ _ ▸ ⟨running, motion⟩)

theorem State.followCap_further {s : State} {w : Winder} {old : Nat} (sent : (s.winder w).slowCap = some old)
    (set : (s.monitor w).overIndication = true) (below : (s.caps.get w).speed < old) :
    s.followCap w =
      (s.withWinder w (fun r => { r with slowCap := some (s.caps.get w).speed })).sendOrder w (.slow (s.caps.get w).speed) := by
  unfold State.followCap
  rw [sent]
  exact if_pos (by rw [set, Bool.true_and]; exact decide_eq_true below)

theorem State.followCap_silent {s : State} {w : Winder}
    (kept : ∀ old, (s.winder w).slowCap = some old → (s.monitor w).overIndication = false ∨ old ≤ (s.caps.get w).speed) :
    s.followCap w = s := by
  unfold State.followCap
  split
  · rfl
  · next old sent =>
    refine if_neg fun both => ?_
    rw [Bool.and_eq_true, decide_eq_true_iff] at both
    rcases kept old sent with clear | reached
    · exact Bool.noConfusion (clear.symm.trans both.1)
    · exact absurd both.2 (Nat.not_lt.mpr reached)

/-! ## OVER set and cleared (R113, R144, R147) -/

theorem State.withMonitor_withMonitor (s : State) (w : Winder) (f g : Monitor → Monitor) :
    (s.withMonitor w f).withMonitor w g = s.withMonitor w (fun m => g (f m)) := by
  cases w <;> rfl

theorem State.withMonitor_same {s : State} {w : Winder} {f : Monitor → Monitor} (same : f (s.monitor w) = s.monitor w) :
    s.withMonitor w f = s := by
  have kept : s.monitors.set w (f (s.monitor w)) = s.monitors := by
    rw [same]
    exact PerWinder.set_get s.monitors w
  exact (congrArg (fun x => ({ s with monitors := x } : State)) kept :)

theorem State.setOver_kept {s : State} {w : Winder} (kept : (s.monitor w).overIndication = true ∨ s.inMotion w = false) :
    s.setOver w = s.withMonitor w (fun m => { m with overIndication := true }) := by
  unfold State.setOver
  dsimp only
  split
  · rfl
  · next clear => exact if_neg (Bool.eq_false_iff.mp (kept.resolve_left clear))

theorem State.setOver_sent {s : State} {w : Winder} (clear : (s.monitor w).overIndication = false) (motion : s.inMotion w = true) :
    s.setOver w =
      ((s.withMonitor w (fun m => { m with overIndication := true })).withWinder w
        (fun r => { r with slowCap := some (s.caps.get w).speed })).sendOrder w (.slow (s.caps.get w).speed) :=
  (if_neg (Bool.eq_false_iff.mp clear)).trans (if_pos motion)

theorem State.clearOver_unset {s : State} {w : Winder} (unset : (s.monitor w).overIndication = false) : s.clearOver w = s := by
  refine (if_neg (Bool.eq_false_iff.mp unset)).trans (State.withMonitor_same ?_)
  show ({ s.monitor w with overIndication := false } : Monitor) = s.monitor w
  rw [← unset]

theorem State.clearOver_set {s : State} {w : Winder} (set : (s.monitor w).overIndication = true) :
    s.clearOver w = (s.withMonitor w (fun m => { m with overIndication := false })).overCleared w := if_pos set

theorem State.overCleared_moving {s : State} {w : Winder} (motion : s.inMotion w = true) :
    s.overCleared w = (s.withWinder w (fun r => { r with slowCap := none })).sendOrder w .resume := if_pos motion

theorem State.overCleared_still {s : State} {w : Winder} (rest : s.inMotion w = false) :
    s.overCleared w = s.withWinder w (fun r => { r with slowCap := none }) := if_neg (Bool.eq_false_iff.mp rest)

/-! ## The OVER comparison (R144) -/

/-- The report of an OVER condition holds nothing that the monitor's own update changes. -/
theorem State.withMonitor_overReport {s : State} {w : Winder} {f : Monitor → Monitor}
    (same : (f (s.monitor w)).cap = (s.monitor w).cap) (k : FaultKind) (v : Severity) :
    (s.withMonitor w f).overReport w k v = s.overReport w k v := by
  have term : ((s.withMonitor w f).monitor w).cap = (s.monitor w).cap := by
    rw [State.withMonitor_monitor_self]
    exact same
  unfold State.overReport
  rw [term]
  rfl

/-- A Stop or a Note, other than OVERSPEED, is recorded alike whatever a monitor holds. -/
theorem State.withMonitor_deliver {s : State} {r : FaultReport} (minor : r.severity ≠ .trip) (other : r.kind ≠ .overspeed)
    (w : Winder) (f : Monitor → Monitor) : (s.withMonitor w f).deliver r = (s.deliver r).withMonitor w f := by
  have entry : (s.withMonitor w f).entryOf r = s.entryOf r := by
    unfold State.entryOf State.entryCap
    rw [if_neg other, if_neg other]
    rfl
  rw [State.deliver_minor _ r minor, State.deliver_minor s r minor, entry, State.record_eq, State.record_eq]
  rfl

theorem State.compareOver_same {s : State} {w : Winder}
    (same : overAfter (s.monitor w).overCondition (s.monitor w).speed (s.monitor w).cap.speed (s.work.envelope.get w).hysteresis =
      (s.monitor w).overCondition) : s.compareOver w = s := by
  have kept : s.withMonitor w (fun m => { m with overCondition := (s.monitor w).overCondition }) = s :=
    State.withMonitor_same rfl
  unfold State.compareOver
  dsimp only
  rw [same, kept]
  cases (s.monitor w).overCondition <;> rfl

/-- The OVER condition raised: the Note is recorded, then OVER is set. -/
theorem State.compareOver_raised {s : State} {w : Winder} (clear : (s.monitor w).overCondition = false)
    (after : overAfter (s.monitor w).overCondition (s.monitor w).speed (s.monitor w).cap.speed
      (s.work.envelope.get w).hysteresis = true) :
    s.compareOver w =
      ((s.deliver (s.overReport w .overFault .note)).withMonitor w (fun m => { m with overCondition := true })).setOver w := by
  have delivered := State.withMonitor_deliver (s := s) (r := s.overReport w .overFault .note) nofun nofun w
    (fun m => { m with overCondition := true })
  unfold State.compareOver
  dsimp only
  rw [after, clear, ← delivered]
  exact congrArg (fun r => ((s.withMonitor w (fun m => { m with overCondition := true })).deliver r).setOver w)
    (State.withMonitor_overReport rfl _ _)

/-- The OVER condition ended: in Follow mode OVER is cleared. -/
theorem State.compareOver_follow {s : State} {w : Winder} (set : (s.monitor w).overCondition = true)
    (after : overAfter (s.monitor w).overCondition (s.monitor w).speed (s.monitor w).cap.speed
      (s.work.envelope.get w).hysteresis = false) (follow : (s.work.envelope.get w).mode = .follow) :
    s.compareOver w = (s.withMonitor w (fun m => { m with overCondition := false })).clearOver w := by
  unfold State.compareOver
  dsimp only
  rw [after, set, follow]

theorem State.compareOver_latched {s : State} {w : Winder} (set : (s.monitor w).overCondition = true)
    (after : overAfter (s.monitor w).overCondition (s.monitor w).speed (s.monitor w).cap.speed
      (s.work.envelope.get w).hysteresis = false) (latched : (s.work.envelope.get w).mode = .latched) :
    s.compareOver w = s.withMonitor w (fun m => { m with overCondition := false }) := by
  unfold State.compareOver
  dsimp only
  rw [after, set, latched]

/-! ## The CRITICAL comparison (R145) -/

theorem State.compareCritical_raised {s : State} {w : Winder}
    (holds : criticalHolds (s.monitor w).speed (s.monitor w).cap.speed (s.work.envelope.get w).margin = true)
    (fresh : (s.monitor w).critical = false) :
    s.compareCritical w =
      (s.withMonitor w (fun m => { m with critical := true })).deliver (s.overReport w .overspeed .trip) := by
  refine (if_pos (by rw [holds, fresh]; rfl)).trans ?_
  exact congrArg (s.withMonitor w (fun m => { m with critical := true })).deliver (State.withMonitor_overReport rfl _ _)

theorem State.compareCritical_kept {s : State} {w : Winder}
    (kept : criticalHolds (s.monitor w).speed (s.monitor w).cap.speed (s.work.envelope.get w).margin = false ∨
      (s.monitor w).critical = true) : s.compareCritical w = s := by
  refine if_neg fun both => ?_
  rw [Bool.and_eq_true, Bool.not_eq_true'] at both
  rcases kept with below | raised
  · exact Bool.noConfusion (below.symm.trans both.1)
  · exact Bool.noConfusion (raised.symm.trans both.2)

/-! ## The UNDER comparison (R146) -/

/-- The UNDER condition after a comparison for a leg (R146). -/
def State.underNow (s : State) (w : Winder) (l : Leg) : Bool :=
  underAfter (s.monitor w).underCondition (s.monitor w).speed (s.monitor w).cap.speed (s.work.envelope.get w).hysteresis
    ((s.work.envelope.get w).under * (s.work.classes.get l.cls).maxSpeed / 100) (s.toGo l)
    (s.work.classes.get l.cls).approachDistance

theorem State.compareUnder_away {s : State} {w : Winder} (away : (s.winder w).state ≠ .running ∨ s.activeLeg w = none) :
    s.compareUnder w = s := by
  unfold State.compareUnder
  split
  · next l on leg =>
    rcases away with other | absent
    · exact absurd (State.isIn_iff.mp on) other
    · exact absurd (leg.symm.trans absent) (Option.some_ne_none l)
  all_goals rfl

section
variable {s : State} {w : Winder} {l : Leg} (running : (s.winder w).state = .running) (leg : s.activeLeg w = some l)
include running leg

theorem State.compareUnder_same (same : s.underNow w l = (s.monitor w).underCondition) : s.compareUnder w = s := by
  unfold State.underNow at same
  unfold State.compareUnder State.classOf underSpeed
  rw [State.isIn_iff.mpr running, leg]
  dsimp only
  rw [same]
  cases (s.monitor w).underCondition <;> rfl

theorem State.compareUnder_raised (clear : (s.monitor w).underCondition = false) (after : s.underNow w l = true) :
    s.compareUnder w =
      s.withMonitor w (fun m => { m with underCondition := true, underTimer := some (ahead s.now 5000) }) := by
  unfold State.underNow at after
  unfold State.compareUnder State.classOf underSpeed
  rw [State.isIn_iff.mpr running, leg]
  dsimp only
  rw [after, clear]

theorem State.compareUnder_ended (set : (s.monitor w).underCondition = true) (after : s.underNow w l = false) :
    s.compareUnder w =
      s.withMonitor w (fun m =>
        { m with underCondition := false, underTimer := none
                 underIndication := m.underIndication && (s.work.envelope.get w).mode == .latched }) := by
  unfold State.underNow at after
  unfold State.compareUnder State.classOf underSpeed
  rw [State.isIn_iff.mpr running, leg]
  dsimp only
  rw [after, set]

end

/-- Settles O57. -/
theorem envelopeConditions : Obligations.EnvelopeConditions := by
  refine ⟨fun speed cap hysteresis => ⟨overAfter_clear_iff, overAfter_set_iff, fun margin => decide_eq_true_iff,
    fun u d a => ⟨underAfter_clear_iff, underAfter_set_iff⟩⟩, fun s w => ?_, fun s w => ?_, fun s w => ?_⟩
  · intro kept
    obtain ⟨-, members, attained⟩ := foldl_max_value (fun c => (s.position c).speed.natAbs) (s.moved w) 0
    exact ⟨State.compare_idle, State.compare_made, fun c => State.mem_moved, fun x => State.leading_eq_some,
      fun x => State.activeNumber_eq_some, members, attained, rfl, fun old => State.followCap_further, State.followCap_silent⟩
  · intro m e after zone report cap raised setOver endOver
    have zones : zone = m.cap.term.bind CapTerm.zone := by
      change (match m.cap.term with
        | some (.slow n) | some (.passing n) => some n
        | _ => none) = _
      cases m.cap.term with
      | none => rfl
      | some t => cases t <;> rfl
    have reports (k : FaultKind) (v : Severity) : report k v = s.overReport w k v :=
      (congrArg (fun z => (⟨k, v, w, s.leading w, s.activeNumber w, z, none⟩ : FaultReport)) zones :)
    have delivered : raised = s.deliver (s.overReport w .overFault .note) := congrArg s.deliver (reports _ _)
    have frame := s.deliver_minor_eq (s.overReport w .overFault .note) nofun
    rw [← delivered] at frame
    have monitors : raised.monitors = s.monitors := by rw [frame]
    have winders : raised.winders = s.winders := by rw [frame]
    have caps : raised.caps = s.caps := by rw [frame]
    have begun (clear : m.overCondition = false) (on : after = true) :
        s.compareOver w = (raised.withMonitor w (fun m => { m with overCondition := true })).setOver w := by
      rw [delivered]
      exact State.compareOver_raised clear on
    clear_value raised
    obtain ⟨v, hv⟩ : ∃ v, v = raised.withMonitor w (fun m => { m with overCondition := true }) := ⟨_, rfl⟩
    have indication : (v.monitor w).overIndication = m.overIndication := by
      rw [hv, State.withMonitor_monitor_self]
      exact congrArg (fun p => (p.get w).overIndication) monitors
    have motions : v.inMotion w = s.inMotion w := by
      rw [hv]
      exact State.inMotion_congr (congrArg (fun p => (p.get w).state) winders)
    have ended (clear : m.overCondition = true) (off : after = false) (follow : e.mode = .follow) (indicated : m.overIndication = true) :
        s.compareOver w = (endOver s false).overCleared w := by
      rw [State.compareOver_follow clear off follow, State.clearOver_set]
      · rw [State.withMonitor_withMonitor]
        rfl
      · rw [State.withMonitor_monitor_self]
        exact indicated
    refine ⟨State.compareOver_same, fun clear on => ⟨fun quiet => ?_, fun unset motion => ?_⟩,
      fun set off => ⟨fun quiet => ?_, fun follow indicated => ⟨fun motion => ?_, fun rest => ?_⟩⟩, fun holds fresh => ?_,
      State.compareCritical_kept⟩
    · rw [begun clear on, ← hv, State.setOver_kept (by rw [indication, motions]; exact quiet), hv, State.withMonitor_withMonitor]
      exact (congrArg (fun p => ({ raised with monitors := p.set w { p.get w with overCondition := true, overIndication := true } } :
        State)) monitors :)
    · rw [begun clear on, ← hv, State.setOver_sent (indication.trans unset) (motions.trans motion), hv, State.withMonitor_withMonitor]
      exact (congr (congr (congrArg (fun p q c => ({ raised with
          monitors := p.set w { p.get w with overCondition := true, overIndication := true }
          winders := q.set w { q.get w with slowCap := some (c.get w).speed } } :
        State).sendOrder w (.slow (c.get w).speed)) monitors) winders) caps :)
    · cases mode : e.mode with
      | latched => exact State.compareOver_latched set off mode
      | follow =>
        have unset : m.overIndication = false := quiet.resolve_left (by rw [mode]; exact IndicationMode.noConfusion)
        rw [State.compareOver_follow set off mode, State.clearOver_unset]
        · rfl
        · rw [State.withMonitor_monitor_self]
          exact unset
    · exact (ended set off follow indicated).trans (State.overCleared_moving motion)
    · exact (ended set off follow indicated).trans (State.overCleared_still rest)
    · rw [reports]
      exact State.compareCritical_raised holds fresh
  · intro m e
    refine ⟨State.compareUnder_away, fun l running leg => ?_⟩
    intro c after
    exact ⟨State.compareUnder_same running leg, State.compareUnder_raised running leg, State.compareUnder_ended running leg⟩

end Sys2Proof.Machine

/-! PROOFS. The requests to the Envelope Monitor (O58). -/

namespace Sys2Proof.Machine

/-! ## The settings read (R149) -/

/-- Settings of the envelope that are out of range (R149). -/
def EnvelopeOutOfRange (hysteresis mode under margin : Nat) : Prop :=
  (hysteresis ≠ 0 ∧ hysteresis ≠ 100 ∧ hysteresis ≠ 250 ∧ hysteresis ≠ 500) ∨ 2 ≤ mode ∨ under < 10 ∨ 50 < under ∨ margin < 5 ∨
    15 < margin

theorem indicationModeCode_eq_none {n : Nat} : indicationModeCode n = none ↔ 2 ≤ n := by
  match n with
  | 0 => exact ⟨nofun, fun h => absurd h (by decide)⟩
  | 1 => exact ⟨nofun, fun h => absurd h (by decide)⟩
  | n + 2 => exact ⟨fun _ => Nat.le_add_left .., fun _ => rfl⟩

theorem envelopeInRange_iff {hysteresis mode under margin : Nat} (known : ¬2 ≤ mode) :
    ([0, 100, 250, 500].contains hysteresis && between 10 50 under && between 5 15 margin) = true ↔
      ¬EnvelopeOutOfRange hysteresis mode under margin := by
  unfold EnvelopeOutOfRange between
  rw [Bool.and_eq_true, Bool.and_eq_true, List.contains_iff_mem, decide_eq_true_iff, decide_eq_true_iff]
  simp only [List.mem_cons, List.not_mem_nil, or_false]
  omega

theorem readEnvelope_outOfRange {hysteresis mode under margin : Nat} (bad : EnvelopeOutOfRange hysteresis mode under margin) :
    readEnvelope hysteresis mode under margin = none := by
  unfold readEnvelope
  by_cases unknown : 2 ≤ mode
  · rw [indicationModeCode_eq_none.mpr unknown]
    rfl
  · refine Option.bind_eq_none_iff.mpr fun m _ => if_neg fun inRange => ?_
    exact (envelopeInRange_iff unknown).mp inRange bad

theorem readEnvelope_of_inRange {hysteresis mode under margin : Nat} (good : ¬EnvelopeOutOfRange hysteresis mode under margin) :
    ∃ k, indicationModeCode mode = some k ∧ readEnvelope hysteresis mode under margin = some ⟨hysteresis, k, under, margin⟩ := by
  have known : ¬2 ≤ mode := fun unknown => good (.inr (.inl unknown))
  obtain ⟨k, code⟩ := Option.ne_none_iff_exists'.mp (mt indicationModeCode_eq_none.mp known)
  refine ⟨k, code, ?_⟩
  unfold readEnvelope
  rw [code]
  exact if_pos ((envelopeInRange_iff known).mpr good)

theorem EnvelopeSettings.ne_iff {e old : EnvelopeSettings} :
    (e != old) = true ↔
      e.hysteresis ≠ old.hysteresis ∨ e.mode ≠ old.mode ∨ e.under ≠ old.under ∨ e.margin ≠ old.margin := by
  obtain ⟨a, b, c, d⟩ := e
  obtain ⟨a', b', c', d'⟩ := old
  rw [bne_iff_ne, ne_eq, EnvelopeSettings.mk.injEq]
  simp only [not_and_or]

/-! ## What the indications leave (R113, R148, R149, R151) -/

/-- Whether CLEAR INDICATIONS ends the OVER indication. -/
def State.OverEnds (s : State) (w : Winder) : Prop := (s.monitor w).overIndication = true ∧ (s.monitor w).overCondition = false

/-- The winder's slow cap sent is forgotten exactly where OVER ends (R113). -/
def State.SlowForgotten (s : State) (w : Winder) (ends : Prop) (winders : PerWinder WinderRecord) : Prop :=
  (ends → winders = s.winders.set w { s.winder w with slowCap := none }) ∧ (¬ends → winders = s.winders)

theorem State.overEnds_congr {s u : State} {w : Winder} (monitors : u.monitors = s.monitors) : u.OverEnds w = s.OverEnds w := by
  unfold State.OverEnds State.monitor
  rw [monitors]

theorem State.SlowForgotten.of_winders {s u : State} {w : Winder} {ends : Prop} {winders : PerWinder WinderRecord}
    (slowed : u.SlowForgotten w ends winders) (same : u.winders = s.winders) : s.SlowForgotten w ends winders := by
  unfold State.SlowForgotten State.winder at slowed
  rw [same] at slowed
  exact slowed

/-- The monitor with each indication whose condition is clear cleared (R148). -/
def Monitor.checked (m : Monitor) : Monitor :=
  { m with overIndication := m.overIndication && m.overCondition, underIndication := m.underIndication && m.underCondition }

/-- The state in which the indications have been cleared and the winders are these. -/
def State.indicationsChecked (s : State) (w : Winder) (winders : PerWinder WinderRecord) : State :=
  { s with monitors := s.monitors.set w (s.monitor w).checked, winders := winders }

theorem State.overEnds_iff {s : State} {w : Winder} :
    ((s.monitor w).overIndication && !(s.monitor w).overCondition) = true ↔ s.OverEnds w := by
  rw [Bool.and_eq_true, Bool.not_eq_true']
  rfl

theorem State.clearIndications_spec (s : State) (w : Winder) :
    ∃ winders, s.SlowForgotten w (s.OverEnds w) winders ∧
      (s.OverEnds w → s.inMotion w = true → s.clearIndications w = (s.indicationsChecked w winders).sendOrder w .resume) ∧
      (¬s.OverEnds w ∨ s.inMotion w = false → s.clearIndications w = s.indicationsChecked w winders) := by
  have whole := s.clearIndications_eq w
  dsimp only at whole
  by_cases ends : s.OverEnds w
  · refine ⟨s.winders.set w { s.winder w with slowCap := none }, ⟨fun _ => rfl, fun stays => absurd ends stays⟩, fun _ motion => ?_,
      fun rest => ?_⟩
    · exact whole.trans ((if_pos (State.overEnds_iff.mpr ends)).trans (if_pos motion))
    · exact whole.trans ((if_pos (State.overEnds_iff.mpr ends)).trans
        (if_neg (Bool.eq_false_iff.mp (rest.resolve_left fun stays => stays ends))))
  · exact ⟨s.winders, ⟨fun on => absurd on ends, fun _ => rfl⟩, fun on => absurd on ends,
      fun _ => whole.trans (if_neg (mt State.overEnds_iff.mp ends))⟩

/-- A running monitor stopped while its winder is not in motion (R151). -/
theorem State.stopMonitor_spec {s : State} {w : Winder} (rest : s.inMotion w = false) :
    ∃ winders, s.SlowForgotten w ((s.monitor w).overIndication = true) winders ∧
      (s.withMonitor w Monitor.stop).clearOver w =
        { s with monitors := s.monitors.set w { (s.monitor w).stop with overIndication := false }, winders := winders } := by
  have indication : ((s.withMonitor w Monitor.stop).monitor w).overIndication = (s.monitor w).overIndication := by
    rw [State.withMonitor_monitor_self]
    rfl
  by_cases set : (s.monitor w).overIndication = true
  · refine ⟨s.winders.set w { s.winder w with slowCap := none }, ⟨fun _ => rfl, fun unset => absurd set unset⟩, ?_⟩
    rw [State.clearOver_set (indication.trans set), State.withMonitor_withMonitor]
    exact State.overCleared_still rest
  · have unset : (s.monitor w).overIndication = false := Bool.eq_false_iff.mpr set
    refine ⟨s.winders, ⟨fun on => absurd on set, fun _ => rfl⟩, ?_⟩
    rw [State.clearOver_unset (indication.trans unset)]
    have same : (s.monitor w).stop = { (s.monitor w).stop with overIndication := false } := by
      rw [← unset]
      rfl
    exact (congrArg (fun m => ({ s with monitors := s.monitors.set w m } : State)) same :)

theorem State.heard_withMonitor (s : State) (h : Head) (k : Kind) (w : Winder) (f : Monitor → Monitor) :
    (s.heard h k).withMonitor w f = { s.heard h k with monitors := s.monitors.set w (f (s.monitor w)) } :=
  (congrArg (fun p => ({ s.heard h k with monitors := p.set w (f (p.get w)) } : State)) (s.heard_monitors h k) :)

/-! ## WRITE ENVELOPE (R149) -/

theorem takeWriteEnvelope_tested {hysteresis mode under margin : Nat} {e : EnvelopeSettings}
    (read : readEnvelope hysteresis mode under margin = some e) (w : Winder) (s : State) :
    takeWriteEnvelope hysteresis mode under margin w s = s.tested (s.envelopeTests w e) (fun s => (s.writeEnvelope w e, done)) := by
  unfold takeWriteEnvelope
  rw [read]

theorem State.heard_envelopeTests (s : State) (h : Head) (k : Kind) (w : Winder) (e : EnvelopeSettings) :
    (s.heard h k).envelopeTests w e = s.envelopeTests w e := by
  rw [State.heard_eq]
  rfl

theorem State.envelopeTests_same (s : State) (w : Winder) (hysteresis mode under margin : Nat) {k : IndicationMode}
    (code : indicationModeCode mode = some k) :
    let m := s.monitor w
    let old := s.work.envelope.get w
    List.Forall₂ SameTest
      [((s.winder w).state ≠ .parked, .notParked),
       ((m.envelopeLock = true ∧ (hysteresis ≠ old.hysteresis ∨ indicationModeCode mode ≠ some old.mode ∨
            under ≠ old.under ∨ margin ≠ old.margin)) ∨ (m.tripLock = true ∧ margin ≠ old.margin), .locked),
       (m.running = true ∧ (hysteresis ≠ old.hysteresis ∨ under ≠ old.under), .monitorRunning)]
      (s.envelopeTests w ⟨hysteresis, k, under, margin⟩) := by
  intro m old
  refine .cons ⟨not_isIn_iff.symm, rfl⟩ (.cons ⟨?_, rfl⟩ (.cons ⟨?_, rfl⟩ .nil))
  · rw [Bool.or_eq_true, Bool.and_eq_true, Bool.and_eq_true, EnvelopeSettings.ne_iff, bne_iff_ne, code, Ne, Ne, Option.some.injEq]
  · rw [Bool.and_eq_true, Bool.or_eq_true, bne_iff_ne, bne_iff_ne]

theorem State.writeEnvelope_kept {s : State} {w : Winder} {e : EnvelopeSettings}
    (kept : (s.work.envelope.get w).mode = .follow ∨ e.mode = .latched) :
    s.writeEnvelope w e = s.withWork (fun c => { c with envelope := c.envelope.set w e }) := by
  unfold State.writeEnvelope
  dsimp only
  split
  · next latched follow =>
    rcases kept with old | new
    · rw [latched] at old
      cases old
    · rw [follow] at new
      cases new
  all_goals rfl

theorem State.writeEnvelope_follow {s : State} {w : Winder} {e : EnvelopeSettings}
    (latched : (s.work.envelope.get w).mode = .latched) (follow : e.mode = .follow) :
    s.writeEnvelope w e = (s.withWork (fun c => { c with envelope := c.envelope.set w e })).clearIndications w := by
  unfold State.writeEnvelope
  dsimp only
  rw [latched, follow]

theorem State.inMotion_of_parked {s : State} {w : Winder} (parked : (s.winder w).state = .parked) : s.inMotion w = false := by
  unfold State.inMotion
  rw [parked]
  rfl

theorem State.heard_inMotion (s : State) (h : Head) (k : Kind) (w : Winder) : (s.heard h k).inMotion w = s.inMotion w :=
  State.inMotion_congr (congrArg WinderRecord.state (s.heard_winder ..))

/-- The envelope settings of a winder written, and nothing else. -/
def State.envelopeWritten (s : State) (w : Winder) (e : EnvelopeSettings) : State :=
  { s with work := { s.work with envelope := s.work.envelope.set w e } }

theorem State.heard_envelopeWritten (s : State) (h : Head) (k : Kind) (w : Winder) (e : EnvelopeSettings) :
    (s.heard h k).envelopeWritten w e =
      { s.heard h k with work := { s.work with envelope := s.work.envelope.set w e } } :=
  (congrArg (fun c : Settings => ({ s.heard h k with work := { c with envelope := c.envelope.set w e } } : State)) (s.heard_work h k) :)

theorem State.heard_indicationsChecked (s : State) (h : Head) (k : Kind) (w : Winder) (e : EnvelopeSettings)
    (winders : PerWinder WinderRecord) :
    ((s.heard h k).envelopeWritten w e).indicationsChecked w winders =
      { s.heard h k with work := { s.work with envelope := s.work.envelope.set w e }
                         monitors := s.monitors.set w (s.monitor w).checked
                         winders := winders } := by
  rw [State.heard_envelopeWritten]
  exact (congrArg (fun p => ({ s.heard h k with work := { s.work with envelope := s.work.envelope.set w e }
                                                monitors := p.set w (p.get w).checked
                                                winders := winders } : State)) (s.heard_monitors h k) :)

theorem State.writeEnvelope_inOrder {s : State} {h : Head} {n : Nat} {w : Winder} (hw : winderCode n = some w)
    (hysteresis mode under margin : Nat) (a : s.admits h .writeEnvelope 6 (some n)) :
    let m := s.monitor w
    let old := s.work.envelope.get w
    let cmd := Instr.writeEnvelope h n hysteresis mode under margin
    TestsInOrder (fun r => s.Reads cmd h .writeEnvelope (.refused r, .nothing))
      [(EnvelopeOutOfRange hysteresis mode under margin, .outOfRange),
       ((s.winder w).state ≠ .parked, .notParked),
       ((m.envelopeLock = true ∧ (hysteresis ≠ old.hysteresis ∨ indicationModeCode mode ≠ some old.mode ∨
            under ≠ old.under ∨ margin ≠ old.margin)) ∨ (m.tripLock = true ∧ margin ≠ old.margin), .locked),
       (m.running = true ∧ (hysteresis ≠ old.hysteresis ∨ under ≠ old.under), .monitorRunning)]
      (∀ k, indicationModeCode mode = some k →
        let e : EnvelopeSettings := ⟨hysteresis, k, under, margin⟩
        (old.mode = .follow ∨ k = .latched →
          s.Answers cmd h .writeEnvelope
            { s.heard h .writeEnvelope with work := { s.work with envelope := s.work.envelope.set w e } } (.done, .nothing)) ∧
        (old.mode = .latched → k = .follow → ∃ winders, s.SlowForgotten w (s.OverEnds w) winders ∧
          s.Answers cmd h .writeEnvelope
            { s.heard h .writeEnvelope with
              work := { s.work with envelope := s.work.envelope.set w e }
              monitors := s.monitors.set w (s.monitor w).checked
              winders := winders } (.done, .nothing))) := by
  intro m old cmd
  refine ⟨fun bad => ?_, fun good => ?_⟩
  · refine State.answers_of_winderRequest hw rfl a ?_
    unfold takeWriteEnvelope
    rw [readEnvelope_outOfRange bad]
    rfl
  · obtain ⟨k, code, read⟩ := readEnvelope_of_inRange good
    refine State.inOrder_of_winderRequest (act := fun s => (s.writeEnvelope w ⟨hysteresis, k, under, margin⟩, done)) hw rfl a
      ((takeWriteEnvelope_tested read w _).trans (by rw [State.heard_envelopeTests]))
      (s.envelopeTests_same w hysteresis mode under margin code) fun pass answers x coded => ?_
    obtain rfl : k = x := Option.some.inj (code.symm.trans coded)
    intro e
    have parked : (s.winder w).state = .parked :=
      by
      have test : (!s.isIn w .parked) = false := firstFailing_eq_none.mp pass (_, .notParked) (.head _)
      rw [Bool.not_eq_false'] at test
      exact State.isIn_iff.mp test
    have settings : (s.heard h .writeEnvelope).work.envelope.get w = old :=
      congrArg (fun c => c.envelope.get w) (s.heard_work h .writeEnvelope)
    refine ⟨fun kept => ?_, fun latched follow => ?_⟩
    · rw [State.writeEnvelope_kept (by rw [settings]; exact kept)] at answers
      rw [← State.heard_envelopeWritten]
      exact answers
    · obtain ⟨u, hu⟩ : ∃ u, u = (s.heard h .writeEnvelope).envelopeWritten w e := ⟨_, rfl⟩
      have same : u.monitors = s.monitors ∧ u.winders = s.winders := by
        rw [hu]
        exact ⟨s.heard_monitors h .writeEnvelope, s.heard_winders h .writeEnvelope⟩
      have rest : u.inMotion w = false := by
        refine State.inMotion_of_parked ?_
        unfold State.winder
        rw [same.2]
        exact parked
      obtain ⟨winders, slowed, -, whole⟩ := u.clearIndications_spec w
      rw [State.overEnds_congr same.1] at slowed whole
      refine ⟨winders, slowed.of_winders same.2, ?_⟩
      rw [State.writeEnvelope_follow (by rw [settings]; exact latched) follow,
        show (s.heard h .writeEnvelope).withWork (fun c => { c with envelope := c.envelope.set w e }) = u from hu.symm,
        whole (.inr rest)] at answers
      rw [← State.heard_indicationsChecked, ← hu]
      exact answers

/-! ## The locks, the monitor and CLEAR INDICATIONS (R148, R150, R151) -/

theorem State.setTripLock_inOrder {s : State} {h : Head} {n : Nat} {w : Winder} (hw : winderCode n = some w)
    (a : s.admits h .setTripLock 1 (some n)) :
    TestsInOrder (fun r => s.Reads (.setTripLock h n) h .setTripLock (.refused r, .nothing))
      [((s.monitor w).running = false, .monitorStopped)]
      (s.Answers (.setTripLock h n) h .setTripLock
        ((s.heard h .setTripLock).withMonitor w (fun m => { m with tripLock := true })) (.done, .nothing)) := by
  refine State.inOrder_of_winderRequest (block := takeSetTripLock)
    (act := fun s => (s.withMonitor w (fun m => { m with tripLock := true }), done))
    (table := [(!(s.monitor w).running, .monitorStopped)]) hw rfl a ?_ (.cons ⟨not_true_iff.symm, rfl⟩ .nil) (fun _ answers => answers)
  unfold takeSetTripLock
  rw [State.heard_monitor]

theorem State.stopMonitor_inOrder {s : State} {h : Head} {n : Nat} {w : Winder} (hw : winderCode n = some w)
    (a : s.admits h .stopMonitor 1 (some n)) :
    TestsInOrder (fun r => s.Reads (.stopMonitor h n) h .stopMonitor (.refused r, .nothing))
      [((s.winder w).state ≠ .parked, .notParked), ((s.monitor w).tripLock = true, .locked)]
      (s.Answers (.stopMonitor h n) h .stopMonitor
        (if (s.monitor w).running = true then ((s.heard h .stopMonitor).withMonitor w Monitor.stop).clearOver w
          else s.heard h .stopMonitor) (.done, .nothing)) := by
  refine State.inOrder_of_winderRequest (block := takeStopMonitor)
    (act := fun s => (if (s.monitor w).running then (s.withMonitor w Monitor.stop).clearOver w else s, done))
    (table := [(!s.isIn w .parked, .notParked), ((s.monitor w).tripLock, .locked)]) hw rfl a ?_
    (.cons ⟨not_isIn_iff.symm, rfl⟩ (.cons ⟨Iff.rfl, rfl⟩ .nil)) (fun _ answers => ?_)
  · unfold takeStopMonitor
    rw [State.heard_monitor, State.heard_isIn]
  · dsimp only at answers
    rw [State.heard_monitor] at answers
    exact answers

theorem State.stopMonitor_running {s : State} {h : Head} {w : Winder} (parked : (s.winder w).state = .parked) :
    ∃ winders, s.SlowForgotten w ((s.monitor w).overIndication = true) winders ∧
      ((s.heard h .stopMonitor).withMonitor w Monitor.stop).clearOver w =
        { s.heard h .stopMonitor with
          monitors := s.monitors.set w { (s.monitor w).stop with overIndication := false }, winders := winders } := by
  have spec := (s.heard h .stopMonitor).stopMonitor_spec ((s.heard_inMotion ..).trans (State.inMotion_of_parked parked))
  rw [State.heard_monitor, State.heard_monitors] at spec
  obtain ⟨winders, slowed, whole⟩ := spec
  exact ⟨winders, slowed.of_winders (s.heard_winders ..), whole⟩

theorem State.clearIndications_request {s : State} {h : Head} {n : Nat} {w : Winder} (hw : winderCode n = some w)
    (a : s.admits h .clearIndications 1 (some n)) :
    ∃ winders, s.SlowForgotten w (s.OverEnds w) winders ∧
      let cleared : State :=
        { s.heard h .clearIndications with monitors := s.monitors.set w (s.monitor w).checked, winders := winders }
      let answer : Code × Answer :=
        (.done, .indications (s.monitor w).checked.overIndication (s.monitor w).checked.underIndication)
      (s.OverEnds w → s.inMotion w = true →
        s.Answers (.clearIndications h n) h .clearIndications (cleared.sendOrder w .resume) answer) ∧
      (¬s.OverEnds w ∨ s.inMotion w = false → s.Answers (.clearIndications h n) h .clearIndications cleared answer) := by
  obtain ⟨winders, slowed, moving, still⟩ := (s.heard h .clearIndications).clearIndications_spec w
  have kept : (s.heard h .clearIndications).indicationsChecked w winders =
      { s.heard h .clearIndications with monitors := s.monitors.set w (s.monitor w).checked, winders := winders } := by
    unfold State.indicationsChecked
    rw [State.heard_monitor, State.heard_monitors]
  have ends := State.overEnds_congr (w := w) (s.heard_monitors h .clearIndications)
  rw [ends, kept, s.heard_inMotion] at moving still
  rw [ends] at slowed
  refine ⟨winders, slowed.of_winders (s.heard_winders ..), ?_⟩
  intro cleared answer
  have monitor : cleared.monitor w = (s.monitor w).checked := PerWinder.get_set_self ..
  have replied (t : State) (same : t.monitors = cleared.monitors)
      (whole : (s.heard h .clearIndications).clearIndications w = t) :
      s.Answers (.clearIndications h n) h .clearIndications t answer := by
    refine State.answers_of_winderRequest hw rfl a ?_
    have record : t.monitor w = (s.monitor w).checked := (congrArg (fun p => p.get w) same).trans monitor
    unfold takeClearIndications
    dsimp only
    rw [whole, record]
    rfl
  exact ⟨fun on motion => replied _ rfl (moving on motion), fun rest => replied _ rfl (still rest)⟩

/-- Settles O58. -/
theorem envelopeRequestsAreTaken : Obligations.EnvelopeRequestsAreTaken := by
  intro s h n w hw m old checked overEnds slowed
  refine ⟨fun hysteresis mode under margin a => ?_, fun a => ?_, fun a => ?_, fun a => ?_, fun a => ?_,
    State.clearIndications_request hw⟩
  · exact State.writeEnvelope_inOrder hw hysteresis mode under margin a
  · refine State.answers_of_winderRequest hw rfl a ?_
    dsimp only
    rw [State.heard_withMonitor]
    rfl
  · obtain ⟨stopped, taken⟩ := State.setTripLock_inOrder hw a
    refine ⟨stopped, fun running => ?_⟩
    have answers := taken (fun off => Bool.noConfusion (off.symm.trans running))
    rw [State.heard_withMonitor] at answers
    exact answers
  · obtain ⟨moved, tests⟩ := State.stopMonitor_inOrder hw a
    refine ⟨moved, fun parked => (tests (not_not.mpr parked)).1, fun parked unlocked off => ?_, fun parked unlocked on => ?_⟩
    · have answers := (tests (not_not.mpr parked)).2 (Bool.not_eq_true _ ▸ unlocked)
      rw [if_neg (Bool.eq_false_iff.mp off)] at answers
      exact answers
    · obtain ⟨winders, slowed, whole⟩ := State.stopMonitor_running (h := h) parked
      have answers := (tests (not_not.mpr parked)).2 (Bool.not_eq_true _ ▸ unlocked)
      rw [if_pos on, whole] at answers
      exact ⟨winders, slowed, answers⟩
  · refine State.answers_of_winderRequest hw rfl a ?_
    unfold takeStartMonitor
    rw [State.heard_withMonitor]
    rfl

end Sys2Proof.Machine

/-! PROOFS. The faults, the counters, the commit and the two writes (O59). -/

namespace Sys2Proof.Machine

/-! ## STORE INVALID (R153 to R155) -/

theorem primaryAfter_note (primary : Option FaultEntry) {e : FaultEntry} (minor : e.severity ≠ .trip) :
    primaryAfter primary e = primary := by
  cases primary with
  | some p => rfl
  | none => exact if_neg minor

/-- STORE INVALID is only recorded: in the list while it has room, and then in the overflow count (R155). -/
theorem State.deliverStoreInvalid_eq (s : State) :
    s.deliverStoreInvalid =
      { s with
        faults := if s.faults.length < 16 then s.faults ++ [s.storeInvalidEntry] else s.faults
        overflow := if s.faults.length < 16 then s.overflow else min 255 (s.overflow + 1) } := by
  unfold State.deliverStoreInvalid
  rw [State.record_eq, primaryAfter_note s.primary (show s.storeInvalidEntry.severity ≠ .trip from nofun)]

/-- What a write whose check fails leaves of the faults of the state that it is delivered in. -/
theorem State.deliverStoreInvalid_spec (s : State) :
    s.deliverStoreInvalid =
        { s with primary := s.primary, faults := s.deliverStoreInvalid.faults, overflow := s.deliverStoreInvalid.overflow } ∧
      (s.faults.length < 16 → s.deliverStoreInvalid.faults =
        s.faults ++ [⟨.storeInvalid, .note, none, none, none, 0, 0, none, none, none, s.now, none⟩]) := by
  rw [State.deliverStoreInvalid_eq]
  exact ⟨rfl, fun room => if_pos room⟩

/-! ## CLEAR FAULTS and COMMIT (R160, R176) -/

theorem State.stoppedBySafety_iff {s : State} :
    (s.stoppedBySafety .service || s.stoppedBySafety .rock) = true ↔
      ¬(((s.winder .service).state ≠ .tripped ∧ (s.winder .service).state ≠ .lockout) ∧
        ((s.winder .rock).state ≠ .tripped ∧ (s.winder .rock).state ≠ .lockout)) := by
  unfold State.stoppedBySafety
  rw [Bool.or_eq_true, WinderState.demandsBrake_iff, WinderState.demandsBrake_iff]
  simp only [not_and_or, not_not]

theorem State.clearFaults_inOrder {s : State} {h : Head} (a : s.admits h .clearFaults 0 none) :
    TestsInOrder (fun r => s.Reads (.clearFaults h) h .clearFaults (.refused r, .nothing))
      [(¬(((s.winder .service).state ≠ .tripped ∧ (s.winder .service).state ≠ .lockout) ∧
        ((s.winder .rock).state ≠ .tripped ∧ (s.winder .rock).state ≠ .lockout)), .winderState)]
      (s.Answers (.clearFaults h) h .clearFaults
        { s.heard h .clearFaults with primary := none, faults := [], overflow := 0 } (.done, .nothing)) := by
  refine State.inOrder_of_request (block := takeClearFaults)
    (act := fun s => ({ s with primary := none, faults := [], overflow := 0 }, done))
    (table := [(s.stoppedBySafety .service || s.stoppedBySafety .rock, .winderState)]) rfl a ?_
    (.cons ⟨State.stoppedBySafety_iff.symm, rfl⟩ .nil) (fun _ answers => answers)
  unfold takeClearFaults State.stoppedBySafety
  rw [State.heard_winder, State.heard_winder]

theorem stationInService_iff {stations : Vector Station 16} :
    (stations.toList.drop 1).any (·.inService) = true ↔ ∃ st : Fin 16, 1 ≤ st.val ∧ stations[st].inService = true := by
  rw [List.any_eq_true]
  constructor
  · rintro ⟨x, mem, inService⟩
    obtain ⟨i, bound, rfl⟩ := List.mem_drop_iff_getElem.mp mem
    have inside : 1 + i < 16 := by
      have length := stations.length_toList
      omega
    exact ⟨⟨1 + i, inside⟩, Nat.le_add_right .., inService⟩
  · rintro ⟨st, later, inService⟩
    refine ⟨stations[st], List.mem_drop_iff_getElem.mpr ⟨st.val - 1, ?_, ?_⟩, inService⟩
    · have length := stations.length_toList
      omega
    · have place : 1 + (st.val - 1) = st.val := by omega
      simp only [place]
      rfl

theorem State.configurable_iff {s : State} :
    s.configurable = true ↔
      (∃ st : Fin 16, 1 ≤ st.val ∧ s.work.stations[st].inService = true) ∧ ∃ n z, (n, z) ∈ s.zones ∧ z.kind = .overwind := by
  unfold State.configurable
  rw [Bool.and_eq_true, stationInService_iff, List.any_eq_true]
  refine and_congr_right fun _ => ⟨fun ⟨e, mem, kind⟩ => ⟨e.1, e.2, mem, beq_iff_eq.mp kind⟩, fun ⟨n, z, mem, kind⟩ =>
    ⟨(n, z), mem, beq_iff_eq.mpr kind⟩⟩

theorem State.heard_configurable (s : State) (h : Head) (k : Kind) : (s.heard h k).configurable = s.configurable := by
  unfold State.configurable
  rw [State.heard_work, State.heard_zones]

theorem State.heard_startCommit (s : State) (h : Head) (k : Kind) :
    (s.heard h k).startCommit =
      { s.heard h k with
        commit := some ⟨⟨s.work, s.corrections, s.zones.filter (fun e => e.2.kind != .work), s.pairing, s.generation + 1, true⟩,
          s.now + 2000#32⟩ } := by
  rw [State.heard_eq]
  rfl

theorem State.commit_inOrder {s : State} {h : Head} (a : s.admits h .commit 0 none) :
    TestsInOrder (fun r => s.Reads (.commit h) h .commit (.refused r, .nothing))
      [(s.bothParked = false, .notParked), (s.unconfigured = true ∧ s.configurable = false, .unconfigured)]
      (s.Answers (.commit h) h .commit (s.heard h .commit).startCommit (.done, .nothing)) := by
  refine State.inOrder_of_request (block := takeCommit) (act := fun s => (s.startCommit, done))
    (table := [(!s.bothParked, .notParked), (s.unconfigured && !s.configurable, .unconfigured)]) rfl a ?_
    (.cons ⟨not_true_iff.symm, rfl⟩ (.cons ⟨?_, rfl⟩ .nil)) (fun _ answers => answers)
  · unfold takeCommit State.bothParked
    rw [State.heard_configurable, State.heard_unconfigured, State.heard_isIn, State.heard_isIn]
  · rw [Bool.and_eq_true, Bool.not_eq_true']

/-! ## The ends of the writes (R177, R178) -/

theorem State.commitWriteEnd_of {s : State} {c : CommitWrite} (write : s.commit = some c) (holds : Bool) :
    exec (.commitWriteEnd holds) s = .next (if holds then s.begin.commitHeld c.copy else s.begin.commitFailed c.copy) := by
  have ended : exec (.commitWriteEnd holds) s = .next (s.begin.endCommit holds) := rfl
  rw [ended]
  unfold State.endCommit
  rw [show s.begin.commit = some c from write]

theorem State.recordWriteEnd_of {s : State} {r : RecordWrite} (write : s.recordWrite = some r) (holds : Bool) :
    exec (.shaftWorkRecordWriteEnd holds) s = .next (if holds then s.begin.recordHeld r.copy else s.begin.recordFailed r.copy) := by
  have ended : exec (.shaftWorkRecordWriteEnd holds) s = .next (s.begin.endRecordWrite holds) := rfl
  rw [ended]
  unfold State.endRecordWrite
  rw [show s.begin.recordWrite = some r from write]

/-- Settles O59. -/
theorem recordsAndStores : Obligations.RecordsAndStores := by
  intro s h
  refine ⟨fun a => ?_, fun a => ?_, State.configurable_iff, fun a => ?_, fun c write => ⟨State.commitWriteEnd_of write true, ?_⟩,
    fun r write => ⟨State.recordWriteEnd_of write true, ?_⟩⟩
  · intro safe
    obtain ⟨refused, taken⟩ := State.clearFaults_inOrder a
    exact ⟨fun both => taken (not_not.mpr both), refused⟩
  · exact State.answers_of_request rfl a rfl
  · obtain ⟨moving, tests⟩ := State.commit_inOrder a
    refine ⟨moving, fun parked unconfigured bare => (tests fun off => Bool.noConfusion (off.symm.trans parked)).1 ⟨unconfigured, bare⟩,
      fun parked ready => ?_⟩
    have answers := (tests fun off => Bool.noConfusion (off.symm.trans parked)).2 fun both =>
      Bool.noConfusion (both.2.symm.trans (ready both.1))
    rw [State.heard_startCommit] at answers
    exact answers
  · exact ⟨_, State.commitWriteEnd_of write false,
      State.deliverStoreInvalid_spec { s.begin with storedSpare := { c.copy with sound := false }, commit := none }⟩
  · exact ⟨_, State.recordWriteEnd_of write false,
      State.deliverStoreInvalid_spec { s.begin with recordSpare := { r.copy with sound := false }, recordWrite := none }⟩

end Sys2Proof.Machine

/-! PROOFS. The start-up sequence (O60). -/

namespace Sys2Proof.Machine

/-! ## The fault list and its overflow count (R155) -/

/-- The list holds the earliest 16 of these entries, and the overflow count the number of the others, up to 255. -/
def State.HoldsEntries (s : State) (entries : List FaultEntry) : Prop :=
  s.faults = entries.take 16 ∧ s.overflow = min 255 (entries.length - 16)

theorem State.HoldsEntries.record {s : State} {entries : List FaultEntry} (held : s.HoldsEntries entries) (e : FaultEntry) :
    (s.record e).HoldsEntries (entries ++ [e]) := by
  obtain ⟨faults, overflow⟩ := held
  have length : s.faults.length = min 16 entries.length := by rw [faults, List.length_take]
  unfold State.HoldsEntries
  rw [State.record_eq, List.length_append, List.length_singleton]
  dsimp only
  by_cases room : entries.length < 16
  · rw [if_pos (by omega), if_pos (by omega), faults, overflow, List.take_of_length_le (by omega),
      List.take_of_length_le (by rw [List.length_append, List.length_singleton]; omega)]
    exact ⟨rfl, by omega⟩
  · rw [if_neg (by omega), if_neg (by omega), faults, overflow, List.take_append_of_le_length (by omega)]
    exact ⟨rfl, by omega⟩

/-- The entry of STORE INVALID at power-on. -/
def FaultEntry.invalidAtStart : FaultEntry := ⟨.storeInvalid, .note, none, none, none, 0, 0, none, none, none, 0, none⟩

theorem State.HoldsEntries.storeInvalid {s : State} {n : Nat} (held : s.HoldsEntries (List.replicate n .invalidAtStart))
    (start : s.now = 0) : s.deliverStoreInvalid.HoldsEntries (List.replicate (n + 1) .invalidAtStart) := by
  have entry : s.storeInvalidEntry = .invalidAtStart := by
    unfold State.storeInvalidEntry
    rw [start]
    rfl
  have recorded := held.record s.storeInvalidEntry
  rw [entry, ← List.replicate_succ'] at recorded
  rw [← entry] at recorded ⊢
  exact recorded

/-! ## Step 1: the stored configuration (R14, R35, R179) -/

/-- The settings that power-on takes. -/
def State.startSettings (s : State) : Settings := if s.storedCurrent.sound then s.storedCurrent.settings else Settings.defaults

/-- The stretch correction that power-on takes. -/
def State.startCorrection (s : State) (c : Conveyance) : Int :=
  if s.storedCurrent.sound then s.storedCurrent.corrections.get c else 0

/-- The zones of the stored configuration that power-on takes. -/
def State.startZones (s : State) : List (Nat × Zone) := if s.storedCurrent.sound then s.storedCurrent.zones else []

/-- A position record at power-on. -/
def State.startPosition (s : State) (c : Conveyance) : Position :=
  Position.atPowerOn s.startSettings.tracking.coldBand (s.startCorrection c)

/-- The part once step 1 of the start-up sequence is done. -/
def State.configured (s : State) : State :=
  { s.unpowered with
    work := s.startSettings
    positions := ⟨s.startPosition .cage, s.startPosition .counterweight, s.startPosition .skip0, s.startPosition .skip1⟩
    zones := s.startZones
    pairing := if s.storedCurrent.sound then s.storedCurrent.pairing else .unpaired
    generation := if s.storedCurrent.sound then s.storedCurrent.generation else 0
    unconfigured := !s.storedCurrent.sound
    faults := List.replicate (if s.storedCurrent.sound then 0 else 1) .invalidAtStart }

theorem State.startConfig_unpowered (s : State) : s.unpowered.startConfig = s.configured := by
  have stored : s.unpowered.storedCurrent = s.storedCurrent := rfl
  unfold State.startConfig State.configured State.startPosition State.startCorrection State.startSettings State.startZones
  rw [stored]
  cases s.storedCurrent.sound with
  | true => rfl
  | false =>
    rw [State.deliverStoreInvalid_eq]
    rfl

theorem State.configured_holdsEntries (s : State) :
    s.configured.HoldsEntries (List.replicate (if s.storedCurrent.sound then 0 else 1) .invalidAtStart) := by
  unfold State.HoldsEntries State.configured
  cases s.storedCurrent.sound <;> exact ⟨rfl, rfl⟩

/-! ## Step 2: the shaft work record (R54) -/

/-- A displaced entry moved: the table with it, and the number of entries not loaded (R54). -/
def moveZone (x : List (Nat × Zone) × Nat) (e : Nat × Zone) : List (Nat × Zone) × Nat :=
  match lowestFreeOrdinary x.1 with
  | some n => (tablePut x.1 n e.2, x.2)
  | none => (x.1, x.2 + 1)

/-- The displaced entries moved in their order: the table they leave, and a STORE INVALID for each not loaded. -/
theorem State.foldl_moveEntry (entries : List (Nat × Zone)) (m : Nat) (s : State) (n : Nat) (start : s.now = 0)
    (held : s.HoldsEntries (List.replicate (n + m) .invalidAtStart)) :
    let t := entries.foldl State.moveEntry s
    let f := entries.foldl moveZone (s.zones, n)
    t = { s with zones := f.1, faults := t.faults, overflow := t.overflow } ∧
      t.HoldsEntries (List.replicate (f.2 + m) .invalidAtStart) := by
  induction entries generalizing s n with
  | nil => exact ⟨rfl, held⟩
  | cons e rest ih =>
    rw [List.foldl_cons, List.foldl_cons]
    cases free : lowestFreeOrdinary s.zones with
    | some number =>
      have entry : s.moveEntry e = { s with zones := tablePut s.zones number e.2 } := by
        unfold State.moveEntry
        rw [free]
      have zone : moveZone (s.zones, n) e = (tablePut s.zones number e.2, n) := by
        unfold moveZone
        rw [free]
      rw [entry, zone]
      exact ih { s with zones := tablePut s.zones number e.2 } n start held
    | none =>
      have entry : s.moveEntry e = s.deliverStoreInvalid := by
        unfold State.moveEntry
        rw [free]
      have zone : moveZone (s.zones, n) e = (s.zones, n + 1) := by
        unfold moveZone
        rw [free]
      have frame := s.deliverStoreInvalid_spec.1
      have noted := held.storeInvalid start
      rw [entry, zone]
      generalize s.deliverStoreInvalid = u at frame noted ⊢
      have zones : u.zones = s.zones := by rw [frame]
      have moved := ih u (n + 1) (by rw [frame]; exact start) (by rw [Nat.add_right_comm]; exact noted)
      rw [zones] at moved
      obtain ⟨whole, entries⟩ := moved
      refine ⟨?_, entries⟩
      generalize rest.foldl State.moveEntry u = t at whole ⊢
      rw [whole, frame]

/-- The WORK entries of the recorded shaft work that power-on takes. -/
def State.startRecorded (s : State) : List (Nat × Zone) := if s.recordCurrent.sound then s.recordCurrent.work else []

/-- The zone table once the displaced entries are moved, and the number of them not loaded. -/
def State.startTable (s : State) : List (Nat × Zone) × Nat :=
  (s.startZones.filter (fun e => (tableGet s.startRecorded e.1).isSome)).foldl moveZone (placeAll s.startZones s.startRecorded, 0)

/-- The number of STORE INVALID notes of the start-up sequence. -/
def State.startNotes (s : State) : Nat :=
  s.startTable.2 + (if s.storedCurrent.sound then 0 else 1) + (if s.recordCurrent.sound then 0 else 1)

theorem State.startRecord_configured (s : State) :
    let t := s.configured.startRecord
    t = { s.configured with
          bars := if s.recordCurrent.sound then s.recordCurrent.bars else Vector.replicate 16 true
          zones := s.startTable.1
          faults := t.faults
          overflow := t.overflow } ∧
      t.HoldsEntries (List.replicate s.startNotes .invalidAtStart) := by
  have held := s.configured_holdsEntries
  intro t
  have step : t = if s.recordCurrent.sound then s.configured.loadRecord s.recordCurrent else s.configured.deliverStoreInvalid := rfl
  clear_value t
  subst step
  unfold State.startNotes State.startTable State.startRecorded
  by_cases sound : s.recordCurrent.sound = true
  · rw [if_pos sound, if_pos sound, if_pos sound, if_pos sound]
    exact State.foldl_moveEntry (s.startZones.filter (fun e => (tableGet s.recordCurrent.work e.1).isSome)) _
      { s.configured with bars := s.recordCurrent.bars, zones := placeAll s.startZones s.recordCurrent.work } 0 rfl
      (by rw [Nat.zero_add]; exact held)
  · have none_displaced : s.startZones.filter (fun e => (tableGet ([] : List (Nat × Zone)) e.1).isSome) = [] :=
      List.filter_eq_nil_iff.mpr fun e _ => Bool.noConfusion
    rw [if_neg sound, if_neg sound, if_neg sound, if_neg sound, none_displaced, List.foldl_nil, Nat.zero_add]
    exact ⟨s.configured.deliverStoreInvalid_spec.1, held.storeInvalid rfl⟩

/-! ## The lines sampled (R107, R179) -/

/-- The winder record of a winder that power-on finds with its line asserted. -/
def WinderRecord.stoppedAtStart : WinderRecord := { WinderRecord.atPowerOn with state := .tripped, brakeDemand := true }

/-- The records of the conveyances with the checks of a winder's disarmed. -/
def disarmed (w : Winder) (p : PerConveyance Position) : PerConveyance Position :=
  let q := p.set (firstConveyance w) { p.get (firstConveyance w) with armed := false }
  q.set (secondConveyance w) { q.get (secondConveyance w) with armed := false }

/-- Everything kept for a winder stands as at power-on. -/
structure State.Fresh (w : Winder) (s : State) : Prop where
  start : s.now = 0
  winder : s.winder w = WinderRecord.atPowerOn
  pipe : s.pipe w = Pipe.atPowerOn
  monitor : s.monitor w = Monitor.atPowerOn
  cap : s.caps.get w = ⟨0, none⟩
  drive : s.drives.get w = DriveLink.atPowerOn

/-- The entry to TRIPPED of a winder that stands as at power-on. -/
def State.stoppedAtStart (s : State) (w : Winder) : State :=
  { s with
    winders := s.winders.set w .stoppedAtStart
    positions := unsuppressed w (disarmed w s.positions)
    drives := s.drives.set w ⟨1, [⟨.brake, 0, 500#32⟩], []⟩
    sent := s.sent ++ [.order w 0 .brake] }

theorem State.changeState_tripped_fresh {w : Winder} {s : State} (fresh : State.Fresh w s) :
    s.changeState w .tripped =
      { s with winders := s.winders.set w (WinderRecord.atPowerOn.entered .tripped 0), positions := disarmed w s.positions } := by
  obtain ⟨start, winder, pipe, monitor, cap, -⟩ := fresh
  have other : (s.winder w).state ≠ .tripped := by
    rw [winder]
    decide
  have caps : (s.changeState w .tripped).caps = s.caps := by
    refine PerWinder.ext_get fun v => ?_
    by_cases same : v = w
    · subst same
      exact (State.changeState_cap other rfl).trans cap.symm
    · exact s.changeState_caps_ne .tripped same
  have monitors : s.monitors.set w ((s.monitor w).entered (s.work.envelope.get w).mode .tripped) = s.monitors := by
    have same : (s.monitor w).entered (s.work.envelope.get w).mode .tripped = s.monitor w := by
      rw [monitor]
      cases (s.work.envelope.get w).mode <;> rfl
    rw [same]
    exact PerWinder.set_get ..
  have pipes : s.pipes.set w { s.pipe w with settle := none } = s.pipes := by
    have same : ({ s.pipe w with settle := none } : Pipe) = s.pipe w := by
      rw [pipe]
      rfl
    rw [same]
    exact PerWinder.set_get ..
  rw [State.changeState_eq other, caps, monitors, pipes, winder, start]
  rfl

theorem State.tripWinder_fresh {w : Winder} {s : State} (fresh : State.Fresh w s) : s.tripWinder w = s.stoppedAtStart w := by
  have pipe := fresh.pipe
  have entered := State.changeState_tripped_fresh fresh
  have slots : (s.changeState w .tripped).pipe w = Pipe.atPowerOn := by
    rw [entered]
    exact pipe
  have sent : (s.drives.get w).send s.now .brake = ⟨1, [⟨.brake, 0, 500#32⟩], []⟩ := by
    rw [fresh.drive, fresh.start]
    rfl
  have tag : (s.drives.get w).tagCount = 0 := congrArg DriveLink.tagCount fresh.drive
  unfold State.tripWinder
  dsimp only
  rw [State.endActive_none _ w .aborted (by rw [slots]; rfl), State.withdrawStaged_none _ w .waiting (by rw [slots]; rfl),
    State.braked_eq, entered]
  show ({ s with
      winders := (s.winders.set w (WinderRecord.atPowerOn.entered .tripped 0)).set w
        { (s.winders.set w (WinderRecord.atPowerOn.entered .tripped 0)).get w with
          holdPending := false, stopPending := false, slowCap := none }
      positions := unsuppressed w (disarmed w s.positions)
      drives := s.drives.set w ((s.drives.get w).send s.now .brake)
      sent := s.sent ++ [.order w (s.drives.get w).tagCount .brake] } : State) = _
  rw [PerWinder.set_set, PerWinder.get_set_self, sent, tag]
  rfl

/-- The entry of a line found asserted at power-on, whose conveyance's band is the cold one (R107, R153). -/
def FaultEntry.stoppedAtStart (band : Nat) (w : Winder) : FaultEntry :=
  ⟨.emergencyStop, .trip, some w, none, none, band, 0, none, none, none, 0, none⟩

/-- A line sampled at power-on, its winder and that winder's records as at power-on: what the assertion leaves, with the other
winder untouched. -/
structure State.Sampled (w : Winder) (s t : State) : Prop where
  frame : t = { s with primary := t.primary, faults := t.faults, overflow := t.overflow, winders := t.winders
                       positions := t.positions, drives := t.drives, sent := t.sent }
  primary : t.primary = s.primary.or (if s.emergencyLine.get w then
    some (.stoppedAtStart (s.position (firstConveyance w)).band w) else none)
  entries : ∀ held, s.HoldsEntries held → t.HoldsEntries (held ++ (if s.emergencyLine.get w then
    [.stoppedAtStart (s.position (firstConveyance w)).band w] else []))
  winders : t.winders = if s.emergencyLine.get w then s.winders.set w .stoppedAtStart else s.winders
  positions : t.positions = if s.emergencyLine.get w then unsuppressed w (disarmed w s.positions) else s.positions
  drives : t.drives = if s.emergencyLine.get w then s.drives.set w ⟨1, [⟨.brake, 0, 500#32⟩], []⟩ else s.drives
  sent : t.sent = s.sent ++ (if s.emergencyLine.get w then [.order w 0 .brake] else [])

theorem State.emergencyStop_fresh {w : Winder} {s : State} (fresh : State.Fresh w s)
    (estimate : (s.position (firstConveyance w)).estimate = none) :
    s.emergencyStop w =
      (s.record (.stoppedAtStart (s.position (firstConveyance w)).band w)).stoppedAtStart w := by
  have state : (s.winder w).state = .parked := congrArg WinderRecord.state fresh.winder
  have inactive : (s.pipe w).active = none := congrArg Pipe.active fresh.pipe
  have number := State.activeNumber_of_inactive inactive
  have entry : s.entryOf ⟨.emergencyStop, .trip, w, s.leading w, s.activeNumber w, none, none⟩ =
      .stoppedAtStart (s.position (firstConveyance w)).band w := by
    rw [State.leading_of_inactive inactive, number]
    unfold State.entryOf FaultEntry.stoppedAtStart
    dsimp only [Option.getD_none]
    rw [estimate, number, fresh.start]
    rfl
  rw [State.emergencyStop_eq, if_neg (by rw [state]; decide), State.deliver_trip rfl, entry]
  generalize recorded : s.record (.stoppedAtStart (s.position (firstConveyance w)).band w) = u
  have frame := s.record_eq (.stoppedAtStart (s.position (firstConveyance w)).band w)
  rw [recorded] at frame
  have still : State.Fresh w u := by
    rw [frame]
    exact ⟨fresh.start, fresh.winder, fresh.pipe, fresh.monitor, fresh.cap, fresh.drive⟩
  have away : (u.winder w).state ≠ .tripped ∧ (u.winder w).state ≠ .lockout := by
    rw [still.winder]
    decide
  exact (State.handTrip_trip (f := ⟨.emergencyStop, .trip, w, s.leading w, s.activeNumber w, none, none⟩) away).trans
    (State.tripWinder_fresh still)

theorem State.sampleLine_fresh {w : Winder} {s : State} (fresh : State.Fresh w s)
    (estimate : (s.position (firstConveyance w)).estimate = none) : State.Sampled w s (s.sampleLine w) := by
  unfold State.sampleLine
  by_cases line : s.emergencyLine.get w = true
  · rw [if_pos line, State.emergencyStop_fresh fresh estimate]
    have noted (held : List FaultEntry) (h : s.HoldsEntries held) :=
      h.record (.stoppedAtStart (s.position (firstConveyance w)).band w)
    have frame := s.record_eq (.stoppedAtStart (s.position (firstConveyance w)).band w)
    generalize s.record (.stoppedAtStart (s.position (firstConveyance w)).band w) = u at frame noted ⊢
    have kept : u.winders = s.winders ∧ u.positions = s.positions ∧ u.drives = s.drives ∧ u.sent = s.sent ∧
        u.primary = primaryAfter s.primary (.stoppedAtStart (s.position (firstConveyance w)).band w) := by
      rw [frame]
      exact ⟨rfl, rfl, rfl, rfl, rfl⟩
    obtain ⟨winders, positions, drives, sent, primary⟩ := kept
    unfold State.stoppedAtStart
    rw [winders, positions, drives, sent]
    refine ⟨?_, ?_, fun held h => ?_, (if_pos line).symm, (if_pos line).symm, (if_pos line).symm, ?_⟩
    · rw [frame]
    · rw [if_pos line]
      refine primary.trans ?_
      cases s.primary <;> rfl
    · rw [if_pos line]
      exact noted held h
    · rw [if_pos line]
  · rw [if_neg line]
    refine ⟨rfl, ?_, fun held h => ?_, (if_neg line).symm, (if_neg line).symm, (if_neg line).symm, ?_⟩
    · rw [if_neg line, Option.or_none]
    · rw [if_neg line, List.append_nil]
      exact h
    · rw [if_neg line, List.append_nil]

section Sampled

variable {w : Winder} {s t : State} (sampled : State.Sampled w s t)
include sampled

theorem State.Sampled.position (x : Conveyance) :
    t.position x =
      if s.emergencyLine.get w = true ∧ ownerOf x = w then { s.position x with armed := false, suppressed := [] }
      else s.position x := by
  unfold State.position
  rw [sampled.positions]
  by_cases line : s.emergencyLine.get w = true
  · rw [if_pos line]
    cases w <;> cases x <;> simp only [line] <;> rfl
  · rw [if_neg line, if_neg fun both => line both.1]

theorem State.Sampled.winder :
    t.winder w = (if s.emergencyLine.get w then .stoppedAtStart else s.winder w) ∧
      t.drives.get w = (if s.emergencyLine.get w then ⟨1, [⟨.brake, 0, 500#32⟩], []⟩ else s.drives.get w) := by
  unfold State.winder
  rw [sampled.winders, sampled.drives]
  by_cases line : s.emergencyLine.get w = true
  · rw [if_pos line, if_pos line, if_pos line, if_pos line, PerWinder.get_set_self, PerWinder.get_set_self]
    exact ⟨rfl, rfl⟩
  · rw [if_neg line, if_neg line, if_neg line, if_neg line]
    exact ⟨rfl, rfl⟩

theorem State.Sampled.winder_ne {v : Winder} (other : v ≠ w) :
    t.winder v = s.winder v ∧ t.drives.get v = s.drives.get v := by
  unfold State.winder
  rw [sampled.winders, sampled.drives]
  by_cases line : s.emergencyLine.get w = true
  · rw [if_pos line, if_pos line, PerWinder.get_set_ne _ _ other, PerWinder.get_set_ne _ _ other]
    exact ⟨rfl, rfl⟩
  · rw [if_neg line, if_neg line]
    exact ⟨rfl, rfl⟩

theorem State.Sampled.fresh {v : Winder} (other : v ≠ w) (fresh : State.Fresh v s) : State.Fresh v t := by
  obtain ⟨winder, drive⟩ := sampled.winder_ne other
  have frame := sampled.frame
  refine ⟨?_, winder.trans fresh.winder, ?_, ?_, ?_, drive.trans fresh.drive⟩
  · rw [frame]
    exact fresh.start
  · rw [frame]
    exact fresh.pipe
  · rw [frame]
    exact fresh.monitor
  · rw [frame]
    exact fresh.cap

end Sampled

/-! ## The whole sequence (R179) -/

/-- The part when the lines are sampled. -/
def State.booted (s : State) : State :=
  { s.configured with
    bars := if s.recordCurrent.sound then s.recordCurrent.bars else Vector.replicate 16 true
    zones := s.startTable.1
    commissioning := s.commissioningLine
    faults := (List.replicate s.startNotes .invalidAtStart).take 16
    overflow := min 255 ((List.replicate s.startNotes FaultEntry.invalidAtStart).length - 16) }

theorem State.startUp_eq (s : State) : s.startUp = (s.booted.sampleLine .service).sampleLine .rock := by
  have begun : s.startUp =
      (({ s.unpowered.startConfig.startRecord with
          commissioning := s.unpowered.startConfig.startRecord.commissioningLine } : State).sampleLine .service).sampleLine .rock := rfl
  obtain ⟨frame, faults, overflow⟩ := s.startRecord_configured
  rw [begun, State.startConfig_unpowered]
  generalize s.configured.startRecord = u at frame faults overflow ⊢
  have whole : ({ u with commissioning := u.commissioningLine } : State) = s.booted := by
    rw [frame, faults, overflow]
    rfl
  rw [whole]

theorem State.booted_fresh (s : State) (w : Winder) : State.Fresh w s.booted := by cases w <;> exact ⟨rfl, rfl, rfl, rfl, rfl, rfl⟩

theorem State.booted_position (s : State) (x : Conveyance) : s.booted.position x = s.startPosition x := by cases x <;> rfl

/-- The winders whose lines power-on finds asserted, in the order in which they are taken (log 15). -/
def State.assertedLines (s : State) : List Winder := [Winder.service, .rock].filter (fun w => s.emergencyLine.get w)

theorem State.assertedLines_map {α : Type} (s : State) (f : Winder → α) :
    s.assertedLines.map f =
      (if s.emergencyLine.get .service then [f .service] else []) ++ (if s.emergencyLine.get .rock then [f .rock] else []) := by
  unfold State.assertedLines
  rw [List.filter_cons, List.filter_cons, List.filter_nil]
  cases s.emergencyLine.get .service <;> cases s.emergencyLine.get .rock <;> rfl

theorem State.assertedLines_head {α : Type} (s : State) (f : Winder → α) :
    (s.assertedLines.map f).head? =
      (if s.emergencyLine.get .service then some (f .service) else none).or
        (if s.emergencyLine.get .rock then some (f .rock) else none) := by
  rw [State.assertedLines_map]
  cases s.emergencyLine.get .service <;> cases s.emergencyLine.get .rock <;> rfl

/-- What the start-up sequence leaves: everything as booted but for what the asserted lines change. -/
structure State.Started (s t : State) : Prop where
  frame : t = { s.booted with primary := t.primary, faults := t.faults, overflow := t.overflow, winders := t.winders
                              positions := t.positions, drives := t.drives, sent := t.sent }
  primary : t.primary = (s.assertedLines.map (.stoppedAtStart s.startSettings.tracking.coldBand)).head?
  entries : t.HoldsEntries (List.replicate s.startNotes .invalidAtStart ++
    s.assertedLines.map (.stoppedAtStart s.startSettings.tracking.coldBand))
  winder : ∀ w, t.winder w = (if s.emergencyLine.get w then .stoppedAtStart else .atPowerOn) ∧
    t.drives.get w = (if s.emergencyLine.get w then ⟨1, [⟨.brake, 0, 500#32⟩], []⟩ else .atPowerOn)
  position : ∀ x, t.position x = { s.startPosition x with armed := !s.emergencyLine.get (ownerOf x) }
  sent : t.sent = s.assertedLines.map (fun w => .order w 0 .brake)

theorem State.startUp_started (s : State) : s.Started s.startUp := by
  rw [State.startUp_eq]
  have service := State.sampleLine_fresh (s.booted_fresh .service) (congrArg Position.estimate (s.booted_position .cage))
  generalize s.booted.sampleLine .service = u at service ⊢
  have skip : u.position .skip0 = s.startPosition .skip0 :=
    (service.position .skip0).trans ((if_neg fun both => Winder.noConfusion both.2).trans (s.booted_position .skip0))
  have lines : u.emergencyLine = s.emergencyLine := by
    rw [service.frame]
    rfl
  have rock := State.sampleLine_fresh (service.fresh (v := .rock) (by decide) (s.booted_fresh .rock)) (congrArg Position.estimate skip)
  generalize u.sampleLine .rock = t at rock ⊢
  have bands : (u.position (firstConveyance .rock)).band = s.startSettings.tracking.coldBand := congrArg Position.band skip
  have band : (s.booted.position (firstConveyance .service)).band = s.startSettings.tracking.coldBand :=
    congrArg Position.band (s.booted_position .cage)
  have line : s.booted.emergencyLine = s.emergencyLine := rfl
  refine ⟨?_, ?_, ?_, fun w => ?_, fun x => ?_, ?_⟩
  · rw [rock.frame, service.frame]
  · rw [rock.primary, service.primary, State.assertedLines_head, bands, band, lines, line]
    rfl
  · have entries := rock.entries _ (service.entries _ ⟨rfl, rfl⟩)
    rw [bands, band, lines, line, List.append_assoc, ← State.assertedLines_map] at entries
    exact entries
  · cases w with
    | service =>
      obtain ⟨winder, drive⟩ := rock.winder_ne (v := .service) (by decide)
      exact ⟨winder.trans service.winder.1, drive.trans service.winder.2⟩
    | rock =>
      obtain ⟨winder, drive⟩ := service.winder_ne (v := .rock) (by decide)
      have self := rock.winder
      rw [winder, drive, lines] at self
      exact self
  · rw [rock.position, service.position, lines, line, State.booted_position]
    cases owner : ownerOf x with
    | service =>
      rw [if_neg fun both => Winder.noConfusion both.2]
      cases s.emergencyLine.get .service <;> rfl
    | rock =>
      rw [if_neg (c := _ ∧ Winder.rock = Winder.service) fun both => Winder.noConfusion both.2]
      cases s.emergencyLine.get .rock <;> rfl
  · rw [rock.sent, service.sent, State.assertedLines_map, lines, line]
    rfl

/-- Settles O60. -/
theorem powerOnRunsTheStartUpSequence : Obligations.PowerOnRunsTheStartUpSequence := by
  intro s
  have started := s.startUp_started
  refine ⟨s.startUp, rfl, ?_⟩
  generalize s.startUp = t at started ⊢
  obtain ⟨frame, primary, ⟨faults, overflow⟩, winder, position, sent⟩ := started
  intro c r work cold correction asserted invalid stopped stored recorded moved table notes entries
  have moves : moved = moveZone := rfl
  have tables : table = s.startTable :=
    (congrArg (fun f => (s.startZones.filter (fun e => (tableGet s.startRecorded e.1).isSome)).foldl f
      (placeAll s.startZones s.startRecorded, 0)) moves :)
  have noted : notes = s.startNotes :=
    (congrArg (fun x : List (Nat × Zone) × Nat => x.2 + (if c.sound then 0 else 1) + (if r.sound then 0 else 1)) tables :)
  have listed : entries = List.replicate s.startNotes .invalidAtStart ++ s.assertedLines.map (.stoppedAtStart cold) :=
    (congrArg (fun n => List.replicate n FaultEntry.invalidAtStart ++ s.assertedLines.map (.stoppedAtStart cold)) noted :)
  refine ⟨(congrArg State.now frame :), (congrArg State.work frame :), (congrArg State.unconfigured frame :),
    (congrArg State.generation frame :), (congrArg State.commissioning frame :), (congrArg State.commissioningLine frame :), (congrArg State.emergencyLine frame :),
    (congrArg State.maintenanceKey frame :), (congrArg State.bars frame :), (congrArg State.pairing frame :), (congrArg State.storedCurrent frame :),
    (congrArg State.storedSpare frame :), (congrArg State.recordCurrent frame :), (congrArg State.recordSpare frame :), (congrArg State.commit frame :),
    (congrArg State.recordWrite frame :), (congrArg State.clutch frame :), (congrArg State.repair frame :), (congrArg State.clutchTimer frame :),
    (congrArg State.assembly frame :), (congrArg State.snapshot frame :), (congrArg State.startupCheck frame :), (congrArg State.pairBeyond frame :),
    (congrArg State.draws frame :), (congrArg State.pending frame :),
    fun k => ?_, fun l => ?_, fun d => ?_, fun w => ?_, fun x => ⟨position x, ?_⟩, fun w clear => ?_, fun w set => ?_, sent, ?_, ?_, ?_,
    primary⟩
  · rw [congrArg State.skips frame]
    cases k <;> rfl
  · rw [congrArg State.ports frame, congrArg State.frameErrors frame]
    cases l <;> exact ⟨rfl, rfl⟩
  · rw [congrArg State.drumDepth frame, congrArg State.metresFrom frame]
    cases d <;> exact ⟨rfl, rfl⟩
  · unfold State.pipe State.monitor
    rw [congrArg State.queues frame, congrArg State.ended frame, congrArg State.lastCallId frame, congrArg State.pipes frame,
      congrArg State.reports frame, congrArg State.monitors frame, congrArg State.caps frame, congrArg State.restricted frame,
      congrArg State.counters frame]
    cases w <;> exact ⟨rfl, rfl, rfl, rfl, rfl, rfl, rfl, rfl, rfl⟩
  · rw [congrArg State.metres frame, congrArg State.remainders frame, congrArg State.lastPass frame]
    cases x <;> exact ⟨rfl, rfl, rfl⟩
  · have record := winder w
    rw [clear] at record
    exact record
  · have record := winder w
    rw [set] at record
    exact record
  · exact (congrArg State.zones frame :).trans (congrArg Prod.fst tables).symm
  · rw [listed]
    exact faults
  · rw [listed]
    exact overflow

end Sys2Proof.Machine
